-- ==== Sys2Proof/Word.lean ====
section
/-! DEFINITION. The word types of the SK7240 and the keyed sequences its repeated state is held in. -/

namespace Sys2Proof

/-- A register or instruction word (R9). -/
abbrev Word := BitVec 32

/-- A byte of memory (R7). -/
abbrev Byte := BitVec 8

/-- Sparse data by key: pairs with strictly rising keys and no entry equal to what an unlisted key reads as.
The operations on it stand in Sys2Proof/Machine/Maps.lean. -/
abbrev Map (α : Type) := List (Nat × α)

end Sys2Proof
end

