-- ==== Sys2Proof/Syntax.lean ====
section
/-! DEFINITION. The commands of the SK7240: one constructor per row of the table of operations and events, with
what the outside world supplies (which instance, who sends, what was measured). -/

namespace Sys2Proof

/-- Who sends a register or memory access: source node (64–112: a node of the twin), tenant and the PRIV bit of
its header (R229). -/
structure Sender where
  src : Fin 128
  tenant : Fin 8
  priv : Bool
  deriving DecidableEq, Repr

/-- A level port of the Glaze array (R176, R189, R202): spine k of a column, an input channel, a GIO ball. -/
inductive LevelPort where
  | spine (col : Fin 16) (k : Fin 12)
  | chan (n : Fin 4) (k : Fin 8)
  | gio (g : Fin 96)
  deriving DecidableEq, Repr

/-- What befalls a flit on a link (R224–R227): a single-bit error, an uncorrectable error, lane-select wires that name
a virtual channel. -/
structure LinkErr where
  corr : Bool := false
  bad : Bool := false
  lane : Option (Fin 4) := none
  deriving DecidableEq, Repr

/-- What the detecting NI records of a schedule fault (R338). -/
structure FaultRec where
  kind : BitVec 4
  cause : BitVec 4
  peer : BitVec 7
  chan : BitVec 6
  pc : BitVec 16
  entry : Option (BitVec 6)
  detA : BitVec 8
  detB : BitVec 16
  deriving DecidableEq, Repr


namespace Machine

/-- The header of a VC1–VC3 packet (R229); `origTenant` is the ORIG_TENANT that a LOCK, RD or WR carries in its
payload where its chapter says so. -/
structure Hdr where
  route : Nat := 0
  vc : Nat := 0
  prio : Nat := 0
  typ : Nat := 0
  src : Nat := 0
  dst : Nat := 0
  tag : Nat := 0
  gen : Nat := 0
  tenant : Nat := 0
  /-- data length in words, minus 1 -/
  len : Nat := 0
  offset : Nat := 0
  status : Nat := 0
  be : Nat := 0
  priv : Bool := false
  deriving DecidableEq, Repr

/-- A whole packet at a network interface. -/
structure Pkt where
  hdr : Hdr := {}
  words : List Word := []
  /-- POISON of its flits, bit k for flit k (R223, R641) -/
  marks : BitVec 5 := 0
  corr : Bool := false
  deriving DecidableEq, Repr

/-- Some flit of the packet is POISON. -/
def Pkt.poison (p : Pkt) : Bool := p.marks != 0

/-- A 66-bit block of a Diptych lane: its sync header and its payload (R638). -/
structure Block where
  sync : BitVec 2
  data : BitVec 64
  deriving DecidableEq, Repr

/-- The blocks of one frame as the two lanes bring them, and the skew between the lanes in blocks (R639). -/
structure Lanes where
  lane0 : List Block
  lane1 : List Block
  skew : BitVec 8 := 0
  deriving DecidableEq, Repr

end Machine

/-- A transaction on port A (0, tenant T1) or B (1, T2): PMBus or I3C, on PMBus whether a PEC byte came with a
write and was right, and whether the host has ended it: a write that is not `ended` has sent its bytes and is still on the bus. -/
structure HostTx where
  port : Fin 2
  i3c : Bool := false
  pec : Option Bool := none
  ended : Bool := true
  deriving DecidableEq, Repr

/-- What takes the Diptych link down (R642 **Link-down causes**). -/
inductive LinkCause where
  | lock | replay | silent | nodeRst | soft
  deriving DecidableEq, Repr

/-- What the FAST and LOCK classes of an epoch say (R651). The spec gives these two classes their words and their
contents and no layout inside them, so a received epoch carries the values themselves: `regs` the register words of FAST and of
the group timeouts by global address; the locks with a holder (tenant and SRC) or the ABANDONED flag, and BASE; the
waits in queue order; the notices pending; the quarantines. -/
structure EpochImage where
  regs : List (BitVec 32 × Word) := []
  locks : List (Fin 256 × Option (Fin 8 × Fin 128) × Fin 16 × Bool) := []
  waits : List (Fin 256 × (Fin 8 × Fin 128) × Fin 16) := []
  notices : List ((Fin 8 × Fin 128) × Fin 4 × Fin 256 × Fin 16) := []
  quar : List (Fin 8 × Option (Fin 49)) := []
  deriving DecidableEq, Repr

/-- A STATE frame (R641): epoch words from word WOFF, or END with WLEN − 1, ECRC and what the words of
FAST and LOCK say. -/
inductive StateFrame where
  | data (epoch : BitVec 16) (woff : BitVec 12) (words : List (BitVec 64))
  | fin (epoch : BitVec 16) (last : BitVec 12) (ecrc : BitVec 32) (img : EpochImage)
  deriving DecidableEq, Repr

/-- A block that a start-up step waits for (R885, R894). -/
inductive StartBlock where
  | ref | vddl | vddg | osc | pllBeat | pllPwm | pllSerdes
  deriving DecidableEq, Repr

/-- The die whose TAP takes an instruction (R949). -/
inductive Die where
  | l | m
  deriving DecidableEq, Repr

/-- The commands, in the order of the table; each docstring names its row and its governing rule. -/
inductive Instr where
  /-- REGISTER_WRITE (R970) -/
  | registerWrite (node : Fin 49) (off : BitVec 25) (q : Sender) (be : BitVec 4) (len : Fin 16) (data : Word)
  /-- MEMORY_ACCESS (R966) -/
  | memoryAccess (node : Fin 49) (off : BitVec 25) (q : Sender) (write : Bool) (be : BitVec 4) (data : List Word)
  /-- PHASE_MAP_WRITE (R36) -/
  | phaseMapWrite (ph : Fin 96) (q : Sender) (data : Word)
  /-- PHASE_FORCE_ASSERT (R89) -/
  | phaseForceAssert (ph : Fin 96)
  /-- PHASE_FORCE_RELEASE (R89) -/
  | phaseForceRelease (ph : Fin 96)
  /-- RAIL_CEIL_CHANGE (R120) -/
  | railCeilChange (r : Fin 16)
  /-- RAIL_PERIOD_BOUNDARY (R86) -/
  | railPeriodBoundary (r : Fin 16)
  /-- PHASE_ON_EDGE (R87) -/
  | phaseOnEdge (ph : Fin 96)
  /-- PHASE_OFF_EDGE (R87) -/
  | phaseOffEdge (ph : Fin 96)
  /-- DUTY_WRITE (R88) -/
  | dutyWrite (ph : Fin 96) (q : Sender) (data : Word)
  /-- DUTY_PACKET_DELIVERY (R310) -/
  | dutyPacketDelivery (w : Fin 6) (i : Fin 64)
  /-- IMON_SAMPLE (R95) -/
  | imonSample (codes : List (BitVec 12))
  /-- BUDGET_OVERRUN (R991) -/
  | budgetOverrun
  /-- VSENSE_SAMPLE (R61) -/
  | vsenseSample (r : Fin 16) (code : BitVec 13)
  /-- RAIL_UV (R121) -/
  | railUv (r : Fin 16)
  /-- UV_BLANK_END (R126) -/
  | uvBlankEnd (r : Fin 16)
  /-- TMON_SAMPLE (R94) -/
  | tmonSample (t : Fin 32) (code : BitVec 10)
  /-- VBUS12_SAMPLE (R121) -/
  | vbus12Sample (code : BitVec 12)
  /-- VBUS48_SAMPLE (R128) -/
  | vbus48Sample (code : BitVec 12)
  /-- DROOP_ASSERT (R98) -/
  | droopAssert (r : Fin 16) (k : Fin 4) (v : BitVec 13)
  /-- DROOP_DEASSERT (R101) -/
  | droopDeassert (r : Fin 16) (k : Fin 4) (v : BitVec 13)
  /-- PHASE_OC (R121) -/
  | phaseOc (ph : Fin 96) (code : BitVec 12)
  /-- OC_LATCHED_CLEAR (R152) -/
  | ocLatchedClear (ph : Fin 96) (q : Sender)
  /-- VSET_WRITE (R104) -/
  | vsetWrite (r : Fin 16) (q : Sender) (port : Option (Fin 8)) (data : Word)
  /-- SLEW_TICK (R106) -/
  | slewTick (r : Fin 16)
  /-- RAIL_ENABLE (R108) -/
  | railEnable (r : Fin 16) (q : Sender) (data : Word)
  /-- RAIL_DISABLE (R109) -/
  | railDisable (r : Fin 16) (q : Sender) (data : Word)
  /-- RAIL_OFF_COMPLETE (R109) -/
  | railOffComplete (r : Fin 16)
  /-- RAIL_RESTART (R129) -/
  | railRestart (r : Fin 16) (q : Sender)
  /-- FALLBACK_ENTRY (R341) -/
  | fallbackEntry (r : Fin 16)
  /-- HOLD_LIMIT_EXPIRY (R343) -/
  | holdLimitExpiry (g : Fin 8)
  /-- LEVEL_PORT_TOKEN (R176) -/
  | levelPortToken (p : LevelPort) (level : Bool)
  /-- GLAZE_STAGE_CAPTURE (R156) -/
  | glazeStageCapture (col : Fin 16) (row : Fin 12) (m : Fin 16)
  /-- OUTPUT_PORT_TOKEN (R179) -/
  | outputPortToken (p : Fin 208)
  /-- RING_MEASUREMENT (R172) -/
  | ringMeasurement (col : Fin 16) (ps : BitVec 16)
  /-- VDDG_SET_WRITE (R175) -/
  | vddgSetWrite (q : Sender) (data : Word)
  /-- VDDG_REACHED (R173) -/
  | vddgReached
  /-- GMEM_ACCESS (R185) -/
  | gmemAccess (m : Fin 24) (portB : Bool)
  /-- GMEM_WINDOW_ACCESS (R187) -/
  | gmemWindowAccess (m : Fin 24) (a : Fin 4096) (q : Sender) (write : Bool) (be : BitVec 4) (data : List Word)
  /-- IN_DATA (R190) -/
  | inData (n : Fin 4) (k : Fin 8) (q : Sender) (data : Word)
  /-- OUT_CHANNEL_TOKEN (R193) -/
  | outChannelToken (n : Fin 4) (k : Fin 8)
  /-- OUT_POP (R193) -/
  | outPop (n : Fin 4) (k : Fin 8) (q : Sender)
  /-- PARKED_READ_COMPLETE (R194) -/
  | parkedReadComplete (n : Fin 4)
  /-- SNAP_REQ (R200) -/
  | snapReq (n : Fin 4) (q : Sender) (data : Word)
  /-- COUNTER_CAPTURE_DONE (R198) -/
  | counterCaptureDone (n : Fin 4) (k : Fin 8) (line : Bool)
  /-- PROBE_WRITE (R206) -/
  | probeWrite (p : Fin 8) (q : Sender) (data : Word)
  /-- FLIT_HOP (R980) -/
  | flitHop (r : Fin 49) (p : Fin 5) (e : LinkErr)
  /-- REQUEST_ACCEPT (R280) -/
  | requestAccept (n : Fin 49)
  /-- PACKET_INJECT (R250) -/
  | packetInject (n : Fin 49) (vc : Fin 4) (tag : Fin 64)
  /-- RESPONSE_ACCEPT (R257) -/
  | responseAccept (n : Fin 49)
  /-- REQUEST_TIMEOUT (R262) -/
  | requestTimeout (n : Fin 49) (tag : Fin 64)
  /-- TAG_HOLDBACK_END (R259) -/
  | tagHoldbackEnd (n : Fin 49) (tag : Fin 64)
  /-- TAG_WAIT_ISSUE (R256) -/
  | tagWaitIssue (n : Fin 49) (tag : Fin 64)
  /-- SIEVE_REFILL (R249) -/
  | sieveRefill (n : Fin 49) (ten : Fin 8)
  /-- SIEVE_WAIT_RELEASE (R252) -/
  | sieveWaitRelease (n : Fin 49) (ten : Fin 8) (vc : Fin 4) (tag : Fin 64)
  /-- ROUTE_ENTRY_WRITE (R290) -/
  | routeEntryWrite (n : Fin 49) (e : Fin 64) (q : Sender) (data : Word)
  /-- NODE_RST (R985) -/
  | nodeRst (n : Fin 49) (q : Sender)
  /-- NODE_RESET_BEGIN (R273) -/
  | nodeResetBegin (n : Fin 49)
  /-- NODE_RESET_END (R982) -/
  | nodeResetEnd (n : Fin 49)
  /-- TUNNEL_RECEIVE (R267) -/
  | tunnelReceive
  /-- PLANE_BEAT (R301) -/
  | planeBeat (late : Option (Fin 49 × Fin 5))
  /-- ROUND_START (R303) -/
  | roundStart
  /-- STREAM_CAPTURE (R312) -/
  | streamCapture (b1 : Bool) (i : Fin 64)
  /-- SLOT_TX (R309) -/
  | slotTx (n : Fin 49) (i : Fin 64)
  /-- VC0_ARRIVAL (R322) -/
  | vc0Arrival (n : Fin 49)
  /-- SLOT_DELIVERY (R313) -/
  | slotDelivery (n : Fin 49) (i : Fin 64)
  /-- REPLY_SAMPLE (R319) -/
  | replySample (g : Fin 4) (i : Fin 64)
  /-- PLANE_HOLD_SAMPLE (R320) -/
  | planeHoldSample (g : Fin 4)
  /-- GLAZE_LATE (R324) -/
  | glazeLate (g : Fin 4)
  /-- DQX_COMMAND (R330) -/
  | dqxCommand (e : Fin 24)
  /-- DQX_READ_DATA (R332) -/
  | dqxReadData (e : Fin 24)
  /-- SCHED_FAULT (R337) -/
  | schedFault (n : Fin 49) (r : FaultRec)
  /-- PLANE_RESTART (R345) -/
  | planeRestart (q : Sender)
  /-- PLANE_RESTART_START (R345) -/
  | planeRestartStart
  /-- SWITCH (R347) -/
  | switch (q : Sender) (sel : Fin 4)
  /-- SCHED_SWITCHED (R347) -/
  | schedSwitched
  /-- ADD (R433) -/
  | add (t : Fin 28) (rd rs1 rs2 : BitVec 5)
  /-- ADD_S (R433) -/
  | addS (t : Fin 28) (rd rs1 rs2 : BitVec 5)
  /-- SUB (R433) -/
  | sub (t : Fin 28) (rd rs1 rs2 : BitVec 5)
  /-- SUB_S (R433) -/
  | subS (t : Fin 28) (rd rs1 rs2 : BitVec 5)
  /-- AND (R433) -/
  | and_ (t : Fin 28) (rd rs1 rs2 : BitVec 5)
  /-- OR (R433) -/
  | or_ (t : Fin 28) (rd rs1 rs2 : BitVec 5)
  /-- XOR (R433) -/
  | xor_ (t : Fin 28) (rd rs1 rs2 : BitVec 5)
  /-- SLL (R433) -/
  | sll (t : Fin 28) (rd rs1 rs2 : BitVec 5)
  /-- SRL (R433) -/
  | srl (t : Fin 28) (rd rs1 rs2 : BitVec 5)
  /-- SRA (R433) -/
  | sra (t : Fin 28) (rd rs1 rs2 : BitVec 5)
  /-- SLLI (R433) -/
  | slli (t : Fin 28) (rd rs1 sh : BitVec 5)
  /-- SRLI (R433) -/
  | srli (t : Fin 28) (rd rs1 sh : BitVec 5)
  /-- SRAI (R433) -/
  | srai (t : Fin 28) (rd rs1 sh : BitVec 5)
  /-- SLT (R433) -/
  | slt (t : Fin 28) (rd rs1 rs2 : BitVec 5)
  /-- SLTU (R433) -/
  | sltu (t : Fin 28) (rd rs1 rs2 : BitVec 5)
  /-- MIN (R433) -/
  | min (t : Fin 28) (rd rs1 rs2 : BitVec 5)
  /-- MIN_U (R433) -/
  | minU (t : Fin 28) (rd rs1 rs2 : BitVec 5)
  /-- MAX (R433) -/
  | max (t : Fin 28) (rd rs1 rs2 : BitVec 5)
  /-- MAX_U (R433) -/
  | maxU (t : Fin 28) (rd rs1 rs2 : BitVec 5)
  /-- ABS (R433) -/
  | abs (t : Fin 28) (rd rs1 z : BitVec 5)
  /-- CLZ (R434) -/
  | clz (t : Fin 28) (rd rs1 z : BitVec 5)
  /-- SAT (R433) -/
  | sat (t : Fin 28) (rd rs1 n : BitVec 5)
  /-- SAT_U (R433) -/
  | satU (t : Fin 28) (rd rs1 n : BitVec 5)
  /-- ADDI (R435) -/
  | addi (t : Fin 28) (rd rs1 : BitVec 5) (imm : BitVec 16)
  /-- ANDI (R435) -/
  | andi (t : Fin 28) (rd rs1 : BitVec 5) (imm : BitVec 16)
  /-- ORI (R435) -/
  | ori (t : Fin 28) (rd rs1 : BitVec 5) (imm : BitVec 16)
  /-- XORI (R435) -/
  | xori (t : Fin 28) (rd rs1 : BitVec 5) (imm : BitVec 16)
  /-- LUI (R435) -/
  | lui (t : Fin 28) (rd z : BitVec 5) (imm : BitVec 16)
  /-- MUL (R436) -/
  | mul (t : Fin 28) (rd rs1 rs2 : BitVec 5)
  /-- MULH (R436) -/
  | mulh (t : Fin 28) (rd rs1 rs2 : BitVec 5)
  /-- MULH_U (R436) -/
  | mulhU (t : Fin 28) (rd rs1 rs2 : BitVec 5)
  /-- MULQ_15 (R436) -/
  | mulq15 (t : Fin 28) (rd rs1 rs2 : BitVec 5)
  /-- MULQ_31 (R436) -/
  | mulq31 (t : Fin 28) (rd rs1 rs2 : BitVec 5)
  /-- MULQ_15R (R436) -/
  | mulq15R (t : Fin 28) (rd rs1 rs2 : BitVec 5)
  /-- MULQ_31R (R436) -/
  | mulq31R (t : Fin 28) (rd rs1 rs2 : BitVec 5)
  /-- MACQ_15 (R437) -/
  | macq15 (t : Fin 28) (z : BitVec 3) (ad : BitVec 2) (rs1 rs2 : BitVec 5)
  /-- MACQ_31 (R437) -/
  | macq31 (t : Fin 28) (z : BitVec 3) (ad : BitVec 2) (rs1 rs2 : BitVec 5)
  /-- MACQ_31R (R437) -/
  | macq31R (t : Fin 28) (z : BitVec 3) (ad : BitVec 2) (rs1 rs2 : BitVec 5)
  /-- MSUQ_15 (R437) -/
  | msuq15 (t : Fin 28) (z : BitVec 3) (ad : BitVec 2) (rs1 rs2 : BitVec 5)
  /-- MSUQ_31 (R437) -/
  | msuq31 (t : Fin 28) (z : BitVec 3) (ad : BitVec 2) (rs1 rs2 : BitVec 5)
  /-- MSUQ_31R (R437) -/
  | msuq31R (t : Fin 28) (z : BitVec 3) (ad : BitVec 2) (rs1 rs2 : BitVec 5)
  /-- ACCR_Q31 (R438) -/
  | accrQ31 (t : Fin 28) (rd : BitVec 5) (z : BitVec 3) (as_ : BitVec 2) (z2 sh : BitVec 5) (r : BitVec 1)
  /-- ACCR_Q15 (R438) -/
  | accrQ15 (t : Fin 28) (rd : BitVec 5) (z : BitVec 3) (as_ : BitVec 2) (z2 sh : BitVec 5) (r : BitVec 1)
  /-- ACCR_HI (R438) -/
  | accrHi (t : Fin 28) (rd : BitVec 5) (z : BitVec 3) (as_ : BitVec 2) (z2 : BitVec 5) (z3 : BitVec 6)
  /-- ACCR_LO (R438) -/
  | accrLo (t : Fin 28) (rd : BitVec 5) (z : BitVec 3) (as_ : BitVec 2) (z2 : BitVec 5) (z3 : BitVec 6)
  /-- ACCW_PAIR (R439) -/
  | accwPair (t : Fin 28) (z : BitVec 3) (ad : BitVec 2) (rs1 rs2 : BitVec 5) (z2 : BitVec 6)
  /-- ACCW_Q31 (R439) -/
  | accwQ31 (t : Fin 28) (z : BitVec 3) (ad : BitVec 2) (rs1 rs2 : BitVec 5) (z2 : BitVec 6)
  /-- ACCW_Q15 (R439) -/
  | accwQ15 (t : Fin 28) (z : BitVec 3) (ad : BitVec 2) (rs1 rs2 : BitVec 5) (z2 : BitVec 6)
  /-- ACCZ (R439) -/
  | accz (t : Fin 28) (z : BitVec 3) (ad : BitVec 2) (z2 : BitVec 10) (z3 : BitVec 6)
  /-- TBLI (R440) -/
  | tbli (t : Fin 28) (rd rs1 rs2 z : BitVec 5) (r sg : BitVec 1) (k : BitVec 4)
  /-- LDW (R443) -/
  | ldw (t : Fin 28) (rd rs1 : BitVec 5) (imm : BitVec 16)
  /-- LDH (R443) -/
  | ldh (t : Fin 28) (rd rs1 : BitVec 5) (imm : BitVec 16)
  /-- LDHU (R443) -/
  | ldhu (t : Fin 28) (rd rs1 : BitVec 5) (imm : BitVec 16)
  /-- LDB (R443) -/
  | ldb (t : Fin 28) (rd rs1 : BitVec 5) (imm : BitVec 16)
  /-- LDBU (R443) -/
  | ldbu (t : Fin 28) (rd rs1 : BitVec 5) (imm : BitVec 16)
  /-- STW (R445) -/
  | stw (t : Fin 28) (rt rs1 : BitVec 5) (imm : BitVec 16)
  /-- STH (R447) -/
  | sth (t : Fin 28) (rt rs1 : BitVec 5) (imm : BitVec 16)
  /-- STB (R447) -/
  | stb (t : Fin 28) (rt rs1 : BitVec 5) (imm : BitVec 16)
  /-- BEQ (R458) -/
  | beq (t : Fin 28) (rs2 rs1 : BitVec 5) (imm : BitVec 16)
  /-- BNE (R458) -/
  | bne (t : Fin 28) (rs2 rs1 : BitVec 5) (imm : BitVec 16)
  /-- BLT (R458) -/
  | blt (t : Fin 28) (rs2 rs1 : BitVec 5) (imm : BitVec 16)
  /-- BGE (R458) -/
  | bge (t : Fin 28) (rs2 rs1 : BitVec 5) (imm : BitVec 16)
  /-- BLTU (R458) -/
  | bltu (t : Fin 28) (rs2 rs1 : BitVec 5) (imm : BitVec 16)
  /-- BGEU (R458) -/
  | bgeu (t : Fin 28) (rs2 rs1 : BitVec 5) (imm : BitVec 16)
  /-- JAL (R460) -/
  | jal (t : Fin 28) (rd z : BitVec 5) (imm : BitVec 16)
  /-- JALR (R460) -/
  | jalr (t : Fin 28) (rd rs1 : BitVec 5) (imm : BitVec 16)
  /-- LOOP (R462) -/
  | loop (t : Fin 28) (z rs1 : BitVec 5) (imm : BitVec 16)
  /-- SLOTTX (R465) -/
  | slottx (t : Fin 28) (z rs1 z2 : BitVec 5) (z3 : BitVec 10) (n6 : BitVec 1)
  /-- SLOTRX (R467) -/
  | slotrx (t : Fin 28) (rd z : BitVec 5) (z2 : BitVec 9) (hi : BitVec 1) (ch : BitVec 6)
  /-- GLZRD (R468) -/
  | glzrd (t : Fin 28) (rd z : BitVec 5) (z2 : BitVec 12) (pair : BitVec 1) (ch : BitVec 3)
  /-- GLZWR (R473) -/
  | glzwr (t : Fin 28) (z rs1 z2 : BitVec 5) (z3 : BitVec 11)
  /-- DQPUSH (R474) -/
  | dqpush (t : Fin 28) (z rs1 rs2 : BitVec 5) (z2 : BitVec 11)
  /-- DQPOP (R475) -/
  | dqpop (t : Fin 28) (rd z z2 : BitVec 5) (z3 : BitVec 11)
  /-- DQWAIT (R476) -/
  | dqwait (t : Fin 28) (z : BitVec 10) (n : BitVec 8) (z2 : BitVec 3) (k : BitVec 5)
  /-- LTRD (R479) -/
  | ltrd (t : Fin 28) (z : BitVec 2) (tk : BitVec 3) (rs1 : BitVec 5) (imm : BitVec 16)
  /-- LTWR (R479) -/
  | ltwr (t : Fin 28) (z : BitVec 2) (tk : BitVec 3) (rs1 rs2 : BitVec 5) (z2 : BitVec 11)
  /-- LT_WAIT_ISSUE (R484) -/
  | ltWaitIssue (t : Fin 28)
  /-- TICKET_LANDING (R481) -/
  | ticketLanding (t : Fin 28) (k : Fin 8)
  /-- LTWAIT (R485) -/
  | ltwait (t : Fin 28) (rd rs1 z : BitVec 5) (z2 : BitVec 11)
  /-- LTWAIT_COMPLETE (R485) -/
  | ltwaitComplete (t : Fin 28)
  /-- EVPOST (R488) -/
  | evpost (t : Fin 28) (z rs1 rs2 : BitVec 5) (code : BitVec 11)
  /-- LKACQ (R490) -/
  | lkacq (t : Fin 28) (rd rs1 : BitVec 5) (z : BitVec 12) (prio : BitVec 4)
  /-- LKACQ_COMPLETE (R490) -/
  | lkacqComplete (t : Fin 28)
  /-- LKREL (R493) -/
  | lkrel (t : Fin 28) (z rs1 z2 : BitVec 5) (z3 : BitVec 11)
  /-- MFS (R494) -/
  | mfs (t : Fin 28) (rd z : BitVec 5) (z2 : BitVec 4) (sr : BitVec 12)
  /-- MTS (R494) -/
  | mts (t : Fin 28) (rt z : BitVec 5) (z2 : BitVec 4) (sr : BitVec 12)
  /-- ECALL (R496) -/
  | ecall (t : Fin 28) (z : BitVec 10) (code : BitVec 16)
  /-- ERET (R396) -/
  | eret (t : Fin 28) (z : BitVec 15)
  /-- WFI (R405) -/
  | wfi (t : Fin 28) (z : BitVec 15)
  /-- WFI_WAKE (R405) -/
  | wfiWake (t : Fin 28)
  /-- FENCE (R497) -/
  | fence (t : Fin 28) (z : BitVec 15)
  /-- HALT (R304) -/
  | halt (t : Fin 28) (z : BitVec 15)
  /-- INTERRUPT_ENTRY (R401) -/
  | interruptEntry (t : Fin 28)
  /-- TIMER_EXPIRY (R403) -/
  | timerExpiry (t : Fin 28) (j : Fin 2)
  /-- ISET (R413) -/
  | iset (t : Fin 28) (q : Sender) (data : Word)
  /-- ECC_WRITEBACK (R372) -/
  | eccWriteback (t : Fin 28) (imem : Bool) (a : BitVec 17)
  /-- LOCK_ACQUIRE (R523) -/
  | lockAcquire (q : Sender) (orig : Fin 8) (lock : Fin 256) (prio : Fin 16)
  /-- LOCK_TRY (R525) -/
  | lockTry (q : Sender) (orig : Fin 8) (lock : Fin 256) (prio : Fin 16)
  /-- LOCK_RELEASE (R526) -/
  | lockRelease (q : Sender) (orig : Fin 8) (lock : Fin 256)
  /-- NOTICE_SEND_PENDING (R534) -/
  | noticeSendPending
  /-- NOTICE_DELIVERY (R533) -/
  | noticeDelivery (p : Fin 4)
  /-- LOCK_HOLD_TMO (R543) -/
  | lockHoldTmo (lock : Fin 256)
  /-- LOCK_FORCE (R544) -/
  | lockForce (lock : Fin 256) (q : Sender)
  /-- LOCK_QUARANTINE_END (R548) -/
  | lockQuarantineEnd (t : Fin 8) (n : Option (Fin 49))
  /-- PAGE (R577) -/
  | page (x : HostTx) (v : Option (BitVec 8))
  /-- OPERATION (R578) -/
  | operation (x : HostTx) (v : Option (BitVec 8))
  /-- CLEAR_FAULTS (R579) -/
  | clearFaults (x : HostTx)
  /-- CAPABILITY (R578) -/
  | capability (x : HostTx)
  /-- VOUT_MODE (R138) -/
  | voutMode (x : HostTx)
  /-- VOUT_COMMAND (R574) -/
  | voutCommand (x : HostTx) (v : Option (BitVec 16))
  /-- VOUT_MAX (R578) -/
  | voutMax (x : HostTx)
  /-- STATUS_BYTE (R579) -/
  | statusByte (x : HostTx)
  /-- STATUS_WORD (R579) -/
  | statusWord (x : HostTx)
  /-- STATUS_VOUT (R579) -/
  | statusVout (x : HostTx)
  /-- STATUS_IOUT (R579) -/
  | statusIout (x : HostTx)
  /-- STATUS_INPUT (R579) -/
  | statusInput (x : HostTx)
  /-- STATUS_TEMPERATURE (R579) -/
  | statusTemperature (x : HostTx)
  /-- STATUS_CML (R579) -/
  | statusCml (x : HostTx)
  /-- READ_VIN (R139) -/
  | readVin (x : HostTx)
  /-- READ_IIN (R139) -/
  | readIin (x : HostTx)
  /-- READ_VOUT (R138) -/
  | readVout (x : HostTx)
  /-- READ_IOUT (R139) -/
  | readIout (x : HostTx)
  /-- READ_TEMPERATURE_1 (R139) -/
  | readTemperature1 (x : HostTx)
  /-- READ_POUT (R139) -/
  | readPout (x : HostTx)
  /-- PMBUS_REVISION (R578) -/
  | pmbusRevision (x : HostTx)
  /-- MFR_ID (R578) -/
  | mfrId (x : HostTx)
  /-- MFR_MODEL (R578) -/
  | mfrModel (x : HostTx)
  /-- MFR_REVISION (R578) -/
  | mfrRevision (x : HostTx)
  /-- MFR_LOCK (R590) -/
  | mfrLock (x : HostTx) (seq lock prio op : BitVec 8)
  /-- MFR_NOTICE_READ (R589) -/
  | mfrNoticeRead (x : HostTx)
  /-- MFR_MSG_SEND (R604) -/
  | mfrMsgSend (x : HostTx) (seq : BitVec 8) (body : List Byte)
  /-- MFR_MSG_READ (R589) -/
  | mfrMsgRead (x : HostTx)
  /-- MFR_CNT_READ (R752) -/
  | mfrCntRead (x : HostTx) (node idx : BitVec 8)
  /-- MFR_REG_READ (R591) -/
  | mfrRegRead (x : HostTx) (addr : BitVec 32)
  /-- MFR_REG_WRITE (R591) -/
  | mfrRegWrite (x : HostTx) (seq : BitVec 8) (addr : BitVec 32) (data : Word)
  /-- MFR_TENANT_STATUS (R589) -/
  | mfrTenantStatus (x : HostTx)
  /-- MFR_RAIL_RESTART (R589) -/
  | mfrRailRestart (x : HostTx) (v : BitVec 8)
  /-- MFR_TENANT_RESET (R614) -/
  | mfrTenantReset (x : HostTx) (v : BitVec 8)
  /-- RETRY_CACHE_EXPIRY (R592) -/
  | retryCacheExpiry (t : Fin 8)
  /-- STRETCH_TIMEOUT (R595) -/
  | stretchTimeout (p : Fin 2)
  /-- SMBUS_BUS_TIMEOUT (R575) -/
  | smbusBusTimeout (p : Fin 2)
  /-- ALERT_RESPONSE (R612) -/
  | alertResponse (p : Fin 2)
  /-- ALERT_REASSERT (R612) -/
  | alertReassert (p : Fin 2)
  /-- IBI_RETRY (R612) -/
  | ibiRetry (p : Fin 2)
  /-- ENTDAA (R581) -/
  | entdaa (p : Fin 2) (addr : BitVec 7)
  /-- SETDASA (R581) -/
  | setdasa (p : Fin 2) (stat addr : BitVec 7)
  /-- RSTDAA (R582) -/
  | rstdaa (p : Fin 2)
  /-- ENEC (R582) -/
  | enec (p : Fin 2) (ev : BitVec 8)
  /-- DISEC (R582) -/
  | disec (p : Fin 2) (ev : BitVec 8)
  /-- GETPID (R582) -/
  | getpid (p : Fin 2)
  /-- GETBCR (R581) -/
  | getbcr (p : Fin 2)
  /-- GETDCR (R581) -/
  | getdcr (p : Fin 2)
  /-- GETSTATUS (R582) -/
  | getstatus (p : Fin 2)
  /-- GETMWL (R582) -/
  | getmwl (p : Fin 2)
  /-- GETMRL (R582) -/
  | getmrl (p : Fin 2)
  /-- SETMWL (R582) -/
  | setmwl (p : Fin 2) (v : BitVec 16)
  /-- SETMRL (R582) -/
  | setmrl (p : Fin 2) (v : BitVec 16)
  /-- HDR_EXIT_PATTERN (R582) -/
  | hdrExitPattern (p : Fin 2)
  /-- AVS_WRITE_COMMIT (R64) -/
  | avsWriteCommit (p : Fin 8) (sel : Fin 16) (mv : BitVec 16)
  /-- AVS_WRITE_HOLD (R587) -/
  | avsWriteHold (p : Fin 8) (sel : Fin 16) (mv : BitVec 16)
  /-- AVS_VOLTAGE_READ (R585) -/
  | avsVoltageRead (p : Fin 8) (sel : Fin 16)
  /-- AVS_SLEW_WRITE (R585) -/
  | avsSlewWrite (p : Fin 8) (sel : Fin 16) (up dn : BitVec 8)
  /-- AVS_SLEW_READ (R585) -/
  | avsSlewRead (p : Fin 8) (sel : Fin 16)
  /-- AVS_CURRENT_READ (R140) -/
  | avsCurrentRead (p : Fin 8) (sel : Fin 16)
  /-- AVS_TEMPERATURE_READ (R140) -/
  | avsTemperatureRead (p : Fin 8) (sel : Fin 16)
  /-- AVS_STATUS_READ (R588) -/
  | avsStatusRead (p : Fin 8) (sel : Fin 16)
  /-- AVS_RESET_DEFAULT (R585) -/
  | avsResetDefault (p : Fin 8) (sel : Fin 16)
  /-- AVS_LATE (R74) -/
  | avsLate (p : Fin 8) (r : Fin 16) (beats : BitVec 16)
  /-- RING_TAIL_WRITE (R603) -/
  | ringTailWrite (t : Fin 8) (q : Sender) (data : Word)
  /-- MSG_TO_OUTBOX (R608) -/
  | msgToOutbox
  /-- MSG_TO_INBOX (R609) -/
  | msgToInbox (p : Fin 4)
  /-- HUB_NOTICE_RECEIVE (R611) -/
  | hubNoticeReceive
  /-- TENANT_RESET (R615) -/
  | tenantReset (t : Fin 8) (q : Sender)
  /-- TENANT_RESET_END (R617) -/
  | tenantResetEnd (t : Fin 8)
  /-- FORWARD_COMMAND (R620) -/
  | forwardCommand (x : HostTx) (code : BitVec 8) (bytes : List Byte)
  /-- FORWARD_SLOT_WRITE (R621) -/
  | forwardSlotWrite
  /-- HEARTBEAT_SEND (R646) -/
  | heartbeatSend
  /-- HEARTBEAT_RECEIVE (R66) -/
  | heartbeatReceive (w uid : BitVec 64) (ack : Option (BitVec 8))
  /-- PRIMARY_SILENT (R66) -/
  | primarySilent
  /-- TAKE_N_ASSERT (R656) -/
  | takeNAssert
  /-- TAKEOVER_QUALIFIED (R659) -/
  | takeoverQualified (high : List (BitVec 17))
  /-- TAKEOVER_DRIVE (R659) -/
  | takeoverDrive
  /-- OWN_IN_SAMPLE (R661) -/
  | ownInSample (level : Bool)
  /-- OWN_IN_ASSERT (R637) -/
  | ownInAssert
  /-- WITHDRAW_RETRY (R661) -/
  | withdrawRetry
  /-- LINK_TRAIN_START (R642) -/
  | linkTrainStart
  /-- LINK_UP (R642) -/
  | linkUp (w uid : BitVec 64)
  /-- LINK_TRAIN_TIMEOUT (R642) -/
  | linkTrainTimeout
  /-- TWIN_LINK_DOWN (R643) -/
  | twinLinkDown (cause : LinkCause)
  /-- LINK_RST (R642) -/
  | linkRst (q : Sender)
  /-- LATTICE_FRAME_RECEIVE (R644) -/
  | latticeFrameReceive (lane0 lane1 : List Machine.Block) (skew : BitVec 8)
  /-- ACK_RECEIVE (R644) -/
  | ackReceive (seq : BitVec 8) (good : Bool)
  /-- NAK_RECEIVE (R644) -/
  | nakReceive (seq : BitVec 8) (good : Bool)
  /-- REPLAY_TIMEOUT (R644) -/
  | replayTimeout
  /-- REPLAY_LIMIT (R645) -/
  | replayLimit
  /-- EPOCH_START (R652) -/
  | epochStart
  /-- EPOCH_NOW (R652) -/
  | epochNow (q : Sender)
  /-- STATE_FRAME_RECEIVE (R653) -/
  | stateFrameReceive (fseq : BitVec 8) (ack : Option (BitVec 8)) (fr : StateFrame)
  /-- EPOCH_APPLY_DONE (R654) -/
  | epochApplyDone
  /-- HANDOVER (R658) -/
  | handover (q : Sender)
  /-- HANDOVER_RELEASE (R658) -/
  | handoverRelease
  /-- HANDOVER_FAIL (R658) -/
  | handoverFail
  /-- NEG_TIMEOUT (R648) -/
  | negTimeout
  /-- CHANNEL_MODE_WRITE (R679) -/
  | channelModeWrite (n : Fin 16) (q : Sender) (mode : BitVec 2)
  /-- CHANNEL_CONFIG_WRITE (R682) -/
  | channelConfigWrite (n : Fin 16) (q : Sender) (off : Fin 2) (data : Word)
  /-- LATCH_CLR (R684) -/
  | latchClr (n : Fin 16) (q : Sender)
  /-- LSW_OC (R689) -/
  | lswOc (n : Fin 16) (cur : BitVec 12)
  /-- PAUSE_END (R689) -/
  | pauseEnd (n : Fin 16)
  /-- TRIPS_RESET (R689) -/
  | tripsReset (n : Fin 16)
  /-- BLANKING_END (R685) -/
  | blankingEnd (n : Fin 16)
  /-- LSW_THERM (R693) -/
  | lswTherm (n : Fin 16) (tj : Int) (dt : BitVec 8)
  /-- THERM_CLEAR (R694) -/
  | thermClear (n : Fin 16) (tj : Int) (dt : BitVec 8)
  /-- FOLLOW_INPUT_EDGE (R695) -/
  | followInputEdge (n : Fin 16) (level : Bool)
  /-- FOLLOW_BAR_END (R695) -/
  | followBarEnd (n : Fin 16) (rise : Bool)
  /-- CHANNEL_SAMPLE (R717) -/
  | channelSample (n : Fin 16) (iout : BitVec 12) (tj : BitVec 9) (dt : BitVec 8)
  /-- WDT_KICK (R699) -/
  | wdtKick (q : Sender) (data : Word)
  /-- LSW_WDT (R700) -/
  | lswWdt
  /-- LSW_BUS_OFF (R704) -/
  | lswBusOff
  /-- LSW_BUS_RETURN (R705) -/
  | lswBusReturn
  /-- RETURN_SLOT (R705) -/
  | returnSlot
  /-- LSW_RETAIN_LOST (R709) -/
  | lswRetainLost
  /-- MIRROR_WORD_WRITE (R712) -/
  | mirrorWordWrite (n : Fin 16) (q : Sender) (data : Word)
  /-- EVENT_RECEIVE (R737) -/
  | eventReceive (loc held : Bool)
  /-- SEQ_OVF (R739) -/
  | seqOvf
  /-- EVENT_RING_TAIL_WRITE (R743) -/
  | eventRingTailWrite (r : Fin 4) (q : Sender) (data : Word)
  /-- COUNTER_TICK (R746) -/
  | counterTick
  /-- BANK_CLR (R748) -/
  | bankClr (n : Fin 49) (q : Sender)
  /-- CC_CLR (R748) -/
  | ccClr (q : Sender)
  /-- SAMPLE (R755) -/
  | sample (k : Fin 8) (q : Sender) (data : Word)
  /-- FLUSH (R759) -/
  | flush (k : Fin 8) (q : Sender)
  /-- TRACE_PAGE_WRITE (R760) -/
  | tracePageWrite (k : Fin 8)
  /-- SKB_SECOND_TICK (R762) -/
  | skbSecondTick (temp : Int)
  /-- SKB_MS_TICK (R763) -/
  | skbMsTick
  /-- DROOP_EPISODE_END (R764) -/
  | droopEpisodeEnd (r : Fin 16)
  /-- PERSIST_TIMER (R771) -/
  | persistTimer
  /-- PERSIST_NOW (R771) -/
  | persistNow (q : Sender)
  /-- SKB_PERSIST (R771) -/
  | skbPersist
  /-- CMD_WRITE (R799) -/
  | cmdWrite (q : Sender) (data : Word)
  /-- NV_PAGE_WRITE_START (R801) -/
  | nvPageWriteStart
  /-- NV_ERASE_PULSE_DONE (R797) -/
  | nvErasePulseDone (clean : Bool)
  /-- NV_PROGRAM_PULSE_DONE (R797) -/
  | nvProgramPulseDone (good : Bool)
  /-- NV_WINDOW_READ (R795) -/
  | nvWindowRead (a : BitVec 22) (q : Sender) (len : Fin 16)
  /-- KEYCMD (R825) -/
  | keycmd (q : Sender) (data : Word)
  /-- NULL (R844) -/
  | null (q : Sender)
  /-- WCFG (R845) -/
  | wcfg (q : Sender)
  /-- RCFG (R846) -/
  | rcfg (q : Sender)
  /-- START (R854) -/
  | start (q : Sender)
  /-- SHUTDOWN (R857) -/
  | shutdown (q : Sender)
  /-- GRESTORE (R844) -/
  | grestore (q : Sender)
  /-- OVERPAINT_BEGIN (R866) -/
  | overpaintBegin (q : Sender) (r : Fin 8)
  /-- OVERPAINT_END (R869) -/
  | overpaintEnd (q : Sender) (r : Fin 8)
  /-- FDATA (R845) -/
  | fdata (q : Sender) (data : Word)
  /-- FDOUT (R846) -/
  | fdout (q : Sender)
  /-- PL_DATA (R847) -/
  | plData (q : Sender) (data : Word)
  /-- FABRIC_CHECK_DONE (R849) -/
  | fabricCheckDone
  /-- STARTUP_STEP (R854) -/
  | startupStep (region : Option (Fin 8))
  /-- GLAZE_LOCK_TMO (R856) -/
  | glazeLockTmo
  /-- SCRUB_VISIT (R861) -/
  | scrubVisit (upsets : List (Fin 96 × BitVec 16))
  /-- REGION_CHECK_DONE (R870) -/
  | regionCheckDone (r : Fin 8)
  /-- VAUX_LOSS (R884) -/
  | vauxLoss
  /-- POWER_ON_RESET_END (R884) -/
  | powerOnResetEnd
  /-- STEP_S0 (R885) -/
  | stepS0 (pmaddr : BitVec 3) (pref : BitVec 2) (oscOk : Bool)
  /-- STEP_S1 (R885) -/
  | stepS1
  /-- STEP_S2 (R886) -/
  | stepS2
  /-- STEP_S3 (R885) -/
  | stepS3
  /-- STEP_S4 (R885) -/
  | stepS4
  /-- STEP_S5 (R885) -/
  | stepS5
  /-- STEP_S6 (R885) -/
  | stepS6
  /-- STEP_S7 (R885) -/
  | stepS7 (fail : Option (BitVec 8)) (nor : List Byte)
  /-- STEP_S8 (R885) -/
  | stepS8
  /-- STEP_S9 (R885) -/
  | stepS9
  /-- STEP_S10 (R887) -/
  | stepS10 (us : Word)
  /-- STEP_TIMEOUT (R885) -/
  | stepTimeout (b : StartBlock)
  /-- STEP_RETRY (R885) -/
  | stepRetry
  /-- RESPONDER_STATUS_BYTE (R892) -/
  | responderStatusByte
  /-- MFR_WAKE_REASON (R892) -/
  | mfrWakeReason
  /-- MFR_WAKE (R892) -/
  | mfrWake (v : BitVec 8) (pec : Option Bool)
  /-- RESET_N_ASSERT (R895) -/
  | resetNAssert
  /-- WARM_RESET (R895) -/
  | warmReset (q : Sender) (data : Word)
  /-- VDDH_GOOD (R905) -/
  | vddhGood
  /-- VDDH_LOSS (R908) -/
  | vddhLoss
  /-- VIO33_LOW (R955) -/
  | vio33Low
  /-- STANDBY (R901) -/
  | standby (q : Sender) (key : BitVec 16)
  /-- RUN (R903) -/
  | run (q : Sender) (key : BitVec 16) (us : Word)
  /-- DEEP (R904) -/
  | deep (q : Sender) (key : BitVec 16)
  /-- DEEP_RAMP_DONE (R904) -/
  | deepRampDone
  /-- DEEP_ENTRY_COMPLETE (R904) -/
  | deepEntryComplete
  /-- EXTEST (R950) -/
  | extest (d : Die)
  /-- IDCODE (R951) -/
  | idcode (d : Die)
  /-- SAMPLE_PRELOAD (R950) -/
  | samplePreload (d : Die) (cells : List (Fin 192 × Bool))
  /-- HIGHZ (R950) -/
  | highz (d : Die)
  /-- CLAMP (R950) -/
  | clamp (d : Die)
  /-- EXTEST_PULSE (R952) -/
  | extestPulse
  /-- EXTEST_TRAIN (R952) -/
  | extestTrain
  /-- BYPASS (R950) -/
  | bypass (d : Die)
  /-- OWN_IN_DEASSERT (R637) -/
  | ownInDeassert
  /-- TAKE_N_DEASSERTED (R669) -/
  | takeNDeasserted
  /-- WITHDRAW_COUNT_RESTART (R661) -/
  | withdrawCountRestart
  /-- TWIN_OK_LAPSE (R666) -/
  | twinOkLapse
  /-- VIO33_RETURN (R955) -/
  | vio33Return
  /-- HDR_ENTRY (R582) -/
  | hdrEntry (p : Fin 2)
  deriving DecidableEq, Repr

end Sys2Proof
end

