-- ==== Sys2Proof/Decode.lean ====
section
/-! DEFINITION. The commands of this block reach it as accesses and events: no row of the table of operations and events has bits,
so no word spells a command. -/

namespace Sys2Proof

/-- The command that a word of `nbits` bits spells: no row gives bits. -/
def decodeTableWord (_nbits _w : Nat) : Option Instr := none

end Sys2Proof
end

