-- ==== Sys2Proof/Machine/Maps.lean ====
section
/-! DEFINITION. The operations on keyed sequences (`Map`): reading with a default, writing, and the canonical
form they keep: strictly rising keys and no entry equal to the default. -/

namespace Sys2Proof.Machine

/-- The value at key `k`, `d` where `k` is not listed. -/
def mget {α : Type} (d : α) : Map α → Nat → α
  | [], _ => d
  | (k, v) :: m, n => if k = n then v else mget d m n

/-- `m` without any entry of key `k`. -/
def mdel {α : Type} (k : Nat) : Map α → Map α
  | [] => []
  | (n, v) :: m => if n = k then mdel k m else (n, v) :: mdel k m

/-- `m` with the entry (k, v) put before the first larger key. -/
def mins {α : Type} (k : Nat) (v : α) : Map α → Map α
  | [] => [(k, v)]
  | (n, w) :: m => if k < n then (k, v) :: (n, w) :: m else (n, w) :: mins k v m

/-- `m` with key `k` reading `v`: a value equal to the default `d` removes the entry. -/
def mset {α : Type} [DecidableEq α] (d : α) (m : Map α) (k : Nat) (v : α) : Map α :=
  if v = d then mdel k m else mins k v (mdel k m)

/-- Every key of the list is above `b`, and the keys rise. -/
def risingFrom {α : Type} (b : Nat) : Map α → Bool
  | [] => true
  | (k, _) :: m => decide (b ≤ k) && risingFrom (k + 1) m

/-- The canonical form: keys rise strictly and no entry equals the default. -/
def Map.wf {α : Type} [DecidableEq α] (d : α) (m : Map α) : Bool :=
  risingFrom 0 m && m.all (fun e => e.2 != d)

/-- The keys of a map, in order. -/
def mkeys {α : Type} (m : Map α) : List Nat := m.map Prod.fst

/-- Fold a state change over the numbers 0 to n − 1, in order. -/
def forN {σ : Type} (n : Nat) (f : Nat → σ → σ) (s : σ) : σ := (List.range n).foldl (fun s i => f i s) s

/-- Fold a state change over a list, in order. -/
def forL {α σ : Type} (l : List α) (f : α → σ → σ) (s : σ) : σ := l.foldl (fun s i => f i s) s

/-- Sum of `f` over 0 to n − 1. -/
def sumN (n : Nat) (f : Nat → Nat) : Nat := (List.range n).foldl (fun a i => a + f i) 0

@[inherit_doc sumN] def sumNI (n : Nat) (f : Nat → Int) : Int := (List.range n).foldl (fun a i => a + f i) 0

/-- Two's-complement value of the low `w` bits of `n`. -/
def sgn (w n : Nat) : Int := if n % 2 ^ w < 2 ^ (w - 1) then (n % 2 ^ w : Nat) else (n % 2 ^ w : Nat) - (2 ^ w : Nat)

/-- The low `w` bits of an integer, as a number (R19). -/
def low (w : Nat) (i : Int) : Nat := (i % (2 ^ w : Nat)).toNat

/-- Saturating increment at 2^w − 1. -/
def satInc (w n : Nat) : Nat := min (2 ^ w - 1) (n + 1)

/-- Saturating addition at 2^w − 1. -/
def satAdd (w n k : Nat) : Nat := min (2 ^ w - 1) (n + k)

/-- Round a / b to nearest, ties to even, for b > 0 (rne of R18's dialect). -/
def rneDiv (a b : Int) : Int :=
  let q := a / b
  let r := a % b
  if 2 * r < b then q else if b < 2 * r then q + 1 else if q % 2 = 0 then q else q + 1

/-- The value limited to the range [lo, hi] (R983: the nearest end). -/
def clampN (lo hi n : Nat) : Nat := min hi (max lo n)

@[inherit_doc clampN] def clampI (lo hi n : Int) : Int := min hi (max lo n)

/-- Bits [hi:lo] of a number. -/
def bits (n hi lo : Nat) : Nat := n / 2 ^ lo % 2 ^ (hi + 1 - lo)

/-- Bit b of a number. -/
def bit (n b : Nat) : Bool := n / 2 ^ b % 2 == 1

/-- 1 for true, 0 for false. -/
def b2n (b : Bool) : Nat := if b then 1 else 0

/-- Number `n` with bits [hi:lo] replaced by the low bits of `v`. -/
def setBits (n hi lo v : Nat) : Nat :=
  n / 2 ^ (hi + 1) * 2 ^ (hi + 1) + v % 2 ^ (hi + 1 - lo) * 2 ^ lo + n % 2 ^ lo

/-- Pack fields, each taken to 8, 16 or 32 bits, aligned to its own width, from bit 0 upwards (R734). -/
def packFields : Nat → List (Nat × Nat) → Nat
  | _, [] => 0
  | p, (w, v) :: fs =>
    let q := (p + w - 1) / w * w
    v % 2 ^ w * 2 ^ q + packFields (q + w) fs

/-- Bits that a packing takes. -/
def packWidth : Nat → List (Nat × Nat) → Nat
  | p, [] => p
  | p, (w, _) :: fs => packWidth ((p + w - 1) / w * w + w) fs

/-- The `k` low 32-bit words of a number, least significant first. -/
def toWords (k n : Nat) : List Word := (List.range k).map (fun i => BitVec.ofNat 32 (n / 2 ^ (32 * i)))

/-- Little-endian value of a word list. -/
def ofWords : List Word → Nat
  | [] => 0
  | w :: ws => w.toNat + 2 ^ 32 * ofWords ws

/-- Little-endian value of a byte list (R7). -/
def ofBytes : List Byte → Nat
  | [] => 0
  | b :: bs => b.toNat + 256 * ofBytes bs

/-- The `k` low bytes of a number, least significant first (R7). -/
def toBytes (k n : Nat) : List Byte := (List.range k).map (fun i => BitVec.ofNat 8 (n / 2 ^ (8 * i)))

/-- Word `i` of a list, 0 beyond its end. -/
def wordAt (l : List Word) (i : Nat) : Nat := ((l[i]?).getD 0).toNat

/-- Element `i` of a list of numbers, 0 beyond its end. -/
def natAt (l : List Nat) (i : Nat) : Nat := (l[i]?).getD 0

/-- `l` with element `i` replaced. -/
def setAt {α : Type} (l : List α) (i : Nat) (v : α) : List α := l.set i v

end Sys2Proof.Machine
end

