-- ==== Sys2Proof/Machine/Crc.lean ====
section
/-! DEFINITION. The CRC-32 of IEEE 802.3: reflected, polynomial 0xEDB88320, initial value and final exclusive-or all
ones. -/

namespace Sys2Proof.Machine

/-- One bit of the reflected register. -/
def crcBit (r : Nat) : Nat := if r % 2 = 1 then (r / 2) ^^^ 0xEDB88320 else r / 2

/-- One byte into the register. -/
def crcByte (r b : Nat) : Nat := crcBit (crcBit (crcBit (crcBit (crcBit (crcBit (crcBit (crcBit (r ^^^ b))))))))

/-- CRC-32 of a sequence of bytes. -/
def crc32 (bs : List Nat) : Nat := (bs.foldl crcByte 0xFFFFFFFF) ^^^ 0xFFFFFFFF

/-- The bytes of 32-bit words, least significant byte first. -/
def wordBytes (ws : List Word) : List Nat := ws.flatMap (fun w => (List.range 4).map (fun i => w.toNat / 256 ^ i % 256))

end Sys2Proof.Machine
end

