-- ==== Sys2Proof/Config.lean ====
section
/-! DEFINITION. What the spec leaves open. Each constant here is opaque: nothing can evaluate it, so a statement
about it holds whatever its value is. Each is applied to the counter `Chip.fresh`, which the step that takes a
free value advances; a free level of a ball, which no step reads, to the beat clock. -/

namespace Sys2Proof.Config

/-- An open one-bit outcome: which of two permitted things happens. -/
opaque freeBit : Nat → Bool

/-- The open level of a probe ball that views a memory port (R205); applied to 8 × the beat clock + the probe. -/
opaque probeBit : Nat → Bool

/-- The SEC-DED check bits of a flit, of its data bits and its control bits [15:9] (R223): the spec names no code. -/
opaque flitEcc : BitVec 128 → BitVec 7 → BitVec 9

/-- An open 32-bit value. -/
opaque freeWord : Nat → BitVec 32

end Sys2Proof.Config
end

