-- ==== Sys2Proof/Machine/RegTable.lean ====
section
/-! DEFINITION. The register map of the SK7240: where every register block stands (R972), the fields of every
field table of the spec with their access code, reset entry and survives codes (R10–R15), and a name for every
field. A field's value is bits [hi:lo] of the 32-bit word at its global address (R8, R9). -/

namespace Sys2Proof.Machine

/-- Access codes (table *Access codes* of Scope and Reading Conventions). -/
inductive Acc where
  | rw | ro | w1c | wo | rwl
  deriving DecidableEq, Repr

/-- Entries of a Reset column (table *Reset column values*). -/
inductive Rst where
  | num (n : Nat) | strap | nv | image | nodeId | kind
  deriving DecidableEq, Repr

/-- One field of a register block: its word offset, repeated `count` times every `stride` bytes, its bits
[hi:lo], its access code, its reset entry and its survives codes as a bit mask (P 1, I 2, W 4, T 8, N 16, G 32,
S 64, D 128). -/
structure FieldRow where
  off : Nat
  stride : Nat
  count : Nat
  hi : Nat
  lo : Nat
  acc : Acc
  rst : Rst
  sv : Nat
  deriving DecidableEq, Repr

/-- A named field: the global address of its word and its bits [hi:lo]. -/
structure Fld where
  addr : Nat
  hi : Nat
  lo : Nat
  deriving DecidableEq, Repr

/-- A register block: the nodes that hold it, its offset there, and its repetition. -/
structure RegBlock where
  nodes : List Nat
  base : Nat
  stride : Nat
  count : Nat
  rows : List FieldRow
  deriving DecidableEq, Repr

/-- Base address of node n's window (R8, R961). -/
def nodeBase (n : Nat) : Nat := 0x2000000 * n

/-- Base address of node n's NI block (R962). -/
def niBase (n : Nat) : Nat := 0x1F00000 + nodeBase n

/-- Node of PWM cluster Wn (R28). -/
def clusterNode (n : Nat) : Nat := if n < 3 then n + 2 else n + 41

/-- Rows of the **Tenant block** table (R623). -/
def rowsTenant : List FieldRow :=
  [⟨0x0, 0, 1, 1, 0, .rwl, .image, 126⟩,
   ⟨0x0, 0, 1, 15, 8, .rwl, .image, 126⟩,
   ⟨0x0, 0, 1, 17, 16, .rw, .image, 120⟩,
   ⟨0x4, 0, 1, 15, 0, .rw, .image, 120⟩,
   ⟨0x4, 0, 1, 23, 16, .rw, .image, 120⟩,
   ⟨0x8, 0, 1, 18, 0, .rw, .image, 120⟩,
   ⟨0xc, 0, 1, 7, 0, .rw, .image, 120⟩,
   ⟨0xc, 0, 1, 9, 8, .rw, .image, 120⟩,
   ⟨0xc, 0, 1, 10, 10, .rw, .image, 120⟩,
   ⟨0x10, 0, 1, 7, 0, .ro, (.num 0), 112⟩,
   ⟨0x10, 0, 1, 15, 8, .rw, (.num 0), 112⟩,
   ⟨0x14, 0, 1, 15, 0, .ro, (.num 0), 112⟩,
   ⟨0x14, 0, 1, 31, 16, .ro, (.num 0), 112⟩,
   ⟨0x18, 0, 1, 11, 0, .w1c, (.num 0), 112⟩,
   ⟨0x18, 0, 1, 15, 12, .ro, (.num 0), 112⟩,
   ⟨0x1c, 0, 1, 15, 0, .rw, .image, 120⟩,
   ⟨0x20, 0, 1, 0, 0, .wo, (.num 0), 0⟩,
   ⟨0x20, 0, 1, 8, 8, .ro, (.num 0), 112⟩]

/-- Rows of the **AVSBus block** table (R625). -/
def rowsAvs : List FieldRow :=
  [⟨0x0, 0, 1, 3, 0, .rwl, .image, 126⟩,
   ⟨0x0, 0, 1, 7, 4, .rwl, .image, 126⟩,
   ⟨0x0, 0, 1, 11, 8, .rwl, .image, 126⟩,
   ⟨0x0, 0, 1, 15, 12, .rwl, .image, 126⟩,
   ⟨0x0, 0, 1, 19, 16, .rwl, .image, 126⟩,
   ⟨0x0, 0, 1, 23, 20, .rwl, .image, 126⟩,
   ⟨0x0, 0, 1, 27, 24, .rwl, .image, 126⟩,
   ⟨0x0, 0, 1, 31, 28, .rwl, .image, 126⟩,
   ⟨0x4, 0, 1, 3, 0, .rwl, .image, 126⟩,
   ⟨0x4, 0, 1, 7, 4, .rwl, .image, 126⟩,
   ⟨0x4, 0, 1, 11, 8, .rwl, .image, 126⟩,
   ⟨0x4, 0, 1, 15, 12, .rwl, .image, 126⟩,
   ⟨0x4, 0, 1, 19, 16, .rwl, .image, 126⟩,
   ⟨0x4, 0, 1, 23, 20, .rwl, .image, 126⟩,
   ⟨0x4, 0, 1, 27, 24, .rwl, .image, 126⟩,
   ⟨0x8, 0, 1, 14, 0, .rwl, .image, 126⟩,
   ⟨0xc, 0, 1, 0, 0, .ro, (.num 0), 112⟩]

/-- Rows of the **PortQ block** table (R624). -/
def rowsPortQ : List FieldRow :=
  [⟨0x0, 0, 1, 0, 0, .rw, .image, 120⟩,
   ⟨0x0, 0, 1, 6, 4, .ro, .strap, 126⟩,
   ⟨0x4, 0, 1, 3, 0, .ro, (.num 0), 112⟩]

/-- Rows of the **Tile block** table (R413). -/
def rowsTile : List FieldRow :=
  [⟨0x0, 0, 1, 1, 0, .ro, (.num 0), 104⟩,
   ⟨0x4, 0, 1, 15, 0, .ro, .image, 126⟩,
   ⟨0x8, 0, 1, 31, 0, .wo, (.num 0), 0⟩,
   ⟨0x10, 0, 1, 15, 0, .ro, (.num 0), 120⟩,
   ⟨0x10, 0, 1, 31, 16, .ro, (.num 0), 120⟩,
   ⟨0x14, 0, 1, 7, 0, .ro, (.num 0), 120⟩,
   ⟨0x14, 0, 1, 31, 16, .ro, (.num 0), 120⟩,
   ⟨0x18, 0, 1, 31, 0, .ro, (.num 0), 120⟩,
   ⟨0x40, 8, 4, 6, 0, .rwl, .image, 126⟩,
   ⟨0x40, 8, 4, 8, 8, .rwl, .image, 126⟩,
   ⟨0x40, 8, 4, 9, 9, .rwl, .image, 126⟩,
   ⟨0x40, 8, 4, 10, 10, .rwl, .image, 126⟩,
   ⟨0x40, 8, 4, 15, 11, .rwl, .image, 126⟩,
   ⟨0x44, 8, 4, 24, 0, .rwl, .image, 126⟩]

/-- Rows of the **DQ block** table (R334). -/
def rowsDq : List FieldRow :=
  [⟨0x0, 0, 1, 4, 0, .ro, (.num 0), 104⟩,
   ⟨0x0, 0, 1, 12, 8, .ro, (.num 16), 104⟩,
   ⟨0x0, 0, 1, 16, 16, .ro, (.num 0), 104⟩,
   ⟨0x0, 0, 1, 17, 17, .w1c, (.num 0), 104⟩,
   ⟨0x0, 0, 1, 18, 18, .w1c, (.num 0), 104⟩,
   ⟨0x0, 0, 1, 19, 19, .w1c, (.num 0), 104⟩]

/-- Rows of the **Phase block** table (R136). -/
def rowsPhase : List FieldRow :=
  [⟨0x0, 0, 1, 3, 0, .rw, .image, 120⟩,
   ⟨0x0, 0, 1, 5, 4, .rw, .image, 120⟩,
   ⟨0x4, 0, 1, 16, 0, .rw, (.num 0), 120⟩,
   ⟨0x8, 0, 1, 1, 0, .ro, (.num 2), 120⟩,
   ⟨0x8, 0, 1, 2, 2, .ro, (.num 0), 120⟩,
   ⟨0x8, 0, 1, 3, 3, .w1c, (.num 0), 120⟩,
   ⟨0x8, 0, 1, 15, 8, .ro, (.num 0), 120⟩,
   ⟨0x8, 0, 1, 31, 16, .ro, (.num 0), 120⟩]

/-- Rows of the **Phase sense block** table (R135). -/
def rowsSense : List FieldRow :=
  [⟨0x0, 0, 1, 11, 0, .rw, .image, 120⟩,
   ⟨0x0, 0, 1, 31, 16, .rw, .image, 120⟩,
   ⟨0x4, 0, 1, 11, 0, .rwl, .image, 126⟩,
   ⟨0x4, 0, 1, 23, 12, .rw, .image, 120⟩,
   ⟨0x4, 0, 1, 27, 24, .rwl, .image, 126⟩]

/-- Rows of the **Rail block** table (R132). -/
def rowsRail : List FieldRow :=
  [⟨0x0, 0, 1, 0, 0, .rw, .image, 120⟩,
   ⟨0x0, 0, 1, 4, 1, .rw, .image, 120⟩,
   ⟨0x0, 0, 1, 5, 5, .rw, .image, 120⟩,
   ⟨0x0, 0, 1, 11, 8, .rwl, .image, 126⟩,
   ⟨0x0, 0, 1, 13, 12, .rw, .image, 120⟩,
   ⟨0x0, 0, 1, 17, 14, .rw, .image, 120⟩,
   ⟨0x4, 0, 1, 11, 0, .rw, .image, 120⟩,
   ⟨0x4, 0, 1, 27, 16, .ro, (.num 0), 120⟩,
   ⟨0x8, 0, 1, 7, 0, .rw, .image, 120⟩,
   ⟨0x8, 0, 1, 15, 8, .rw, .image, 120⟩,
   ⟨0x8, 0, 1, 23, 16, .rwl, .image, 126⟩,
   ⟨0xc, 0, 1, 11, 0, .rwl, .image, 126⟩,
   ⟨0xc, 0, 1, 23, 12, .rwl, .image, 126⟩,
   ⟨0xc, 0, 1, 31, 24, .rw, .image, 120⟩,
   ⟨0x10, 0, 1, 11, 0, .rw, .image, 120⟩,
   ⟨0x14, 0, 1, 6, 0, .rw, .image, 120⟩,
   ⟨0x14, 0, 1, 14, 8, .rw, .image, 120⟩,
   ⟨0x14, 0, 1, 22, 16, .rw, .image, 120⟩,
   ⟨0x14, 0, 1, 30, 24, .rw, .image, 120⟩,
   ⟨0x14, 0, 1, 7, 7, .rw, .image, 120⟩,
   ⟨0x14, 0, 1, 15, 15, .rw, .image, 120⟩,
   ⟨0x14, 0, 1, 23, 23, .rw, .image, 120⟩,
   ⟨0x14, 0, 1, 31, 31, .rw, .image, 120⟩,
   ⟨0x18, 0, 1, 15, 0, .rwl, .image, 126⟩] ++
  [⟨0x18, 0, 1, 31, 16, .rw, .image, 120⟩,
   ⟨0x1c, 0, 1, 15, 0, .rw, .image, 120⟩,
   ⟨0x1c, 0, 1, 31, 16, .ro, (.num 65535), 120⟩,
   ⟨0x20, 0, 1, 15, 0, .rwl, .image, 126⟩,
   ⟨0x20, 0, 1, 23, 16, .rw, .image, 120⟩,
   ⟨0x24, 0, 1, 16, 0, .rw, .image, 120⟩,
   ⟨0x28, 0, 1, 11, 0, .rw, .image, 120⟩,
   ⟨0x28, 0, 1, 23, 12, .rw, .image, 120⟩,
   ⟨0x2c, 0, 1, 16, 0, .rw, .image, 120⟩,
   ⟨0x30, 0, 1, 15, 0, .rw, .image, 120⟩,
   ⟨0x30, 0, 1, 31, 16, .rw, .image, 120⟩,
   ⟨0x34, 0, 1, 15, 0, .rw, .image, 120⟩,
   ⟨0x34, 0, 1, 31, 16, .rw, .image, 120⟩,
   ⟨0x38, 0, 1, 0, 0, .ro, (.num 0), 120⟩,
   ⟨0x38, 0, 1, 1, 1, .ro, (.num 0), 120⟩,
   ⟨0x38, 0, 1, 4, 2, .ro, (.num 0), 120⟩,
   ⟨0x38, 0, 1, 5, 5, .ro, (.num 0), 120⟩,
   ⟨0x38, 0, 1, 6, 6, .ro, (.num 0), 120⟩,
   ⟨0x38, 0, 1, 7, 7, .ro, (.num 0), 120⟩,
   ⟨0x38, 0, 1, 11, 8, .ro, (.num 0), 120⟩,
   ⟨0x38, 0, 1, 15, 12, .ro, (.num 0), 120⟩,
   ⟨0x38, 0, 1, 31, 31, .wo, (.num 0), 0⟩,
   ⟨0x3c, 0, 1, 15, 0, .ro, (.num 0), 120⟩,
   ⟨0x3c, 0, 1, 28, 16, .ro, (.num 0), 120⟩]

/-- Rows of the **Board block** table (R133). -/
def rowsBoard : List FieldRow :=
  [⟨0x0, 0, 1, 15, 0, .rw, .image, 120⟩,
   ⟨0x0, 0, 1, 31, 16, .rwl, .image, 126⟩,
   ⟨0x4, 0, 1, 15, 0, .rw, .image, 120⟩,
   ⟨0x4, 0, 1, 16, 16, .ro, (.num 0), 120⟩,
   ⟨0x8, 0, 1, 15, 0, .ro, (.num 0), 120⟩,
   ⟨0xc, 0, 1, 7, 0, .rwl, .image, 126⟩,
   ⟨0xc, 0, 1, 19, 8, .rw, .image, 120⟩,
   ⟨0x10, 0, 1, 11, 0, .ro, (.num 0), 120⟩,
   ⟨0x10, 0, 1, 27, 16, .ro, (.num 0), 120⟩]

/-- Rows of the **TMON block** table (R134). -/
def rowsTmon : List FieldRow :=
  [⟨0x0, 0, 1, 3, 0, .rw, .image, 120⟩,
   ⟨0x0, 0, 1, 4, 4, .rw, .image, 120⟩,
   ⟨0x0, 0, 1, 15, 8, .rw, .image, 120⟩,
   ⟨0x0, 0, 1, 23, 16, .rwl, .image, 126⟩,
   ⟨0x4, 0, 1, 9, 0, .rw, .image, 120⟩,
   ⟨0x4, 0, 1, 25, 16, .rw, .image, 120⟩,
   ⟨0x8, 0, 1, 11, 0, .ro, (.num 0), 120⟩]

/-- Rows of the **Channel block** table (R720). -/
def rowsLsw : List FieldRow :=
  [⟨0x0, 0, 1, 1, 0, .rwl, .image, 255⟩,
   ⟨0x0, 0, 1, 5, 2, .rwl, .image, 255⟩,
   ⟨0x0, 0, 1, 9, 6, .rwl, .image, 255⟩,
   ⟨0x0, 0, 1, 14, 10, .rwl, .image, 255⟩,
   ⟨0x0, 0, 1, 16, 15, .rwl, .image, 255⟩,
   ⟨0x0, 0, 1, 31, 24, .rwl, .image, 255⟩,
   ⟨0x4, 0, 1, 5, 0, .rwl, .image, 255⟩,
   ⟨0x4, 0, 1, 13, 8, .rw, .image, 255⟩,
   ⟨0x4, 0, 1, 19, 16, .rw, .image, 255⟩,
   ⟨0x8, 0, 1, 1, 0, .rw, .image, 255⟩,
   ⟨0x8, 0, 1, 8, 8, .wo, (.num 0), 0⟩,
   ⟨0xc, 0, 1, 0, 0, .ro, (.num 0), 255⟩,
   ⟨0xc, 0, 1, 1, 1, .ro, (.num 0), 255⟩,
   ⟨0xc, 0, 1, 2, 2, .ro, (.num 0), 255⟩,
   ⟨0xc, 0, 1, 3, 3, .ro, (.num 0), 255⟩,
   ⟨0xc, 0, 1, 4, 4, .ro, (.num 0), 255⟩,
   ⟨0xc, 0, 1, 5, 5, .ro, (.num 0), 255⟩,
   ⟨0xc, 0, 1, 6, 6, .ro, (.num 0), 255⟩,
   ⟨0xc, 0, 1, 7, 7, .ro, (.num 0), 255⟩,
   ⟨0xc, 0, 1, 11, 8, .ro, (.num 0), 255⟩,
   ⟨0xc, 0, 1, 25, 16, .ro, (.num 0), 255⟩,
   ⟨0x10, 0, 1, 11, 0, .ro, (.num 0), 248⟩,
   ⟨0x14, 0, 1, 8, 0, .ro, (.num 0), 248⟩,
   ⟨0x14, 0, 1, 23, 16, .ro, (.num 0), 248⟩] ++
  [⟨0x18, 0, 1, 15, 0, .ro, (.num 0), 255⟩,
   ⟨0x18, 0, 1, 31, 16, .ro, (.num 0), 255⟩,
   ⟨0x1c, 0, 1, 3, 0, .ro, (.num 0), 248⟩,
   ⟨0x1c, 0, 1, 4, 4, .ro, (.num 0), 248⟩]

/-- Rows of the **Switch block** table (R721). -/
def rowsSw : List FieldRow :=
  [⟨0x0, 0, 1, 4, 0, .rw, .image, 255⟩,
   ⟨0x0, 0, 1, 15, 8, .rwl, .image, 255⟩,
   ⟨0x4, 0, 1, 31, 0, .wo, (.num 0), 0⟩,
   ⟨0x8, 0, 1, 0, 0, .ro, (.num 0), 248⟩,
   ⟨0x8, 0, 1, 1, 1, .w1c, (.num 0), 248⟩,
   ⟨0x8, 0, 1, 2, 2, .ro, (.num 0), 255⟩,
   ⟨0x8, 0, 1, 3, 3, .ro, (.num 0), 255⟩,
   ⟨0x8, 0, 1, 15, 8, .ro, (.num 0), 248⟩]

/-- Rows of the **Port block** table (R207). -/
def rowsGport : List FieldRow :=
  [⟨0x0, 4, 8, 1, 0, .rw, .image, 104⟩,
   ⟨0x0, 4, 8, 3, 2, .rw, .image, 104⟩,
   ⟨0x0, 4, 8, 4, 4, .rw, .image, 104⟩,
   ⟨0x0, 4, 8, 31, 16, .rw, .image, 104⟩,
   ⟨0x40, 4, 8, 15, 0, .ro, (.num 0), 104⟩,
   ⟨0x40, 4, 8, 16, 16, .ro, (.num 0), 104⟩,
   ⟨0x60, 4, 8, 16, 0, .ro, (.num 0), 104⟩,
   ⟨0x80, 4, 8, 15, 0, .wo, (.num 0), 0⟩,
   ⟨0xa0, 0, 1, 7, 0, .w1c, (.num 0), 104⟩,
   ⟨0xa0, 0, 1, 15, 8, .w1c, (.num 0), 104⟩,
   ⟨0xa0, 0, 1, 23, 16, .ro, (.num 0), 104⟩,
   ⟨0xa4, 0, 1, 7, 0, .wo, (.num 0), 0⟩]

/-- Rows of the **Array block** table (R208). -/
def rowsGarr : List FieldRow :=
  [⟨0x0, 0, 1, 4, 0, .rw, .image, 120⟩,
   ⟨0x0, 0, 1, 12, 8, .rwl, .image, 126⟩,
   ⟨0x4, 0, 1, 0, 0, .w1c, (.num 0), 120⟩,
   ⟨0x4, 0, 1, 1, 1, .w1c, (.num 0), 120⟩,
   ⟨0x8, 0, 1, 23, 0, .rw, .image, 120⟩,
   ⟨0x20, 4, 8, 1, 0, .rw, (.num 0), 120⟩,
   ⟨0x20, 4, 8, 2, 2, .rw, (.num 0), 120⟩,
   ⟨0x20, 4, 8, 15, 4, .rw, (.num 0), 120⟩,
   ⟨0x80, 4, 16, 15, 0, .ro, (.num 0), 56⟩,
   ⟨0x400, 4, 96, 1, 0, .rw, .image, 120⟩,
   ⟨0x400, 4, 96, 2, 2, .rw, .image, 120⟩]

/-- Rows of the **Configuration block** table (R872). -/
def rowsGcfg : List FieldRow :=
  [⟨0x0, 0, 1, 3, 0, .wo, (.num 0), 0⟩,
   ⟨0x0, 0, 1, 10, 8, .wo, (.num 0), 0⟩,
   ⟨0x4, 0, 1, 15, 0, .rw, (.num 0), 126⟩,
   ⟨0x8, 0, 1, 31, 0, .wo, (.num 0), 0⟩,
   ⟨0xc, 0, 1, 31, 0, .ro, (.num 0), 126⟩,
   ⟨0x10, 0, 1, 2, 0, .ro, (.num 0), 126⟩,
   ⟨0x10, 0, 1, 4, 4, .ro, .nv, 126⟩,
   ⟨0x10, 0, 1, 10, 8, .ro, (.num 0), 126⟩,
   ⟨0x10, 0, 1, 16, 16, .w1c, (.num 0), 126⟩,
   ⟨0x10, 0, 1, 17, 17, .w1c, (.num 0), 126⟩,
   ⟨0x10, 0, 1, 18, 18, .w1c, (.num 0), 126⟩,
   ⟨0x10, 0, 1, 19, 19, .w1c, (.num 0), 126⟩,
   ⟨0x10, 0, 1, 20, 20, .w1c, (.num 0), 126⟩,
   ⟨0x14, 0, 1, 3, 0, .ro, (.num 0), 126⟩,
   ⟨0x14, 0, 1, 8, 4, .ro, (.num 0), 126⟩,
   ⟨0x14, 0, 1, 15, 12, .ro, (.num 0), 126⟩,
   ⟨0x14, 0, 1, 19, 16, .ro, (.num 0), 126⟩,
   ⟨0x18, 0, 1, 7, 0, .rwl, .nv, 126⟩,
   ⟨0x18, 0, 1, 15, 8, .rwl, .nv, 126⟩,
   ⟨0x18, 0, 1, 16, 16, .rw, (.num 0), 126⟩,
   ⟨0x1c, 0, 1, 31, 0, .rw, (.num 0), 126⟩,
   ⟨0x20, 0, 1, 7, 0, .rwl, .nv, 126⟩,
   ⟨0x20, 0, 1, 9, 8, .rwl, .nv, 126⟩,
   ⟨0x24, 0, 1, 31, 0, .ro, (.num 0), 126⟩] ++
  [⟨0x28, 0, 1, 31, 0, .ro, (.num 0), 126⟩,
   ⟨0x2c, 0, 1, 31, 0, .ro, (.num 0), 126⟩,
   ⟨0x30, 0, 1, 15, 0, .ro, (.num 0), 126⟩,
   ⟨0x30, 0, 1, 22, 16, .ro, (.num 0), 126⟩,
   ⟨0x34, 0, 1, 31, 0, .ro, .nv, 126⟩,
   ⟨0x40, 0, 1, 11, 0, .rw, (.num 0), 126⟩,
   ⟨0x40, 0, 1, 16, 12, .rw, (.num 0), 126⟩,
   ⟨0x44, 0, 1, 8, 0, .wo, (.num 0), 0⟩,
   ⟨0x80, 8, 8, 4, 0, .rwl, .nv, 126⟩,
   ⟨0x80, 8, 8, 12, 8, .rwl, .nv, 126⟩,
   ⟨0x80, 8, 8, 16, 16, .rwl, .nv, 126⟩,
   ⟨0x80, 8, 8, 21, 20, .ro, (.num 0), 94⟩,
   ⟨0x80, 8, 8, 27, 24, .ro, (.num 0), 94⟩,
   ⟨0x84, 8, 8, 31, 0, .rw, (.num 0), 126⟩,
   ⟨0x100, 4, 6, 31, 0, .rwl, .nv, 126⟩]

/-- Rows of the **Twin block** table (R665). -/
def rowsDip : List FieldRow :=
  [⟨0x0, 0, 1, 0, 0, .wo, (.num 0), 0⟩,
   ⟨0x0, 0, 1, 1, 1, .wo, (.num 0), 0⟩,
   ⟨0x0, 0, 1, 2, 2, .wo, (.num 0), 0⟩,
   ⟨0x0, 0, 1, 8, 8, .rw, (.num 0), 120⟩,
   ⟨0x4, 0, 1, 8, 0, .rw, .image, 120⟩,
   ⟨0x4, 0, 1, 25, 16, .rw, .image, 120⟩,
   ⟨0x8, 0, 1, 7, 0, .rwl, .image, 126⟩,
   ⟨0xc, 0, 1, 1, 0, .ro, (.num 0), 104⟩,
   ⟨0xc, 0, 1, 6, 4, .ro, (.num 1), 120⟩,
   ⟨0xc, 0, 1, 11, 8, .ro, (.num 0), 120⟩,
   ⟨0xc, 0, 1, 13, 12, .ro, .strap, 126⟩,
   ⟨0xc, 0, 1, 16, 16, .ro, (.num 0), 120⟩,
   ⟨0xc, 0, 1, 17, 17, .ro, (.num 0), 120⟩,
   ⟨0xc, 0, 1, 18, 18, .ro, (.num 1), 120⟩,
   ⟨0xc, 0, 1, 19, 19, .ro, (.num 0), 120⟩,
   ⟨0xc, 0, 1, 22, 20, .ro, (.num 0), 104⟩,
   ⟨0x10, 0, 1, 15, 0, .ro, (.num 0), 120⟩,
   ⟨0x10, 0, 1, 31, 16, .ro, (.num 0), 104⟩,
   ⟨0x14, 0, 1, 15, 0, .ro, (.num 0), 120⟩,
   ⟨0x14, 0, 1, 31, 16, .ro, (.num 0), 120⟩,
   ⟨0x18, 0, 1, 15, 0, .ro, (.num 0), 120⟩,
   ⟨0x18, 0, 1, 31, 16, .ro, (.num 0), 120⟩,
   ⟨0x1c, 0, 1, 31, 0, .ro, (.num 0), 126⟩,
   ⟨0x20, 0, 1, 31, 0, .ro, (.num 0), 104⟩] ++
  [⟨0x24, 4, 2, 31, 0, .ro, (.num 0), 104⟩]

/-- Rows of the **Group block** table (R555). -/
def rowsLgrp : List FieldRow :=
  [⟨0x0, 0, 1, 7, 0, .rwl, .image, 126⟩,
   ⟨0x0, 0, 1, 10, 8, .rwl, .image, 126⟩,
   ⟨0x0, 0, 1, 19, 16, .rw, .image, 120⟩,
   ⟨0x0, 0, 1, 20, 20, .rw, .image, 120⟩]

/-- Rows of the **Unit block** table (R556). -/
def rowsLunit : List FieldRow :=
  [⟨0x0, 0, 1, 9, 0, .ro, (.num 512), 120⟩,
   ⟨0x0, 0, 1, 25, 16, .ro, (.num 512), 120⟩,
   ⟨0x4, 0, 1, 11, 0, .rw, .image, 120⟩,
   ⟨0x8, 0, 1, 15, 0, .ro, (.num 0), 120⟩,
   ⟨0x8, 0, 1, 31, 16, .ro, (.num 0), 120⟩]

/-- Rows of the **Lock state** table (R557). -/
def rowsLst : List FieldRow :=
  [⟨0x0, 0, 1, 0, 0, .ro, (.num 0), 120⟩,
   ⟨0x0, 0, 1, 1, 1, .ro, (.num 0), 120⟩,
   ⟨0x0, 0, 1, 4, 2, .ro, (.num 0), 120⟩,
   ⟨0x0, 0, 1, 11, 5, .ro, (.num 0), 120⟩,
   ⟨0x0, 0, 1, 15, 12, .ro, (.num 0), 120⟩,
   ⟨0x0, 0, 1, 19, 16, .ro, (.num 0), 120⟩,
   ⟨0x0, 0, 1, 29, 20, .ro, (.num 0), 120⟩,
   ⟨0x4, 0, 1, 0, 0, .wo, (.num 0), 0⟩]

/-- Rows of the **SEQ block** table (R774). -/
def rowsSeq : List FieldRow :=
  [⟨0x0, 0, 1, 27, 0, .ro, (.num 0), 120⟩,
   ⟨0x0, 0, 1, 31, 28, .ro, (.num 0), 120⟩,
   ⟨0x4, 0, 1, 31, 0, .ro, (.num 0), 120⟩,
   ⟨0x8, 0, 1, 31, 0, .ro, (.num 0), 120⟩,
   ⟨0x100, 32, 4, 18, 0, .rw, .image, 120⟩,
   ⟨0x104, 32, 4, 3, 0, .rw, .image, 120⟩,
   ⟨0x104, 32, 4, 5, 4, .rw, .image, 120⟩,
   ⟨0x104, 32, 4, 8, 8, .rw, .image, 120⟩,
   ⟨0x104, 32, 4, 16, 16, .w1c, (.num 0), 120⟩,
   ⟨0x104, 32, 4, 17, 17, .w1c, (.num 0), 120⟩,
   ⟨0x108, 32, 4, 15, 0, .ro, (.num 0), 112⟩,
   ⟨0x108, 32, 4, 31, 16, .rw, (.num 0), 112⟩,
   ⟨0x10c, 32, 4, 31, 0, .rw, .image, 120⟩,
   ⟨0x110, 32, 4, 31, 0, .ro, (.num 0), 120⟩,
   ⟨0x200, 0, 1, 0, 0, .rw, .image, 120⟩,
   ⟨0x200, 0, 1, 15, 8, .rw, .image, 120⟩,
   ⟨0x204, 0, 1, 0, 0, .wo, (.num 0), 0⟩,
   ⟨0x204, 0, 1, 1, 1, .rw, (.num 0), 120⟩,
   ⟨0x400, 16, 32, 1, 0, .rw, .image, 120⟩,
   ⟨0x400, 16, 32, 16, 16, .rw, .image, 120⟩,
   ⟨0x400, 16, 32, 17, 17, .w1c, (.num 0), 120⟩,
   ⟨0x404, 16, 32, 15, 0, .rw, .image, 120⟩,
   ⟨0x404, 16, 32, 31, 16, .rw, .image, 120⟩,
   ⟨0x408, 16, 32, 31, 0, .ro, (.num 0), 120⟩] ++
  [⟨0x40c, 16, 32, 15, 0, .ro, (.num 0), 120⟩]

/-- Rows of the **Identity block** table (R973). -/
def rowsId : List FieldRow :=
  [⟨0x0, 0, 1, 31, 0, .ro, (.num 119802370), 0⟩,
   ⟨0x4, 0, 1, 31, 0, .ro, .nv, 126⟩,
   ⟨0x8, 0, 1, 31, 0, .ro, .nv, 126⟩]

/-- Rows of the **Image block** table (R830). -/
def rowsImg : List FieldRow :=
  [⟨0x0, 0, 1, 3, 0, .ro, (.num 0), 126⟩,
   ⟨0x0, 0, 1, 15, 8, .ro, (.num 0), 126⟩,
   ⟨0x4, 0, 1, 31, 0, .ro, (.num 0), 126⟩,
   ⟨0x8, 0, 1, 31, 0, .ro, (.num 0), 126⟩,
   ⟨0xc, 0, 1, 1, 0, .ro, (.num 0), 126⟩,
   ⟨0xc, 0, 1, 4, 4, .ro, (.num 0), 126⟩,
   ⟨0xc, 0, 1, 5, 5, .ro, (.num 0), 126⟩,
   ⟨0x10, 0, 1, 31, 0, .ro, .nv, 126⟩,
   ⟨0x14, 0, 1, 5, 0, .ro, .nv, 126⟩,
   ⟨0x18, 0, 1, 1, 0, .wo, (.num 0), 0⟩,
   ⟨0x20, 4, 12, 31, 0, .rw, (.num 0), 120⟩]

/-- Rows of the **Plane block** table (R355). -/
def rowsPlane : List FieldRow :=
  [⟨0x0, 0, 1, 12, 0, .rwl, .image, 126⟩,
   ⟨0x0, 0, 1, 22, 16, .rwl, .image, 126⟩,
   ⟨0x4, 0, 1, 1, 0, .ro, (.num 0), 104⟩,
   ⟨0x4, 0, 1, 8, 8, .wo, (.num 0), 0⟩,
   ⟨0x4, 0, 1, 9, 9, .wo, (.num 0), 0⟩,
   ⟨0x4, 0, 1, 13, 12, .rw, (.num 0), 104⟩,
   ⟨0x4, 0, 1, 17, 16, .ro, (.num 0), 104⟩,
   ⟨0x8, 0, 1, 31, 0, .ro, (.num 0), 104⟩,
   ⟨0xc, 0, 1, 11, 0, .ro, (.num 0), 104⟩,
   ⟨0x10, 0, 1, 31, 0, .ro, (.num 0), 104⟩,
   ⟨0x14, 0, 1, 6, 0, .ro, (.num 0), 104⟩,
   ⟨0x18, 0, 1, 2, 0, .rwl, .image, 126⟩,
   ⟨0x18, 0, 1, 6, 4, .rwl, .image, 126⟩,
   ⟨0x18, 0, 1, 10, 8, .rwl, .image, 126⟩,
   ⟨0x18, 0, 1, 14, 12, .rwl, .image, 126⟩,
   ⟨0x18, 0, 1, 18, 16, .rwl, .image, 126⟩,
   ⟨0x18, 0, 1, 22, 20, .rwl, .image, 126⟩,
   ⟨0x18, 0, 1, 26, 24, .rwl, .image, 126⟩,
   ⟨0x18, 0, 1, 30, 28, .rwl, .image, 126⟩,
   ⟨0x1c, 0, 1, 2, 0, .rwl, .image, 126⟩,
   ⟨0x1c, 0, 1, 6, 4, .rwl, .image, 126⟩,
   ⟨0x1c, 0, 1, 10, 8, .rwl, .image, 126⟩,
   ⟨0x1c, 0, 1, 14, 12, .rwl, .image, 126⟩,
   ⟨0x1c, 0, 1, 18, 16, .rwl, .image, 126⟩] ++
  [⟨0x1c, 0, 1, 22, 20, .rwl, .image, 126⟩,
   ⟨0x1c, 0, 1, 26, 24, .rwl, .image, 126⟩,
   ⟨0x1c, 0, 1, 30, 28, .rwl, .image, 126⟩,
   ⟨0x20, 4, 8, 0, 0, .rwl, .image, 126⟩,
   ⟨0x20, 4, 8, 7, 4, .rwl, .image, 126⟩,
   ⟨0x40, 0, 1, 7, 0, .ro, (.num 0), 104⟩,
   ⟨0x44, 0, 1, 3, 0, .ro, (.num 0), 104⟩,
   ⟨0x44, 0, 1, 14, 8, .ro, (.num 0), 104⟩,
   ⟨0x44, 0, 1, 21, 16, .ro, (.num 0), 104⟩,
   ⟨0x60, 4, 8, 31, 0, .ro, (.num 0), 104⟩]

/-- Rows of the **Power block** table (R910). -/
def rowsPower : List FieldRow :=
  [⟨0x0, 0, 1, 1, 0, .ro, (.num 0), 120⟩,
   ⟨0x0, 0, 1, 6, 4, .ro, (.num 0), 120⟩,
   ⟨0x4, 0, 1, 1, 0, .wo, (.num 0), 0⟩,
   ⟨0x4, 0, 1, 31, 16, .wo, (.num 0), 0⟩,
   ⟨0x8, 0, 1, 31, 0, .wo, (.num 0), 0⟩,
   ⟨0xc, 0, 1, 3, 0, .rw, .image, 120⟩,
   ⟨0x10, 0, 1, 7, 0, .ro, (.num 0), 255⟩,
   ⟨0x10, 0, 1, 15, 8, .ro, (.num 0), 255⟩,
   ⟨0x10, 0, 1, 19, 16, .ro, (.num 0), 255⟩,
   ⟨0x10, 0, 1, 23, 20, .ro, (.num 0), 255⟩,
   ⟨0x14, 0, 1, 31, 0, .ro, (.num 0), 126⟩,
   ⟨0x18, 0, 1, 0, 0, .ro, (.num 0), 254⟩,
   ⟨0x18, 0, 1, 15, 8, .ro, (.num 0), 120⟩,
   ⟨0x1c, 0, 1, 15, 0, .rw, .image, 248⟩,
   ⟨0x20, 0, 1, 0, 0, .ro, (.num 0), 120⟩,
   ⟨0x20, 0, 1, 1, 1, .w1c, (.num 0), 254⟩]

/-- Rows of the **Sketchbook block** table (R777). -/
def rowsSkb : List FieldRow :=
  [⟨0x0, 0, 1, 5, 0, .rwl, .image, 126⟩,
   ⟨0x0, 0, 1, 15, 8, .rwl, .image, 126⟩,
   ⟨0x4, 0, 1, 0, 0, .wo, (.num 0), 0⟩,
   ⟨0x4, 0, 1, 8, 8, .ro, (.num 0), 126⟩,
   ⟨0x8, 0, 1, 0, 0, .ro, (.num 0), 126⟩,
   ⟨0xc, 0, 1, 31, 0, .ro, .nv, 126⟩,
   ⟨0x10, 0, 1, 31, 0, .ro, .nv, 126⟩,
   ⟨0x1000, 4, 1672, 31, 0, .ro, .nv, 126⟩,
   ⟨0x3000, 4, 256, 31, 0, .ro, .nv, 126⟩]

/-- Rows of the **NVC block** table (R829). -/
def rowsNvc : List FieldRow :=
  [⟨0x0, 0, 1, 13, 0, .wo, (.num 0), 0⟩,
   ⟨0x0, 0, 1, 31, 28, .wo, (.num 0), 0⟩,
   ⟨0x4, 0, 1, 0, 0, .ro, (.num 0), 120⟩,
   ⟨0x4, 0, 1, 1, 1, .w1c, (.num 0), 120⟩,
   ⟨0x4, 0, 1, 6, 4, .ro, (.num 0), 120⟩,
   ⟨0x4, 0, 1, 16, 8, .ro, (.num 0), 120⟩,
   ⟨0x4, 0, 1, 19, 18, .ro, (.num 0), 120⟩,
   ⟨0x8, 0, 1, 13, 0, .ro, (.num 0), 120⟩,
   ⟨0xc, 0, 1, 8, 0, .rw, .image, 120⟩,
   ⟨0x10, 0, 1, 7, 0, .ro, .nv, 126⟩,
   ⟨0x10, 0, 1, 15, 8, .ro, .nv, 126⟩,
   ⟨0x14, 0, 1, 31, 0, .ro, (.num 0), 120⟩,
   ⟨0x18, 0, 1, 31, 0, .ro, (.num 0), 120⟩,
   ⟨0x1c, 0, 1, 21, 0, .ro, (.num 0), 120⟩,
   ⟨0x20, 0, 1, 7, 0, .rwl, .image, 126⟩,
   ⟨0x20, 0, 1, 15, 8, .rwl, .image, 126⟩,
   ⟨0x24, 0, 1, 0, 0, .ro, (.num 0), 126⟩,
   ⟨0x100, 4, 64, 31, 0, .rw, (.num 0), 120⟩]

/-- Rows of the **DQX window** table (R335). -/
def rowsDqx : List FieldRow :=
  [⟨0x0, 0, 1, 31, 0, .rw, .image, 120⟩,
   ⟨0x4, 0, 1, 4, 0, .rw, .image, 120⟩]

/-- Rows of the **Trace channel** table (R776). -/
def rowsTrc : List FieldRow :=
  [⟨0x0, 0, 1, 31, 0, .rw, .image, 120⟩,
   ⟨0x4, 0, 1, 4, 0, .rw, .image, 120⟩,
   ⟨0x4, 0, 1, 8, 8, .rw, .image, 120⟩,
   ⟨0x4, 0, 1, 9, 9, .rw, .image, 120⟩,
   ⟨0x8, 0, 1, 31, 0, .wo, (.num 0), 0⟩,
   ⟨0xc, 0, 1, 0, 0, .wo, (.num 0), 0⟩,
   ⟨0x10, 0, 1, 23, 0, .ro, (.num 0), 120⟩,
   ⟨0x14, 0, 1, 0, 0, .ro, (.num 0), 120⟩,
   ⟨0x14, 0, 1, 1, 1, .w1c, (.num 0), 120⟩,
   ⟨0x18, 0, 1, 31, 0, .ro, (.num 0), 120⟩]

/-- Rows of the **NI block** table (R289). -/
def rowsNi : List FieldRow :=
  [⟨0x0, 0, 1, 6, 0, .ro, .nodeId, 126⟩,
   ⟨0x4, 0, 1, 15, 0, .rw, .image, 120⟩,
   ⟨0x8, 0, 1, 15, 0, .rw, .image, 120⟩,
   ⟨0xc, 0, 1, 0, 0, .wo, (.num 0), 0⟩,
   ⟨0xc, 0, 1, 8, 8, .ro, (.num 0), 0⟩,
   ⟨0xc, 0, 1, 22, 16, .ro, (.num 0), 104⟩,
   ⟨0x10, 0, 1, 0, 0, .w1c, (.num 0), 104⟩,
   ⟨0x10, 0, 1, 1, 1, .w1c, (.num 0), 104⟩,
   ⟨0x10, 0, 1, 2, 2, .w1c, (.num 0), 104⟩,
   ⟨0x10, 0, 1, 3, 3, .w1c, (.num 0), 104⟩,
   ⟨0x10, 0, 1, 4, 4, .w1c, (.num 0), 104⟩,
   ⟨0x10, 0, 1, 5, 5, .w1c, (.num 0), 104⟩,
   ⟨0x10, 0, 1, 6, 6, .w1c, (.num 0), 104⟩,
   ⟨0x10, 0, 1, 7, 7, .w1c, (.num 0), 104⟩,
   ⟨0x14, 0, 1, 7, 0, .rw, .image, 120⟩,
   ⟨0x20, 0, 1, 31, 0, .ro, (.num 0), 104⟩,
   ⟨0x24, 0, 1, 31, 0, .ro, (.num 0), 104⟩,
   ⟨0x28, 0, 1, 31, 0, .ro, (.num 0), 104⟩,
   ⟨0x2c, 0, 1, 31, 0, .ro, (.num 0), 104⟩,
   ⟨0x30, 0, 1, 31, 0, .ro, (.num 0), 104⟩,
   ⟨0x40, 0, 1, 2, 0, .ro, (.num 0), 104⟩,
   ⟨0x40, 0, 1, 9, 4, .ro, (.num 0), 104⟩,
   ⟨0x40, 0, 1, 11, 10, .ro, (.num 0), 104⟩,
   ⟨0x40, 0, 1, 18, 12, .ro, (.num 0), 104⟩] ++
  [⟨0x40, 0, 1, 21, 19, .ro, (.num 0), 104⟩,
   ⟨0x40, 0, 1, 25, 22, .ro, (.num 0), 104⟩,
   ⟨0x44, 0, 1, 24, 0, .ro, (.num 0), 104⟩,
   ⟨0x48, 0, 1, 31, 0, .ro, (.num 0), 104⟩,
   ⟨0x4c, 0, 1, 15, 0, .ro, (.num 0), 104⟩,
   ⟨0x80, 8, 8, 10, 0, .rw, .image, 120⟩,
   ⟨0x80, 8, 8, 16, 11, .rw, .image, 120⟩,
   ⟨0x80, 8, 8, 17, 17, .rw, .image, 120⟩,
   ⟨0x80, 8, 8, 18, 18, .rw, .image, 120⟩,
   ⟨0x84, 8, 8, 17, 0, .ro, (.num 0), 112⟩,
   ⟨0xf0, 0, 1, 31, 0, .rw, (.num 0), 120⟩,
   ⟨0xf4, 0, 1, 5, 0, .ro, (.num 0), 104⟩,
   ⟨0xf4, 0, 1, 10, 8, .ro, (.num 0), 104⟩,
   ⟨0x100, 8, 64, 31, 0, .ro, .image, 126⟩,
   ⟨0x104, 8, 64, 3, 0, .rwl, .image, 126⟩,
   ⟨0x104, 8, 64, 14, 8, .rwl, .image, 126⟩,
   ⟨0x104, 8, 64, 31, 31, .rwl, .image, 126⟩]

/-- Rows of the **Slot entry** table (R307). -/
def rowsSlot : List FieldRow :=
  [⟨0x400, 8, 64, 11, 0, .ro, .image, 126⟩,
   ⟨0x400, 8, 64, 13, 12, .ro, .image, 126⟩,
   ⟨0x400, 8, 64, 14, 14, .ro, .image, 126⟩,
   ⟨0x400, 8, 64, 20, 15, .ro, .image, 126⟩,
   ⟨0x400, 8, 64, 27, 21, .ro, .image, 126⟩,
   ⟨0x400, 8, 64, 31, 28, .ro, .image, 126⟩,
   ⟨0x404, 8, 64, 5, 0, .ro, .image, 126⟩,
   ⟨0x404, 8, 64, 9, 6, .ro, .image, 126⟩,
   ⟨0x404, 8, 64, 15, 10, .ro, .image, 126⟩]

/-- Rows of the **Counter bank** table (R775). -/
def rowsBank : List FieldRow :=
  [⟨0x600, 16, 4, 3, 0, .rw, (.num 0), 120⟩,
   ⟨0x600, 16, 4, 5, 4, .rw, (.num 0), 120⟩,
   ⟨0x600, 16, 4, 13, 8, .rw, (.num 0), 120⟩,
   ⟨0x600, 16, 4, 15, 15, .rw, (.num 0), 120⟩,
   ⟨0x600, 16, 4, 16, 16, .rw, (.num 0), 120⟩,
   ⟨0x600, 16, 4, 17, 17, .w1c, (.num 0), 120⟩,
   ⟨0x604, 16, 4, 31, 0, .ro, (.num 0), 120⟩,
   ⟨0x608, 16, 4, 15, 0, .ro, (.num 0), 120⟩,
   ⟨0x640, 0, 1, 0, 0, .rw, .image, 120⟩,
   ⟨0x640, 0, 1, 15, 8, .rw, .image, 120⟩,
   ⟨0x644, 0, 1, 0, 0, .wo, (.num 0), 0⟩,
   ⟨0x644, 0, 1, 1, 1, .rw, (.num 0), 120⟩]

/-- Rows of the **INBOX** table (R610). -/
def rowsInbox : List FieldRow :=
  [⟨0x0, 0, 1, 7, 0, .ro, (.num 0), 96⟩,
   ⟨0x0, 0, 1, 15, 8, .rw, (.num 0), 96⟩]

/-- Rows of the **Fault record** table (R338). -/
def rowsFrec : List FieldRow :=
  [⟨0x700, 0, 1, 3, 0, .ro, (.num 0), 104⟩,
   ⟨0x700, 0, 1, 7, 4, .ro, (.num 0), 104⟩,
   ⟨0x700, 0, 1, 14, 8, .ro, (.num 0), 104⟩,
   ⟨0x700, 0, 1, 15, 15, .w1c, (.num 0), 104⟩,
   ⟨0x700, 0, 1, 22, 16, .ro, (.num 0), 104⟩,
   ⟨0x700, 0, 1, 28, 23, .ro, (.num 0), 104⟩,
   ⟨0x704, 0, 1, 11, 0, .ro, (.num 0), 104⟩,
   ⟨0x704, 0, 1, 31, 12, .ro, (.num 0), 104⟩,
   ⟨0x708, 0, 1, 15, 0, .ro, (.num 0), 104⟩,
   ⟨0x708, 0, 1, 21, 16, .ro, (.num 0), 104⟩,
   ⟨0x708, 0, 1, 22, 22, .ro, (.num 0), 104⟩,
   ⟨0x708, 0, 1, 25, 23, .ro, (.num 0), 104⟩,
   ⟨0x708, 0, 1, 31, 26, .ro, (.num 0), 104⟩,
   ⟨0x70c, 0, 1, 31, 0, .ro, (.num 0), 104⟩,
   ⟨0x710, 0, 1, 15, 0, .ro, (.num 0), 104⟩,
   ⟨0x714, 0, 1, 6, 0, .ro, (.num 0), 104⟩,
   ⟨0x714, 0, 1, 15, 8, .ro, (.num 0), 104⟩,
   ⟨0x714, 0, 1, 31, 16, .ro, (.num 0), 104⟩,
   ⟨0x718, 0, 1, 31, 0, .ro, (.num 0), 104⟩,
   ⟨0x71c, 0, 1, 0, 0, .ro, (.num 0), 104⟩,
   ⟨0x71c, 0, 1, 15, 8, .ro, (.num 0), 104⟩]

/-- Nodes of the scheduled tiles E0–E23, of P0–P3, of W0–W5 and of G0–G3, in the order of their numbers (R28). -/
def eNodes : List Nat := [7, 8, 9, 11, 12, 13, 14, 15, 19, 20, 22, 23, 25, 26, 28, 29, 33, 34, 35, 36, 37, 39, 40, 41]
@[inherit_doc eNodes] def pNodes : List Nat := [1, 5, 43, 47]
@[inherit_doc eNodes] def wNodes : List Nat := [2, 3, 4, 44, 45, 46]
@[inherit_doc eNodes] def gNodes : List Nat := [10, 21, 27, 38]
@[inherit_doc eNodes] def tileNodes : List Nat := eNodes ++ pNodes
/-- The 49 nodes of the Lattice. -/
def allNodes : List Nat := List.range 49

/-- Every register block that holds fields (R972), the NI ranges of R975 as blocks of their own. -/
def regBlocks : List RegBlock :=
  [⟨[0], 0x1000000, 0x40, 8, rowsTenant⟩,
   ⟨[0], 0x1000400, 0x10, 8, rowsAvs⟩,
   ⟨[0], 0x1000600, 0x10, 2, rowsPortQ⟩,
   ⟨tileNodes, 0x1000000, 0x80, 1, rowsTile⟩,
   ⟨eNodes, 0x1000800, 0x10, 1, rowsDq⟩,
   ⟨wNodes, 0x1000000, 0x10, 16, rowsPhase⟩,
   ⟨[16, 18], 0x1001000, 0x8, 48, rowsSense⟩,
   ⟨[18], 0x1000000, 0x40, 16, rowsRail⟩,
   ⟨[18], 0x1000400, 0x40, 1, rowsBoard⟩,
   ⟨[18], 0x1000800, 0x10, 32, rowsTmon⟩,
   ⟨[18], 0x1002000, 0x20, 16, rowsLsw⟩,
   ⟨[18], 0x1002400, 0xc0, 1, rowsSw⟩,
   ⟨gNodes, 0x1000000, 0x100, 1, rowsGport⟩,
   ⟨[10], 0x1000400, 0x580, 1, rowsGarr⟩,
   ⟨[10], 0x1001000, 0x200, 1, rowsGcfg⟩,
   ⟨[6], 0x1000000, 0x40, 1, rowsDip⟩,
   ⟨[24], 0x1000000, 0x10, 16, rowsLgrp⟩] ++
  [⟨[24], 0x1000800, 0x10, 1, rowsLunit⟩,
   ⟨[24], 0x1001000, 0x8, 256, rowsLst⟩,
   ⟨[30], 0x1000000, 0x600, 1, rowsSeq⟩,
   ⟨[31], 0x1000000, 0x10, 1, rowsId⟩,
   ⟨[31], 0x1001000, 0x50, 1, rowsImg⟩,
   ⟨[31], 0x1002000, 0x80, 1, rowsPlane⟩,
   ⟨[31], 0x1003000, 0x40, 1, rowsPower⟩,
   ⟨[32], 0x1000000, 0x3400, 1, rowsSkb⟩,
   ⟨[42], 0x1000000, 0x200, 1, rowsNvc⟩,
   ⟨[48], 0x1000000, 0x10, 24, rowsDqx⟩,
   ⟨[48], 0x1001000, 0x20, 8, rowsTrc⟩,
   ⟨allNodes, 0x1f00000, 0x800, 1, rowsNi⟩,
   ⟨allNodes, 0x1f00000, 0x800, 1, rowsSlot⟩,
   ⟨allNodes, 0x1f00000, 0x800, 1, rowsBank⟩,
   ⟨pNodes, 0x1f00680, 0x4, 1, rowsInbox⟩,
   ⟨allNodes, 0x1f00000, 0x800, 1, rowsFrec⟩]

/-! Fields of the **Tenant block** (R623). -/
namespace Reg.Tenant
/-- Address of the block. -/
def base (n : Nat) : Nat := 0x01000000 + n * 0x40
@[inherit_doc base] def PORT (n : Nat) : Fld := ⟨base n, 1, 0⟩
@[inherit_doc base] def RIGHTS (n : Nat) : Fld := ⟨base n, 15, 8⟩
@[inherit_doc base] def PRIO (n : Nat) : Fld := ⟨base n, 17, 16⟩
@[inherit_doc base] def TEN_TMO (n : Nat) : Fld := ⟨base n + 0x4, 15, 0⟩
@[inherit_doc base] def STRETCH_MAX (n : Nat) : Fld := ⟨base n + 0x4, 23, 16⟩
@[inherit_doc base] def RBASE (n : Nat) : Fld := ⟨base n + 0x8, 18, 0⟩
@[inherit_doc base] def NBUF (n : Nat) : Fld := ⟨base n + 0xc, 7, 0⟩
@[inherit_doc base] def SERVER (n : Nat) : Fld := ⟨base n + 0xc, 9, 8⟩
@[inherit_doc base] def EN (n : Nat) : Fld := ⟨base n + 0xc, 10, 10⟩
@[inherit_doc base] def HEAD (n : Nat) : Fld := ⟨base n + 0x10, 7, 0⟩
@[inherit_doc base] def TAIL (n : Nat) : Fld := ⟨base n + 0x10, 15, 8⟩
@[inherit_doc base] def DROP_FRAMES (n : Nat) : Fld := ⟨base n + 0x14, 15, 0⟩
@[inherit_doc base] def NOTICE_LOST (n : Nat) : Fld := ⟨base n + 0x14, 31, 16⟩
@[inherit_doc base] def TENFAULT (n : Nat) : Fld := ⟨base n + 0x18, 11, 0⟩
@[inherit_doc base] def LAST_STATUS (n : Nat) : Fld := ⟨base n + 0x18, 15, 12⟩
@[inherit_doc base] def ALERT_MASK (n : Nat) : Fld := ⟨base n + 0x1c, 15, 0⟩
@[inherit_doc base] def RESET (n : Nat) : Fld := ⟨base n + 0x20, 0, 0⟩
@[inherit_doc base] def RESETTING (n : Nat) : Fld := ⟨base n + 0x20, 8, 8⟩
end Reg.Tenant

/-! Fields of the **AVSBus block** (R625). -/
namespace Reg.Avs
/-- Address of the block. -/
def base (p : Nat) : Nat := 0x01000400 + p * 0x10
@[inherit_doc base] def SEL0 (p : Nat) : Fld := ⟨base p, 3, 0⟩
@[inherit_doc base] def SEL1 (p : Nat) : Fld := ⟨base p, 7, 4⟩
@[inherit_doc base] def SEL2 (p : Nat) : Fld := ⟨base p, 11, 8⟩
@[inherit_doc base] def SEL3 (p : Nat) : Fld := ⟨base p, 15, 12⟩
@[inherit_doc base] def SEL4 (p : Nat) : Fld := ⟨base p, 19, 16⟩
@[inherit_doc base] def SEL5 (p : Nat) : Fld := ⟨base p, 23, 20⟩
@[inherit_doc base] def SEL6 (p : Nat) : Fld := ⟨base p, 27, 24⟩
@[inherit_doc base] def SEL7 (p : Nat) : Fld := ⟨base p, 31, 28⟩
@[inherit_doc base] def SEL8 (p : Nat) : Fld := ⟨base p + 0x4, 3, 0⟩
@[inherit_doc base] def SEL9 (p : Nat) : Fld := ⟨base p + 0x4, 7, 4⟩
@[inherit_doc base] def SEL10 (p : Nat) : Fld := ⟨base p + 0x4, 11, 8⟩
@[inherit_doc base] def SEL11 (p : Nat) : Fld := ⟨base p + 0x4, 15, 12⟩
@[inherit_doc base] def SEL12 (p : Nat) : Fld := ⟨base p + 0x4, 19, 16⟩
@[inherit_doc base] def SEL13 (p : Nat) : Fld := ⟨base p + 0x4, 23, 20⟩
@[inherit_doc base] def SEL14 (p : Nat) : Fld := ⟨base p + 0x4, 27, 24⟩
@[inherit_doc base] def SEL_EN (p : Nat) : Fld := ⟨base p + 0x8, 14, 0⟩
@[inherit_doc base] def ALERT (p : Nat) : Fld := ⟨base p + 0xc, 0, 0⟩
end Reg.Avs

/-! Fields of the **PortQ block** (R624). -/
namespace Reg.PortQ
/-- Address of the block. -/
def base (q : Nat) : Nat := 0x01000600 + q * 0x10
@[inherit_doc base] def PEC_REQ (q : Nat) : Fld := ⟨base q, 0, 0⟩
@[inherit_doc base] def PMADDR (q : Nat) : Fld := ⟨base q, 6, 4⟩
@[inherit_doc base] def PAGE (q : Nat) : Fld := ⟨base q + 0x4, 3, 0⟩
end Reg.PortQ

/-! Fields of the **Tile block** (R413). -/
namespace Reg.Tile
/-- Address of the block. -/
def base (node : Nat) : Nat := 0x1000000 + nodeBase node
@[inherit_doc base] def STATE (node : Nat) : Fld := ⟨base node, 1, 0⟩
@[inherit_doc base] def ENTRY (node : Nat) : Fld := ⟨base node + 0x4, 15, 0⟩
@[inherit_doc base] def ISET (node : Nat) : Fld := ⟨base node + 0x8, 31, 0⟩
@[inherit_doc base] def ECC_CORR (node : Nat) : Fld := ⟨base node + 0x10, 15, 0⟩
@[inherit_doc base] def ECC_UNCORR (node : Nat) : Fld := ⟨base node + 0x10, 31, 16⟩
@[inherit_doc base] def LAST_EXC_CAUSE (node : Nat) : Fld := ⟨base node + 0x14, 7, 0⟩
@[inherit_doc base] def LAST_EXC_PC (node : Nat) : Fld := ⟨base node + 0x14, 31, 16⟩
@[inherit_doc base] def LAST_EXC_EVAL (node : Nat) : Fld := ⟨base node + 0x18, 31, 0⟩
@[inherit_doc base] def ALLOWa_NODE (node : Nat) (i : Nat) : Fld := ⟨base node + 0x40 + 8 * i, 6, 0⟩
@[inherit_doc base] def ALLOWa_R (node : Nat) (i : Nat) : Fld := ⟨base node + 0x40 + 8 * i, 8, 8⟩
@[inherit_doc base] def ALLOWa_W (node : Nat) (i : Nat) : Fld := ⟨base node + 0x40 + 8 * i, 9, 9⟩
@[inherit_doc base] def ALLOWa_EN (node : Nat) (i : Nat) : Fld := ⟨base node + 0x40 + 8 * i, 10, 10⟩
@[inherit_doc base] def ALLOWa_LOG (node : Nat) (i : Nat) : Fld := ⟨base node + 0x40 + 8 * i, 15, 11⟩
@[inherit_doc base] def ALLOWa_BASE (node : Nat) (i : Nat) : Fld := ⟨base node + 0x44 + 8 * i, 24, 0⟩
end Reg.Tile

/-! Fields of the **DQ block** (R334). -/
namespace Reg.Dq
/-- Address of the block. -/
def base (node : Nat) : Nat := 0x1000800 + nodeBase node
@[inherit_doc base] def IN_CNT (node : Nat) : Fld := ⟨base node, 4, 0⟩
@[inherit_doc base] def OUT_FREE (node : Nat) : Fld := ⟨base node, 12, 8⟩
@[inherit_doc base] def ABSENT (node : Nat) : Fld := ⟨base node, 16, 16⟩
@[inherit_doc base] def EMPTY_POP (node : Nat) : Fld := ⟨base node, 17, 17⟩
@[inherit_doc base] def FULL_PUSH (node : Nat) : Fld := ⟨base node, 18, 18⟩
@[inherit_doc base] def CMD_ERR (node : Nat) : Fld := ⟨base node, 19, 19⟩
end Reg.Dq

/-! Fields of the **Phase block** (R136). -/
namespace Reg.Phase
/-- Address of the block. -/
def base (ph : Nat) : Nat := 0x1000000 + nodeBase (clusterNode (ph / 16)) + (ph % 16) * 0x10
@[inherit_doc base] def RAIL (ph : Nat) : Fld := ⟨base ph, 3, 0⟩
@[inherit_doc base] def STATE (ph : Nat) : Fld := ⟨base ph, 5, 4⟩
@[inherit_doc base] def TON (ph : Nat) : Fld := ⟨base ph + 0x4, 16, 0⟩
@[inherit_doc base] def LEVEL (ph : Nat) : Fld := ⟨base ph + 0x8, 1, 0⟩
@[inherit_doc base] def FORCED (ph : Nat) : Fld := ⟨base ph + 0x8, 2, 2⟩
@[inherit_doc base] def OC_LATCHED (ph : Nat) : Fld := ⟨base ph + 0x8, 3, 3⟩
@[inherit_doc base] def OC_CNT (ph : Nat) : Fld := ⟨base ph + 0x8, 15, 8⟩
@[inherit_doc base] def IPH (ph : Nat) : Fld := ⟨base ph + 0x8, 31, 16⟩
end Reg.Phase

/-! Fields of the **Phase sense block** (R135). -/
namespace Reg.Sense
/-- Address of the block. -/
def base (ph : Nat) : Nat := 0x1001000 + nodeBase (if ph < 48 then 16 else 18) + (ph % 48) * 0x8
@[inherit_doc base] def IOFS (ph : Nat) : Fld := ⟨base ph, 11, 0⟩
@[inherit_doc base] def IGAIN (ph : Nat) : Fld := ⟨base ph, 31, 16⟩
@[inherit_doc base] def IPH_MAX (ph : Nat) : Fld := ⟨base ph + 0x4, 11, 0⟩
@[inherit_doc base] def IPH_TRIP (ph : Nat) : Fld := ⟨base ph + 0x4, 23, 12⟩
@[inherit_doc base] def OC_LATCH_N (ph : Nat) : Fld := ⟨base ph + 0x4, 27, 24⟩
end Reg.Sense

/-! Fields of the **Rail block** (R132). -/
namespace Reg.Rail
/-- Address of the block. -/
def base (r : Nat) : Nat := 0x25000000 + r * 0x40
@[inherit_doc base] def EN (r : Nat) : Fld := ⟨base r, 0, 0⟩
@[inherit_doc base] def SP_OWNER (r : Nat) : Fld := ⟨base r, 4, 1⟩
@[inherit_doc base] def STBY_KEEP (r : Nat) : Fld := ⟨base r, 5, 5⟩
@[inherit_doc base] def OV_LATCH_N (r : Nat) : Fld := ⟨base r, 11, 8⟩
@[inherit_doc base] def DROOP_HYST (r : Nat) : Fld := ⟨base r, 13, 12⟩
@[inherit_doc base] def UV_DLY (r : Nat) : Fld := ⟨base r, 17, 14⟩
@[inherit_doc base] def VSET (r : Nat) : Fld := ⟨base r + 0x4, 11, 0⟩
@[inherit_doc base] def VNOW (r : Nat) : Fld := ⟨base r + 0x4, 27, 16⟩
@[inherit_doc base] def RATE_UP (r : Nat) : Fld := ⟨base r + 0x8, 7, 0⟩
@[inherit_doc base] def RATE_DN (r : Nat) : Fld := ⟨base r + 0x8, 15, 8⟩
@[inherit_doc base] def SLEW_MAX (r : Nat) : Fld := ⟨base r + 0x8, 23, 16⟩
@[inherit_doc base] def VOUT_MAX (r : Nat) : Fld := ⟨base r + 0xc, 11, 0⟩
@[inherit_doc base] def OV_THR (r : Nat) : Fld := ⟨base r + 0xc, 23, 12⟩
@[inherit_doc base] def UV_OFS (r : Nat) : Fld := ⟨base r + 0xc, 31, 24⟩
@[inherit_doc base] def LOADLINE (r : Nat) : Fld := ⟨base r + 0x10, 11, 0⟩
@[inherit_doc base] def OFS0 (r : Nat) : Fld := ⟨base r + 0x14, 6, 0⟩
@[inherit_doc base] def OFS1 (r : Nat) : Fld := ⟨base r + 0x14, 14, 8⟩
@[inherit_doc base] def OFS2 (r : Nat) : Fld := ⟨base r + 0x14, 22, 16⟩
@[inherit_doc base] def OFS3 (r : Nat) : Fld := ⟨base r + 0x14, 30, 24⟩
@[inherit_doc base] def POL0 (r : Nat) : Fld := ⟨base r + 0x14, 7, 7⟩
@[inherit_doc base] def POL1 (r : Nat) : Fld := ⟨base r + 0x14, 15, 15⟩
@[inherit_doc base] def POL2 (r : Nat) : Fld := ⟨base r + 0x14, 23, 23⟩
@[inherit_doc base] def POL3 (r : Nat) : Fld := ⟨base r + 0x14, 31, 31⟩
@[inherit_doc base] def IOUT_MAX (r : Nat) : Fld := ⟨base r + 0x18, 15, 0⟩
@[inherit_doc base] def ICEIL (r : Nat) : Fld := ⟨base r + 0x18, 31, 16⟩
@[inherit_doc base] def GCEIL (r : Nat) : Fld := ⟨base r + 0x1c, 15, 0⟩
@[inherit_doc base] def CLAMP (r : Nat) : Fld := ⟨base r + 0x1c, 31, 16⟩
@[inherit_doc base] def BWEIGHT (r : Nat) : Fld := ⟨base r + 0x20, 15, 0⟩
@[inherit_doc base] def SHARE (r : Nat) : Fld := ⟨base r + 0x20, 23, 16⟩
@[inherit_doc base] def PER (r : Nat) : Fld := ⟨base r + 0x24, 16, 0⟩
@[inherit_doc base] def TON_MIN (r : Nat) : Fld := ⟨base r + 0x28, 11, 0⟩
@[inherit_doc base] def TOFF_MIN (r : Nat) : Fld := ⟨base r + 0x28, 23, 12⟩
@[inherit_doc base] def FORCE_TON (r : Nat) : Fld := ⟨base r + 0x2c, 16, 0⟩
@[inherit_doc base] def KP (r : Nat) : Fld := ⟨base r + 0x30, 15, 0⟩
@[inherit_doc base] def KI (r : Nat) : Fld := ⟨base r + 0x30, 31, 16⟩
@[inherit_doc base] def KD (r : Nat) : Fld := ⟨base r + 0x34, 15, 0⟩
@[inherit_doc base] def DMAX (r : Nat) : Fld := ⟨base r + 0x34, 31, 16⟩
@[inherit_doc base] def OV_ACTIVE (r : Nat) : Fld := ⟨base r + 0x38, 0, 0⟩
@[inherit_doc base] def OFF_LATCHED (r : Nat) : Fld := ⟨base r + 0x38, 1, 1⟩
@[inherit_doc base] def OFF_CAUSE (r : Nat) : Fld := ⟨base r + 0x38, 4, 2⟩
@[inherit_doc base] def CLAMPED (r : Nat) : Fld := ⟨base r + 0x38, 5, 5⟩
@[inherit_doc base] def FALLBACK (r : Nat) : Fld := ⟨base r + 0x38, 6, 6⟩
@[inherit_doc base] def HOLD (r : Nat) : Fld := ⟨base r + 0x38, 7, 7⟩
@[inherit_doc base] def OV_COUNT (r : Nat) : Fld := ⟨base r + 0x38, 11, 8⟩
@[inherit_doc base] def DROOP (r : Nat) : Fld := ⟨base r + 0x38, 15, 12⟩
@[inherit_doc base] def RESTART (r : Nat) : Fld := ⟨base r + 0x38, 31, 31⟩
@[inherit_doc base] def IRAIL (r : Nat) : Fld := ⟨base r + 0x3c, 15, 0⟩
@[inherit_doc base] def VSENSE (r : Nat) : Fld := ⟨base r + 0x3c, 28, 16⟩
end Reg.Rail

/-! Fields of the **Board block** (R133). -/
namespace Reg.Board
/-- Address of the block. -/
def base : Nat := 0x25000400
@[inherit_doc base] def BUDGET : Fld := ⟨0x25000400, 15, 0⟩
@[inherit_doc base] def BUDGET_MAX : Fld := ⟨0x25000400, 31, 16⟩
@[inherit_doc base] def HYST : Fld := ⟨0x25000404, 15, 0⟩
@[inherit_doc base] def CLAMPED : Fld := ⟨0x25000404, 16, 16⟩
@[inherit_doc base] def IBUS : Fld := ⟨0x25000408, 15, 0⟩
@[inherit_doc base] def VIN_UV : Fld := ⟨0x2500040C, 7, 0⟩
@[inherit_doc base] def VB48_LOW : Fld := ⟨0x2500040C, 19, 8⟩
@[inherit_doc base] def VBUS12 : Fld := ⟨0x25000410, 11, 0⟩
@[inherit_doc base] def VBUS48 : Fld := ⟨0x25000410, 27, 16⟩
end Reg.Board

/-! Fields of the **TMON block** (R134). -/
namespace Reg.Tmon
/-- Address of the block. -/
def base (t : Nat) : Nat := 0x25000800 + t * 0x10
@[inherit_doc base] def RAIL (t : Nat) : Fld := ⟨base t, 3, 0⟩
@[inherit_doc base] def EN (t : Nat) : Fld := ⟨base t, 4, 4⟩
@[inherit_doc base] def TWARN (t : Nat) : Fld := ⟨base t, 15, 8⟩
@[inherit_doc base] def TSHUT (t : Nat) : Fld := ⟨base t, 23, 16⟩
@[inherit_doc base] def TOFS (t : Nat) : Fld := ⟨base t + 0x4, 9, 0⟩
@[inherit_doc base] def TGAIN (t : Nat) : Fld := ⟨base t + 0x4, 25, 16⟩
@[inherit_doc base] def TEMP (t : Nat) : Fld := ⟨base t + 0x8, 11, 0⟩
end Reg.Tmon

/-! Fields of the **Channel block** (R720). -/
namespace Reg.Lsw
/-- Address of the block. -/
def base (n : Nat) : Nat := 0x25002000 + n * 0x20
@[inherit_doc base] def PROFILE (n : Nat) : Fld := ⟨base n, 1, 0⟩
@[inherit_doc base] def RETRY_N (n : Nat) : Fld := ⟨base n, 5, 2⟩
@[inherit_doc base] def RETRY_BASE (n : Nat) : Fld := ⟨base n, 9, 6⟩
@[inherit_doc base] def DT_LIM (n : Nat) : Fld := ⟨base n, 14, 10⟩
@[inherit_doc base] def SAFE_ACT (n : Nat) : Fld := ⟨base n, 16, 15⟩
@[inherit_doc base] def WMASK (n : Nat) : Fld := ⟨base n, 31, 24⟩
@[inherit_doc base] def ILIM_MAX (n : Nat) : Fld := ⟨base n + 0x4, 5, 0⟩
@[inherit_doc base] def ILIM (n : Nat) : Fld := ⟨base n + 0x4, 13, 8⟩
@[inherit_doc base] def RANK (n : Nat) : Fld := ⟨base n + 0x4, 19, 16⟩
@[inherit_doc base] def MODE (n : Nat) : Fld := ⟨base n + 0x8, 1, 0⟩
@[inherit_doc base] def LATCH_CLR (n : Nat) : Fld := ⟨base n + 0x8, 8, 8⟩
@[inherit_doc base] def CONDUCT (n : Nat) : Fld := ⟨base n + 0xc, 0, 0⟩
@[inherit_doc base] def START (n : Nat) : Fld := ⟨base n + 0xc, 1, 1⟩
@[inherit_doc base] def PAUSE (n : Nat) : Fld := ⟨base n + 0xc, 2, 2⟩
@[inherit_doc base] def THERM (n : Nat) : Fld := ⟨base n + 0xc, 3, 3⟩
@[inherit_doc base] def LATCHED (n : Nat) : Fld := ⟨base n + 0xc, 4, 4⟩
@[inherit_doc base] def BUS_OFF (n : Nat) : Fld := ⟨base n + 0xc, 5, 5⟩
@[inherit_doc base] def IN (n : Nat) : Fld := ⟨base n + 0xc, 6, 6⟩
@[inherit_doc base] def WANT (n : Nat) : Fld := ⟨base n + 0xc, 7, 7⟩
@[inherit_doc base] def TRIPS (n : Nat) : Fld := ⟨base n + 0xc, 11, 8⟩
@[inherit_doc base] def PAUSE_LEFT (n : Nat) : Fld := ⟨base n + 0xc, 25, 16⟩
@[inherit_doc base] def IOUT (n : Nat) : Fld := ⟨base n + 0x10, 11, 0⟩
@[inherit_doc base] def TJ (n : Nat) : Fld := ⟨base n + 0x14, 8, 0⟩
@[inherit_doc base] def DT (n : Nat) : Fld := ⟨base n + 0x14, 23, 16⟩
@[inherit_doc base] def TRIP_CNT (n : Nat) : Fld := ⟨base n + 0x18, 15, 0⟩
@[inherit_doc base] def THERM_CNT (n : Nat) : Fld := ⟨base n + 0x18, 31, 16⟩
@[inherit_doc base] def TWIN_TRIPS (n : Nat) : Fld := ⟨base n + 0x1c, 3, 0⟩
@[inherit_doc base] def TWIN_LATCHED (n : Nat) : Fld := ⟨base n + 0x1c, 4, 4⟩
end Reg.Lsw

/-! Fields of the **Switch block** (R721). -/
namespace Reg.Sw
/-- Address of the block. -/
def base : Nat := 0x25002400
@[inherit_doc base] def STAGGER : Fld := ⟨0x25002400, 4, 0⟩
@[inherit_doc base] def WDT_PER : Fld := ⟨0x25002400, 15, 8⟩
@[inherit_doc base] def WDT_KICK : Fld := ⟨0x25002404, 31, 0⟩
@[inherit_doc base] def WDT_EXP : Fld := ⟨0x25002408, 0, 0⟩
@[inherit_doc base] def KICK_BAD : Fld := ⟨0x25002408, 1, 1⟩
@[inherit_doc base] def RETAINED : Fld := ⟨0x25002408, 2, 2⟩
@[inherit_doc base] def RETURNING : Fld := ⟨0x25002408, 3, 3⟩
@[inherit_doc base] def MSEQ : Fld := ⟨0x25002408, 15, 8⟩
end Reg.Sw

/-! Fields of the **Port block** (R207). -/
namespace Reg.Gport
/-- Address of the block. -/
def base (node : Nat) : Nat := 0x1000000 + nodeBase node
@[inherit_doc base] def OUT_MODE (node : Nat) (i : Nat) : Fld := ⟨base node + 0x0 + 4 * i, 1, 0⟩
@[inherit_doc base] def GROUP (node : Nat) (i : Nat) : Fld := ⟨base node + 0x0 + 4 * i, 3, 2⟩
@[inherit_doc base] def IN_MODE (node : Nat) (i : Nat) : Fld := ⟨base node + 0x0 + 4 * i, 4, 4⟩
@[inherit_doc base] def INIT (node : Nat) (i : Nat) : Fld := ⟨base node + 0x0 + 4 * i, 31, 16⟩
@[inherit_doc base] def OUT_PEEK_DATA (node : Nat) (i : Nat) : Fld := ⟨base node + 0x40 + 4 * i, 15, 0⟩
@[inherit_doc base] def OUT_PEEK_VALID (node : Nat) (i : Nat) : Fld := ⟨base node + 0x40 + 4 * i, 16, 16⟩
@[inherit_doc base] def OUT_POP (node : Nat) (i : Nat) : Fld := ⟨base node + 0x60 + 4 * i, 16, 0⟩
@[inherit_doc base] def IN_DATA (node : Nat) (i : Nat) : Fld := ⟨base node + 0x80 + 4 * i, 15, 0⟩
@[inherit_doc base] def OVF (node : Nat) : Fld := ⟨base node + 0xa0, 7, 0⟩
@[inherit_doc base] def SNAP_MISS (node : Nat) : Fld := ⟨base node + 0xa0, 15, 8⟩
@[inherit_doc base] def FULL (node : Nat) : Fld := ⟨base node + 0xa0, 23, 16⟩
@[inherit_doc base] def SNAP_REQ (node : Nat) : Fld := ⟨base node + 0xa4, 7, 0⟩
end Reg.Gport

/-! Fields of the **Array block** (R208). -/
namespace Reg.Garr
/-- Address of the block. -/
def base : Nat := 0x15000400
@[inherit_doc base] def VDDG_SET : Fld := ⟨0x15000400, 4, 0⟩
@[inherit_doc base] def VDDG_MIN : Fld := ⟨0x15000400, 12, 8⟩
@[inherit_doc base] def CODE_ERR : Fld := ⟨0x15000404, 0, 0⟩
@[inherit_doc base] def SLOW : Fld := ⟨0x15000404, 1, 1⟩
@[inherit_doc base] def GMEM_LEN : Fld := ⟨0x15000408, 23, 0⟩
@[inherit_doc base] def PROBE_VIEW (i : Nat) : Fld := ⟨0x15000420 + 4 * i, 1, 0⟩
@[inherit_doc base] def PROBE_KIND (i : Nat) : Fld := ⟨0x15000420 + 4 * i, 2, 2⟩
@[inherit_doc base] def PROBE_SRC (i : Nat) : Fld := ⟨0x15000420 + 4 * i, 15, 4⟩
@[inherit_doc base] def RINGc (i : Nat) : Fld := ⟨0x15000480 + 4 * i, 15, 0⟩
@[inherit_doc base] def GIOn_KIND (i : Nat) : Fld := ⟨0x15000800 + 4 * i, 1, 0⟩
@[inherit_doc base] def GIOn_SHADOW_DRV (i : Nat) : Fld := ⟨0x15000800 + 4 * i, 2, 2⟩
end Reg.Garr

/-! Fields of the **Configuration block** (R872). -/
namespace Reg.Gcfg
/-- Address of the block. -/
def base : Nat := 0x15001000
@[inherit_doc base] def CMD : Fld := ⟨0x15001000, 3, 0⟩
@[inherit_doc base] def CMD_REGION : Fld := ⟨0x15001000, 10, 8⟩
@[inherit_doc base] def FAR : Fld := ⟨0x15001004, 15, 0⟩
@[inherit_doc base] def FDATA : Fld := ⟨0x15001008, 31, 0⟩
@[inherit_doc base] def FDOUT : Fld := ⟨0x1500100C, 31, 0⟩
@[inherit_doc base] def STATE : Fld := ⟨0x15001010, 2, 0⟩
@[inherit_doc base] def SLOT : Fld := ⟨0x15001010, 4, 4⟩
@[inherit_doc base] def ORDER_FLAGS : Fld := ⟨0x15001010, 10, 8⟩
@[inherit_doc base] def CMD_ERR : Fld := ⟨0x15001010, 16, 16⟩
@[inherit_doc base] def WR_REFUSED : Fld := ⟨0x15001010, 17, 17⟩
@[inherit_doc base] def CRIT : Fld := ⟨0x15001010, 18, 18⟩
@[inherit_doc base] def LOCK_TMO : Fld := ⟨0x15001010, 19, 19⟩
@[inherit_doc base] def BOOT_FAIL : Fld := ⟨0x15001010, 20, 20⟩
@[inherit_doc base] def REFUSE_CODE : Fld := ⟨0x15001014, 3, 0⟩
@[inherit_doc base] def REFUSE_COLUMN : Fld := ⟨0x15001014, 8, 4⟩
@[inherit_doc base] def REFUSE_ROW : Fld := ⟨0x15001014, 15, 12⟩
@[inherit_doc base] def REFUSE_MC : Fld := ⟨0x15001014, 19, 16⟩
@[inherit_doc base] def STARTUP_ORDER : Fld := ⟨0x15001018, 7, 0⟩
@[inherit_doc base] def STARTUP_DLY : Fld := ⟨0x15001018, 15, 8⟩
@[inherit_doc base] def CTL_CRC_CHK : Fld := ⟨0x15001018, 16, 16⟩
@[inherit_doc base] def CRC_EXP : Fld := ⟨0x1500101C, 31, 0⟩
@[inherit_doc base] def SCRUB_PER : Fld := ⟨0x15001020, 7, 0⟩
@[inherit_doc base] def SCRUB_CRIT_ACT : Fld := ⟨0x15001020, 9, 8⟩
@[inherit_doc base] def SCRUB_PASSES : Fld := ⟨0x15001024, 31, 0⟩
@[inherit_doc base] def REPAIR_CNT : Fld := ⟨0x15001028, 31, 0⟩
@[inherit_doc base] def CRIT_CNT : Fld := ⟨0x1500102C, 31, 0⟩
@[inherit_doc base] def LAST_UPSET_FRAME : Fld := ⟨0x15001030, 15, 0⟩
@[inherit_doc base] def LAST_UPSET_WORD : Fld := ⟨0x15001030, 22, 16⟩
@[inherit_doc base] def DESIGN_ID : Fld := ⟨0x15001034, 31, 0⟩
@[inherit_doc base] def PL_ADDR_WORD : Fld := ⟨0x15001040, 11, 0⟩
@[inherit_doc base] def PL_ADDR_MEM : Fld := ⟨0x15001040, 16, 12⟩
@[inherit_doc base] def PL_DATA : Fld := ⟨0x15001044, 8, 0⟩
@[inherit_doc base] def REGIONr_FIRST (i : Nat) : Fld := ⟨0x15001080 + 8 * i, 4, 0⟩
@[inherit_doc base] def REGIONr_LAST (i : Nat) : Fld := ⟨0x15001080 + 8 * i, 12, 8⟩
@[inherit_doc base] def REGIONr_EN (i : Nat) : Fld := ⟨0x15001080 + 8 * i, 16, 16⟩
@[inherit_doc base] def REGIONr_STATE (i : Nat) : Fld := ⟨0x15001080 + 8 * i, 21, 20⟩
@[inherit_doc base] def REGIONr_ERR (i : Nat) : Fld := ⟨0x15001080 + 8 * i, 27, 24⟩
@[inherit_doc base] def REGIONr_CRC_EXP (i : Nat) : Fld := ⟨0x15001084 + 8 * i, 31, 0⟩
@[inherit_doc base] def GIO_REST (i : Nat) : Fld := ⟨0x15001100 + 4 * i, 31, 0⟩
end Reg.Gcfg

/-! Fields of the **Twin block** (R665). -/
namespace Reg.Dip
/-- Address of the block. -/
def base : Nat := 0x0D000000
@[inherit_doc base] def CTL_LINK_RST : Fld := ⟨0x0D000000, 0, 0⟩
@[inherit_doc base] def CTL_HANDOVER : Fld := ⟨0x0D000000, 1, 1⟩
@[inherit_doc base] def CTL_EPOCH_NOW : Fld := ⟨0x0D000000, 2, 2⟩
@[inherit_doc base] def CTL_LINK_HOLD : Fld := ⟨0x0D000000, 8, 8⟩
@[inherit_doc base] def EPOCH_ROUNDS : Fld := ⟨0x0D000004, 8, 0⟩
@[inherit_doc base] def ACK_TMO : Fld := ⟨0x0D000004, 25, 16⟩
@[inherit_doc base] def NEG_TMO : Fld := ⟨0x0D000008, 7, 0⟩
@[inherit_doc base] def LINK : Fld := ⟨0x0D00000C, 1, 0⟩
@[inherit_doc base] def ROLE : Fld := ⟨0x0D00000C, 6, 4⟩
@[inherit_doc base] def ROLE_EPOCH : Fld := ⟨0x0D00000C, 11, 8⟩
@[inherit_doc base] def PREF : Fld := ⟨0x0D00000C, 13, 12⟩
@[inherit_doc base] def OWN_OUT : Fld := ⟨0x0D00000C, 16, 16⟩
@[inherit_doc base] def OWN_IN : Fld := ⟨0x0D00000C, 17, 17⟩
@[inherit_doc base] def TAKE_N : Fld := ⟨0x0D00000C, 18, 18⟩
@[inherit_doc base] def TWIN_OK : Fld := ⟨0x0D00000C, 19, 19⟩
@[inherit_doc base] def LAST_DOWN : Fld := ⟨0x0D00000C, 22, 20⟩
@[inherit_doc base] def CEPOCH : Fld := ⟨0x0D000010, 15, 0⟩
@[inherit_doc base] def TWIN_CEPOCH : Fld := ⟨0x0D000010, 31, 16⟩
@[inherit_doc base] def REPLAY_CNT : Fld := ⟨0x0D000014, 15, 0⟩
@[inherit_doc base] def LINKDOWN_CNT : Fld := ⟨0x0D000014, 31, 16⟩
@[inherit_doc base] def EPOCH_DROP : Fld := ⟨0x0D000018, 15, 0⟩
@[inherit_doc base] def EPOCH_SKIP : Fld := ⟨0x0D000018, 31, 16⟩
@[inherit_doc base] def CEIL_CRC : Fld := ⟨0x0D00001C, 31, 0⟩
@[inherit_doc base] def TWIN_CEIL_CRC : Fld := ⟨0x0D000020, 31, 0⟩
@[inherit_doc base] def TWIN_UID (i : Nat) : Fld := ⟨0x0D000024 + 4 * i, 31, 0⟩
end Reg.Dip

/-! Fields of the **Group block** (R555). -/
namespace Reg.Lgrp
/-- Address of the block. -/
def base (g : Nat) : Nat := 0x31000000 + g * 0x10
@[inherit_doc base] def MASK (g : Nat) : Fld := ⟨base g, 7, 0⟩
@[inherit_doc base] def ADMIN (g : Nat) : Fld := ⟨base g, 10, 8⟩
@[inherit_doc base] def HOLD_TMO (g : Nat) : Fld := ⟨base g, 19, 16⟩
@[inherit_doc base] def FORCE_TMO (g : Nat) : Fld := ⟨base g, 20, 20⟩
end Reg.Lgrp

/-! Fields of the **Unit block** (R556). -/
namespace Reg.Lunit
/-- Address of the block. -/
def base : Nat := 0x31000800
@[inherit_doc base] def SLOTS_FREE : Fld := ⟨0x31000800, 9, 0⟩
@[inherit_doc base] def SLOTS_LOW : Fld := ⟨0x31000800, 25, 16⟩
@[inherit_doc base] def RESET_QUAR : Fld := ⟨0x31000804, 11, 0⟩
@[inherit_doc base] def DEADLOCK_CNT : Fld := ⟨0x31000808, 15, 0⟩
@[inherit_doc base] def ABANDON_CNT : Fld := ⟨0x31000808, 31, 16⟩
end Reg.Lunit

/-! Fields of the **Lock state** (R557). -/
namespace Reg.Lst
/-- Address of the block. -/
def base (n : Nat) : Nat := 0x31001000 + n * 8
@[inherit_doc base] def HELD (n : Nat) : Fld := ⟨base n, 0, 0⟩
@[inherit_doc base] def ABANDONED (n : Nat) : Fld := ⟨base n, 1, 1⟩
@[inherit_doc base] def HOLDER_TENANT (n : Nat) : Fld := ⟨base n, 4, 2⟩
@[inherit_doc base] def HOLDER_NODE (n : Nat) : Fld := ⟨base n, 11, 5⟩
@[inherit_doc base] def BASE (n : Nat) : Fld := ⟨base n, 15, 12⟩
@[inherit_doc base] def EPRIO (n : Nat) : Fld := ⟨base n, 19, 16⟩
@[inherit_doc base] def WAITERS (n : Nat) : Fld := ⟨base n, 29, 20⟩
@[inherit_doc base] def FORCE (n : Nat) : Fld := ⟨base n + 0x4, 0, 0⟩
end Reg.Lst

/-! Fields of the **SEQ block** (R774). -/
namespace Reg.Seq
/-- Address of the block. -/
def base : Nat := 0x3D000000
@[inherit_doc base] def COUNT : Fld := ⟨0x3D000000, 27, 0⟩
@[inherit_doc base] def ROLE_EPOCH : Fld := ⟨0x3D000000, 31, 28⟩
@[inherit_doc base] def LOSS_CNT : Fld := ⟨0x3D000004, 31, 0⟩
@[inherit_doc base] def SOVF_CNT : Fld := ⟨0x3D000008, 31, 0⟩
@[inherit_doc base] def EVRr_BASE (i : Nat) : Fld := ⟨0x3D000100 + 32 * i, 18, 0⟩
@[inherit_doc base] def EVRr_LOG (i : Nat) : Fld := ⟨0x3D000104 + 32 * i, 3, 0⟩
@[inherit_doc base] def EVRr_SERVER (i : Nat) : Fld := ⟨0x3D000104 + 32 * i, 5, 4⟩
@[inherit_doc base] def EVRr_EN (i : Nat) : Fld := ⟨0x3D000104 + 32 * i, 8, 8⟩
@[inherit_doc base] def EVRr_OVF (i : Nat) : Fld := ⟨0x3D000104 + 32 * i, 16, 16⟩
@[inherit_doc base] def EVRr_TAIL_BAD (i : Nat) : Fld := ⟨0x3D000104 + 32 * i, 17, 17⟩
@[inherit_doc base] def EVRr_HEAD (i : Nat) : Fld := ⟨0x3D000108 + 32 * i, 15, 0⟩
@[inherit_doc base] def EVRr_TAIL (i : Nat) : Fld := ⟨0x3D000108 + 32 * i, 31, 16⟩
@[inherit_doc base] def EVRr_CLASSMASK (i : Nat) : Fld := ⟨0x3D00010C + 32 * i, 31, 0⟩
@[inherit_doc base] def EVRr_LOST (i : Nat) : Fld := ⟨0x3D000110 + 32 * i, 31, 0⟩
@[inherit_doc base] def CC_UREAD : Fld := ⟨0x3D000200, 0, 0⟩
@[inherit_doc base] def CC_TENANTS : Fld := ⟨0x3D000200, 15, 8⟩
@[inherit_doc base] def CC_CLR : Fld := ⟨0x3D000204, 0, 0⟩
@[inherit_doc base] def CC_FREEZE : Fld := ⟨0x3D000204, 1, 1⟩
@[inherit_doc base] def CCj_MODE (i : Nat) : Fld := ⟨0x3D000400 + 16 * i, 1, 0⟩
@[inherit_doc base] def CCj_EVT (i : Nat) : Fld := ⟨0x3D000400 + 16 * i, 16, 16⟩
@[inherit_doc base] def CCj_OVF (i : Nat) : Fld := ⟨0x3D000400 + 16 * i, 17, 17⟩
@[inherit_doc base] def CCj_MATCH (i : Nat) : Fld := ⟨0x3D000404 + 16 * i, 15, 0⟩
@[inherit_doc base] def CCj_MASK (i : Nat) : Fld := ⟨0x3D000404 + 16 * i, 31, 16⟩
@[inherit_doc base] def CCj_LO (i : Nat) : Fld := ⟨0x3D000408 + 16 * i, 31, 0⟩
@[inherit_doc base] def CCj_HI (i : Nat) : Fld := ⟨0x3D00040C + 16 * i, 15, 0⟩
end Reg.Seq

/-! Fields of the **Identity block** (R973). -/
namespace Reg.Id
/-- Address of the block. -/
def base : Nat := 0x3F000000
@[inherit_doc base] def DEV_ID : Fld := ⟨0x3F000000, 31, 0⟩
@[inherit_doc base] def UID_LO : Fld := ⟨0x3F000004, 31, 0⟩
@[inherit_doc base] def UID_HI : Fld := ⟨0x3F000008, 31, 0⟩
end Reg.Id

/-! Fields of the **Image block** (R830). -/
namespace Reg.Img
/-- Address of the block. -/
def base : Nat := 0x3F001000
@[inherit_doc base] def IMG_ERR_CODE : Fld := ⟨0x3F001000, 3, 0⟩
@[inherit_doc base] def IMG_ERR_SECTION : Fld := ⟨0x3F001000, 15, 8⟩
@[inherit_doc base] def IMG_ID : Fld := ⟨0x3F001004, 31, 0⟩
@[inherit_doc base] def SECVER : Fld := ⟨0x3F001008, 31, 0⟩
@[inherit_doc base] def KEYSLOT : Fld := ⟨0x3F00100C, 1, 0⟩
@[inherit_doc base] def OPEN : Fld := ⟨0x3F00100C, 4, 4⟩
@[inherit_doc base] def XSPI_FALLBACK : Fld := ⟨0x3F00100C, 5, 5⟩
@[inherit_doc base] def MINVER : Fld := ⟨0x3F001010, 31, 0⟩
@[inherit_doc base] def KEY_STATES : Fld := ⟨0x3F001014, 5, 0⟩
@[inherit_doc base] def KEYCMD_SLOT : Fld := ⟨0x3F001018, 1, 0⟩
@[inherit_doc base] def KEYHASHi (i : Nat) : Fld := ⟨0x3F001020 + 4 * i, 31, 0⟩
end Reg.Img

/-! Fields of the **Plane block** (R355). -/
namespace Reg.Plane
/-- Address of the block. -/
def base : Nat := 0x3F002000
@[inherit_doc base] def ROUND_LEN : Fld := ⟨0x3F002000, 12, 0⟩
@[inherit_doc base] def STALL_MAX : Fld := ⟨0x3F002000, 22, 16⟩
@[inherit_doc base] def STATE : Fld := ⟨0x3F002004, 1, 0⟩
@[inherit_doc base] def CTL_RESTART : Fld := ⟨0x3F002004, 8, 8⟩
@[inherit_doc base] def CTL_SWITCH : Fld := ⟨0x3F002004, 9, 9⟩
@[inherit_doc base] def CTL_SEL : Fld := ⟨0x3F002004, 13, 12⟩
@[inherit_doc base] def LOADED : Fld := ⟨0x3F002004, 17, 16⟩
@[inherit_doc base] def ROUND : Fld := ⟨0x3F002008, 31, 0⟩
@[inherit_doc base] def PBEAT : Fld := ⟨0x3F00200C, 11, 0⟩
@[inherit_doc base] def STALL_TOTAL : Fld := ⟨0x3F002010, 31, 0⟩
@[inherit_doc base] def STALL_PEAK : Fld := ⟨0x3F002014, 6, 0⟩
@[inherit_doc base] def RGRP0 : Fld := ⟨0x3F002018, 2, 0⟩
@[inherit_doc base] def RGRP1 : Fld := ⟨0x3F002018, 6, 4⟩
@[inherit_doc base] def RGRP2 : Fld := ⟨0x3F002018, 10, 8⟩
@[inherit_doc base] def RGRP3 : Fld := ⟨0x3F002018, 14, 12⟩
@[inherit_doc base] def RGRP4 : Fld := ⟨0x3F002018, 18, 16⟩
@[inherit_doc base] def RGRP5 : Fld := ⟨0x3F002018, 22, 20⟩
@[inherit_doc base] def RGRP6 : Fld := ⟨0x3F002018, 26, 24⟩
@[inherit_doc base] def RGRP7 : Fld := ⟨0x3F002018, 30, 28⟩
@[inherit_doc base] def RGRP8 : Fld := ⟨0x3F00201C, 2, 0⟩
@[inherit_doc base] def RGRP9 : Fld := ⟨0x3F00201C, 6, 4⟩
@[inherit_doc base] def RGRP10 : Fld := ⟨0x3F00201C, 10, 8⟩
@[inherit_doc base] def RGRP11 : Fld := ⟨0x3F00201C, 14, 12⟩
@[inherit_doc base] def RGRP12 : Fld := ⟨0x3F00201C, 18, 16⟩
@[inherit_doc base] def RGRP13 : Fld := ⟨0x3F00201C, 22, 20⟩
@[inherit_doc base] def RGRP14 : Fld := ⟨0x3F00201C, 26, 24⟩
@[inherit_doc base] def RGRP15 : Fld := ⟨0x3F00201C, 30, 28⟩
@[inherit_doc base] def ACTg (i : Nat) : Fld := ⟨0x3F002020 + 4 * i, 0, 0⟩
@[inherit_doc base] def HOLD_LIMg (i : Nat) : Fld := ⟨0x3F002020 + 4 * i, 7, 4⟩
@[inherit_doc base] def GRP_OUT : Fld := ⟨0x3F002040, 7, 0⟩
@[inherit_doc base] def LOAD_ERR_CODE : Fld := ⟨0x3F002044, 3, 0⟩
@[inherit_doc base] def LOAD_ERR_NODE : Fld := ⟨0x3F002044, 14, 8⟩
@[inherit_doc base] def LOAD_ERR_ENTRY : Fld := ⟨0x3F002044, 21, 16⟩
@[inherit_doc base] def FIRST (i : Nat) : Fld := ⟨0x3F002060 + 4 * i, 31, 0⟩
end Reg.Plane

/-! Fields of the **Power block** (R910). -/
namespace Reg.Power
/-- Address of the block. -/
def base : Nat := 0x3F003000
@[inherit_doc base] def STATE : Fld := ⟨0x3F003000, 1, 0⟩
@[inherit_doc base] def ENTRY_ERR : Fld := ⟨0x3F003000, 6, 4⟩
@[inherit_doc base] def CMD_STATE : Fld := ⟨0x3F003004, 1, 0⟩
@[inherit_doc base] def CMD_KEY : Fld := ⟨0x3F003004, 31, 16⟩
@[inherit_doc base] def RESET : Fld := ⟨0x3F003008, 31, 0⟩
@[inherit_doc base] def NRST_ON_STOP : Fld := ⟨0x3F00300C, 3, 0⟩
@[inherit_doc base] def WAKE_REASON : Fld := ⟨0x3F003010, 7, 0⟩
@[inherit_doc base] def WAKE_FAIL : Fld := ⟨0x3F003010, 15, 8⟩
@[inherit_doc base] def WAKE_FAIL_STEP : Fld := ⟨0x3F003010, 19, 16⟩
@[inherit_doc base] def WAKE_ATTEMPTS : Fld := ⟨0x3F003010, 23, 20⟩
@[inherit_doc base] def WAKE_US : Fld := ⟨0x3F003014, 31, 0⟩
@[inherit_doc base] def SEALED : Fld := ⟨0x3F003018, 0, 0⟩
@[inherit_doc base] def SEAL_HELD : Fld := ⟨0x3F003018, 15, 8⟩
@[inherit_doc base] def DEEP_ALERT : Fld := ⟨0x3F00301C, 15, 0⟩
@[inherit_doc base] def CLK_FALLBACK : Fld := ⟨0x3F003020, 0, 0⟩
@[inherit_doc base] def UNCLEAN : Fld := ⟨0x3F003020, 1, 1⟩
end Reg.Power

/-! Fields of the **Sketchbook block** (R777). -/
namespace Reg.Skb
/-- Address of the block. -/
def base : Nat := 0x41000000
@[inherit_doc base] def PERSIST_MIN : Fld := ⟨0x41000000, 5, 0⟩
@[inherit_doc base] def READ_MASK : Fld := ⟨0x41000000, 15, 8⟩
@[inherit_doc base] def PERSIST_NOW : Fld := ⟨0x41000004, 0, 0⟩
@[inherit_doc base] def BUSY : Fld := ⟨0x41000004, 8, 8⟩
@[inherit_doc base] def TORN : Fld := ⟨0x41000008, 0, 0⟩
@[inherit_doc base] def GEN : Fld := ⟨0x4100000C, 31, 0⟩
@[inherit_doc base] def FR_TOTAL : Fld := ⟨0x41000010, 31, 0⟩
@[inherit_doc base] def COUNTi_LO_HI (i : Nat) : Fld := ⟨0x41001000 + 4 * i, 31, 0⟩
@[inherit_doc base] def FAULTf (i : Nat) : Fld := ⟨0x41003000 + 4 * i, 31, 0⟩
end Reg.Skb

/-! Fields of the **NVC block** (R829). -/
namespace Reg.Nvc
/-- Address of the block. -/
def base : Nat := 0x55000000
@[inherit_doc base] def CMD_PAGE : Fld := ⟨0x55000000, 13, 0⟩
@[inherit_doc base] def CMD_OP : Fld := ⟨0x55000000, 31, 28⟩
@[inherit_doc base] def BUSY : Fld := ⟨0x55000004, 0, 0⟩
@[inherit_doc base] def DONE : Fld := ⟨0x55000004, 1, 1⟩
@[inherit_doc base] def RESULT : Fld := ⟨0x55000004, 6, 4⟩
@[inherit_doc base] def PULSES : Fld := ⟨0x55000004, 16, 8⟩
@[inherit_doc base] def EPULSES : Fld := ⟨0x55000004, 19, 18⟩
@[inherit_doc base] def LAST_PAGE : Fld := ⟨0x55000008, 13, 0⟩
@[inherit_doc base] def PULSE_WARN : Fld := ⟨0x5500000C, 8, 0⟩
@[inherit_doc base] def SPARE_FREE : Fld := ⟨0x55000010, 7, 0⟩
@[inherit_doc base] def SPARE_BAD : Fld := ⟨0x55000010, 15, 8⟩
@[inherit_doc base] def CORR_CNT : Fld := ⟨0x55000014, 31, 0⟩
@[inherit_doc base] def UNCORR_CNT : Fld := ⟨0x55000018, 31, 0⟩
@[inherit_doc base] def LAST_UNCORR : Fld := ⟨0x5500001C, 21, 0⟩
@[inherit_doc base] def USER_RD : Fld := ⟨0x55000020, 7, 0⟩
@[inherit_doc base] def USER_WR : Fld := ⟨0x55000020, 15, 8⟩
@[inherit_doc base] def ACTIVE_SLOT : Fld := ⟨0x55000024, 0, 0⟩
@[inherit_doc base] def PBUF_word_i (i : Nat) : Fld := ⟨0x55000100 + 4 * i, 31, 0⟩
end Reg.Nvc

/-! Fields of the **DQX window** (R335). -/
namespace Reg.Dqx
/-- Address of the block. -/
def base (e : Nat) : Nat := 0x61000000 + e * 0x10
@[inherit_doc base] def WINBASE (e : Nat) : Fld := ⟨base e, 31, 0⟩
@[inherit_doc base] def WINLOG (e : Nat) : Fld := ⟨base e + 0x4, 4, 0⟩
end Reg.Dqx

/-! Fields of the **Trace channel** (R776). -/
namespace Reg.Trc
/-- Address of the block. -/
def base (n : Nat) : Nat := 0x61001000 + n * 0x20
@[inherit_doc base] def BASE (n : Nat) : Fld := ⟨base n, 31, 0⟩
@[inherit_doc base] def LOG (n : Nat) : Fld := ⟨base n + 0x4, 4, 0⟩
@[inherit_doc base] def EN (n : Nat) : Fld := ⟨base n + 0x4, 8, 8⟩
@[inherit_doc base] def STOP (n : Nat) : Fld := ⟨base n + 0x4, 9, 9⟩
@[inherit_doc base] def SAMPLE (n : Nat) : Fld := ⟨base n + 0x8, 31, 0⟩
@[inherit_doc base] def FLUSH (n : Nat) : Fld := ⟨base n + 0xc, 0, 0⟩
@[inherit_doc base] def PSEQ (n : Nat) : Fld := ⟨base n + 0x10, 23, 0⟩
@[inherit_doc base] def FULL (n : Nat) : Fld := ⟨base n + 0x14, 0, 0⟩
@[inherit_doc base] def DROP (n : Nat) : Fld := ⟨base n + 0x14, 1, 1⟩
@[inherit_doc base] def DROP_CNT (n : Nat) : Fld := ⟨base n + 0x18, 31, 0⟩
end Reg.Trc

/-! Fields of the **NI block** (R289). -/
namespace Reg.Ni
/-- Address of the block. -/
def base (node : Nat) : Nat := niBase node
@[inherit_doc base] def NODE (node : Nat) : Fld := ⟨base node, 6, 0⟩
@[inherit_doc base] def TMO_LOCAL (node : Nat) : Fld := ⟨base node + 0x4, 15, 0⟩
@[inherit_doc base] def TMO_REMOTE (node : Nat) : Fld := ⟨base node + 0x8, 15, 0⟩
@[inherit_doc base] def NODE_RST (node : Nat) : Fld := ⟨base node + 0xc, 0, 0⟩
@[inherit_doc base] def FENCED (node : Nat) : Fld := ⟨base node + 0xc, 8, 8⟩
@[inherit_doc base] def INFLIGHT (node : Nat) : Fld := ⟨base node + 0xc, 22, 16⟩
@[inherit_doc base] def ERR_TMO (node : Nat) : Fld := ⟨base node + 0x10, 0, 0⟩
@[inherit_doc base] def ERR_ROUTE_REF (node : Nat) : Fld := ⟨base node + 0x10, 1, 1⟩
@[inherit_doc base] def ERR_CORR (node : Nat) : Fld := ⟨base node + 0x10, 2, 2⟩
@[inherit_doc base] def ERR_UNCORR (node : Nat) : Fld := ⟨base node + 0x10, 3, 3⟩
@[inherit_doc base] def ERR_BADPKT (node : Nat) : Fld := ⟨base node + 0x10, 4, 4⟩
@[inherit_doc base] def ERR_DEMOTE (node : Nat) : Fld := ⟨base node + 0x10, 5, 5⟩
@[inherit_doc base] def ERR_DROP (node : Nat) : Fld := ⟨base node + 0x10, 6, 6⟩
@[inherit_doc base] def ERR_MISROUTE (node : Nat) : Fld := ⟨base node + 0x10, 7, 7⟩
@[inherit_doc base] def ERR_EVT (node : Nat) : Fld := ⟨base node + 0x14, 7, 0⟩
@[inherit_doc base] def CORR_CNT (node : Nat) : Fld := ⟨base node + 0x20, 31, 0⟩
@[inherit_doc base] def UNCORR_CNT (node : Nat) : Fld := ⟨base node + 0x24, 31, 0⟩
@[inherit_doc base] def TMO_CNT (node : Nat) : Fld := ⟨base node + 0x28, 31, 0⟩
@[inherit_doc base] def DEMOTE_CNT (node : Nat) : Fld := ⟨base node + 0x2c, 31, 0⟩
@[inherit_doc base] def DROP_CNT (node : Nat) : Fld := ⟨base node + 0x30, 31, 0⟩
@[inherit_doc base] def LAST_ERR_KIND (node : Nat) : Fld := ⟨base node + 0x40, 2, 0⟩
@[inherit_doc base] def LAST_ERR_TAG (node : Nat) : Fld := ⟨base node + 0x40, 9, 4⟩
@[inherit_doc base] def LAST_ERR_GEN (node : Nat) : Fld := ⟨base node + 0x40, 11, 10⟩
@[inherit_doc base] def LAST_ERR_PEER (node : Nat) : Fld := ⟨base node + 0x40, 18, 12⟩
@[inherit_doc base] def LAST_ERR_TENANT (node : Nat) : Fld := ⟨base node + 0x40, 21, 19⟩
@[inherit_doc base] def LAST_ERR_STATUS (node : Nat) : Fld := ⟨base node + 0x40, 25, 22⟩
@[inherit_doc base] def LAST_ERR_OFFSET (node : Nat) : Fld := ⟨base node + 0x44, 24, 0⟩
@[inherit_doc base] def LAST_ERR_BEAT_LO (node : Nat) : Fld := ⟨base node + 0x48, 31, 0⟩
@[inherit_doc base] def LAST_ERR_BEAT_HI (node : Nat) : Fld := ⟨base node + 0x4c, 15, 0⟩
@[inherit_doc base] def SIEVEt_RATE (node : Nat) (i : Nat) : Fld := ⟨base node + 0x80 + 8 * i, 10, 0⟩
@[inherit_doc base] def SIEVEt_BURST (node : Nat) (i : Nat) : Fld := ⟨base node + 0x80 + 8 * i, 16, 11⟩
@[inherit_doc base] def SIEVEt_P3_EN (node : Nat) (i : Nat) : Fld := ⟨base node + 0x80 + 8 * i, 17, 17⟩
@[inherit_doc base] def SIEVEt_LIMIT (node : Nat) (i : Nat) : Fld := ⟨base node + 0x80 + 8 * i, 18, 18⟩
@[inherit_doc base] def SIEVEt_TOKENS (node : Nat) (i : Nat) : Fld := ⟨base node + 0x84 + 8 * i, 17, 0⟩
@[inherit_doc base] def ROUTE_STAGE (node : Nat) : Fld := ⟨base node + 0xf0, 31, 0⟩
@[inherit_doc base] def ROUTE_REF_ENTRY (node : Nat) : Fld := ⟨base node + 0xf4, 5, 0⟩
@[inherit_doc base] def ROUTE_REF_CAUSE (node : Nat) : Fld := ⟨base node + 0xf4, 10, 8⟩
@[inherit_doc base] def ROUTEe_LO (node : Nat) (i : Nat) : Fld := ⟨base node + 0x100 + 8 * i, 31, 0⟩
@[inherit_doc base] def ROUTEe_HI (node : Nat) (i : Nat) : Fld := ⟨base node + 0x104 + 8 * i, 3, 0⟩
@[inherit_doc base] def ROUTEe_DST (node : Nat) (i : Nat) : Fld := ⟨base node + 0x104 + 8 * i, 14, 8⟩
@[inherit_doc base] def ROUTEe_VALID (node : Nat) (i : Nat) : Fld := ⟨base node + 0x104 + 8 * i, 31, 31⟩
end Reg.Ni

/-! Fields of the **Slot entry** (R307). -/
namespace Reg.Slot
/-- Address of the block. -/
def base (node : Nat) : Nat := niBase node
@[inherit_doc base] def BEAT (node : Nat) (i : Nat) : Fld := ⟨base node + 0x400 + 8 * i, 11, 0⟩
@[inherit_doc base] def KIND (node : Nat) (i : Nat) : Fld := ⟨base node + 0x400 + 8 * i, 13, 12⟩
@[inherit_doc base] def LEN2 (node : Nat) (i : Nat) : Fld := ⟨base node + 0x400 + 8 * i, 14, 14⟩
@[inherit_doc base] def RTE (node : Nat) (i : Nat) : Fld := ⟨base node + 0x400 + 8 * i, 20, 15⟩
@[inherit_doc base] def PEER (node : Nat) (i : Nat) : Fld := ⟨base node + 0x400 + 8 * i, 27, 21⟩
@[inherit_doc base] def HOPS (node : Nat) (i : Nat) : Fld := ⟨base node + 0x400 + 8 * i, 31, 28⟩
@[inherit_doc base] def CHAN (node : Nat) (i : Nat) : Fld := ⟨base node + 0x404 + 8 * i, 5, 0⟩
@[inherit_doc base] def SEL (node : Nat) (i : Nat) : Fld := ⟨base node + 0x404 + 8 * i, 9, 6⟩
@[inherit_doc base] def LINK (node : Nat) (i : Nat) : Fld := ⟨base node + 0x404 + 8 * i, 15, 10⟩
end Reg.Slot

/-! Fields of the **Counter bank** (R775). -/
namespace Reg.Bank
/-- Address of the block. -/
def base (node : Nat) : Nat := niBase node
@[inherit_doc base] def CFGk_SEL (node : Nat) (i : Nat) : Fld := ⟨base node + 0x600 + 16 * i, 3, 0⟩
@[inherit_doc base] def CFGk_VC (node : Nat) (i : Nat) : Fld := ⟨base node + 0x600 + 16 * i, 5, 4⟩
@[inherit_doc base] def CFGk_THR (node : Nat) (i : Nat) : Fld := ⟨base node + 0x600 + 16 * i, 13, 8⟩
@[inherit_doc base] def CFGk_EN (node : Nat) (i : Nat) : Fld := ⟨base node + 0x600 + 16 * i, 15, 15⟩
@[inherit_doc base] def CFGk_EVT (node : Nat) (i : Nat) : Fld := ⟨base node + 0x600 + 16 * i, 16, 16⟩
@[inherit_doc base] def CFGk_OVF (node : Nat) (i : Nat) : Fld := ⟨base node + 0x600 + 16 * i, 17, 17⟩
@[inherit_doc base] def CNTk_LO (node : Nat) (i : Nat) : Fld := ⟨base node + 0x604 + 16 * i, 31, 0⟩
@[inherit_doc base] def CNTk_HI (node : Nat) (i : Nat) : Fld := ⟨base node + 0x608 + 16 * i, 15, 0⟩
@[inherit_doc base] def BANK_UREAD (node : Nat) : Fld := ⟨base node + 0x640, 0, 0⟩
@[inherit_doc base] def BANK_TENANTS (node : Nat) : Fld := ⟨base node + 0x640, 15, 8⟩
@[inherit_doc base] def BANK_CLR (node : Nat) : Fld := ⟨base node + 0x644, 0, 0⟩
@[inherit_doc base] def BANK_FREEZE (node : Nat) : Fld := ⟨base node + 0x644, 1, 1⟩
end Reg.Bank

/-! Fields of the **INBOX** (R610). -/
namespace Reg.Inbox
/-- Address of the block. -/
def base (node : Nat) : Nat := niBase node + 0x680
@[inherit_doc base] def HEAD (node : Nat) : Fld := ⟨base node, 7, 0⟩
@[inherit_doc base] def TAIL (node : Nat) : Fld := ⟨base node, 15, 8⟩
end Reg.Inbox

/-! Fields of the **Fault record** (R338). -/
namespace Reg.Frec
/-- Address of the block. -/
def base (node : Nat) : Nat := niBase node
@[inherit_doc base] def KIND (node : Nat) : Fld := ⟨base node + 0x700, 3, 0⟩
@[inherit_doc base] def CAUSE (node : Nat) : Fld := ⟨base node + 0x700, 7, 4⟩
@[inherit_doc base] def NODE (node : Nat) : Fld := ⟨base node + 0x700, 14, 8⟩
@[inherit_doc base] def VALID (node : Nat) : Fld := ⟨base node + 0x700, 15, 15⟩
@[inherit_doc base] def PEER (node : Nat) : Fld := ⟨base node + 0x700, 22, 16⟩
@[inherit_doc base] def CHAN (node : Nat) : Fld := ⟨base node + 0x700, 28, 23⟩
@[inherit_doc base] def PBEAT (node : Nat) : Fld := ⟨base node + 0x704, 11, 0⟩
@[inherit_doc base] def ROUND (node : Nat) : Fld := ⟨base node + 0x704, 31, 12⟩
@[inherit_doc base] def PC (node : Nat) : Fld := ⟨base node + 0x708, 15, 0⟩
@[inherit_doc base] def ENTRY (node : Nat) : Fld := ⟨base node + 0x708, 21, 16⟩
@[inherit_doc base] def ENTRY_OK (node : Nat) : Fld := ⟨base node + 0x708, 22, 22⟩
@[inherit_doc base] def PORT (node : Nat) : Fld := ⟨base node + 0x708, 25, 23⟩
@[inherit_doc base] def ROUTER (node : Nat) : Fld := ⟨base node + 0x708, 31, 26⟩
@[inherit_doc base] def BEAT_LO (node : Nat) : Fld := ⟨base node + 0x70c, 31, 0⟩
@[inherit_doc base] def BEAT_HI (node : Nat) : Fld := ⟨base node + 0x710, 15, 0⟩
@[inherit_doc base] def OTHER (node : Nat) : Fld := ⟨base node + 0x714, 6, 0⟩
@[inherit_doc base] def DETAIL_A (node : Nat) : Fld := ⟨base node + 0x714, 15, 8⟩
@[inherit_doc base] def DETAIL_B (node : Nat) : Fld := ⟨base node + 0x714, 31, 16⟩
@[inherit_doc base] def INSTR (node : Nat) : Fld := ⟨base node + 0x718, 31, 0⟩
@[inherit_doc base] def OVF (node : Nat) : Fld := ⟨base node + 0x71c, 0, 0⟩
@[inherit_doc base] def COUNT (node : Nat) : Fld := ⟨base node + 0x71c, 15, 8⟩
end Reg.Frec

end Sys2Proof.Machine
end

