-- ==== Sys2Proof/Machine/State.lean ====
section
/-! DEFINITION. The state of the SK7240 (plain data) and the machine after reset. Every register of the field
tables stands in `Chip.regs`, one 32-bit word per global address, an unlisted word reading its reset value
(Sys2Proof/Machine/Regs.lean); everything the spec gives the part beside its registers stands in the records
below, one record per unit. -/

namespace Sys2Proof.Machine

/-- Why a step stops with a fault. No rule of the spec stops this block: the type has no constructor, and the
absence of faults is safe (nothing is claimed of a stopped machine). -/
inductive Fault where
  deriving DecidableEq, Repr

/-- Why a command has no outcome in this model. -/
inductive Refusal where
  /-- Raised by an arm of `exec` whose command has no meaning yet. Safe: nothing is claimed of the command. -/
  | notModelled (mnemonic : String)
  deriving DecidableEq, Repr

/-! ## Rails, Phases and Sensing -/

/-- The parameters of a rail as its clusters hold them, taken over at a period boundary (R86, R110). -/
structure RailParams where
  per : Nat := 0
  tonMin : Nat := 0
  toffMin : Nat := 0
  forceTon : Nat := 0
  kp : Int := 0
  ki : Int := 0
  kd : Int := 0
  dmax : Nat := 0
  deriving DecidableEq, Repr

/-- What a rail holds beside its register block. -/
structure RailH where
  /-- parameters in effect at the clusters (R110) -/
  par : RailParams := {}
  /-- the slew engine is moving VNOW (R106) -/
  slewing : Bool := false
  /-- the engine's accumulator, in 0.05 mV (R106) -/
  acc : Nat := 0
  /-- EN has been cleared and the phases have not gone to MID under R109 yet -/
  ramping : Bool := false
  /-- the engine moves VNOW to 0 under R109 -/
  toZero : Bool := false
  /-- a crowbar has been released: the phases return to R34 at the next period boundary (R125) -/
  resume : Bool := false
  /-- the rail was started while the cause of a rank 3 or rank 4 latch held (R988) -/
  guarded : Bool := false
  /-- held off by STANDBY or by DEEP entry, although EN is set (R901, R904) -/
  off : Bool := false
  /-- active phases stay at MID until VNOW first exceeds VSENSE (R91) -/
  prebias : Bool := false
  /-- under-voltage detection is blanked (R126) -/
  uvBlank : Bool := false
  /-- VSENSE reads below the under-voltage level since some sample (R121 rank 5) -/
  uvBelow : Bool := false
  /-- consecutive samples at or above the over-voltage threshold, and below its release level (R121 rank 2) -/
  ovHi : Nat := 0
  ovLo : Nat := 0
  /-- cause of a latch that waits for the crowbar's release, as OFF_CAUSE (R150); 0 none -/
  latchPend : Nat := 0
  /-- free beat in which OFF_CAUSE was set by a latch (R151) -/
  latchBeat : Nat := 0
  /-- the RAIL_CEIL line, as the clusters see it (R120) -/
  ceilLine : Bool := false
  /-- the fallback law: integrator (Q0.24), previous error, ton it computed, and the samples of the period (R114) -/
  integ : Int := 0
  eprev : Int := 0
  lawTon : Nat := 0
  lawRan : Bool := false
  vsum : Nat := 0
  vcnt : Nat := 0
  /-- the group is in FALLBACK and the law takes the rail at its next period boundary (R341, R343) -/
  fbDue : Bool := false
  /-- first free beat at which that boundary may fall (R341) -/
  fbFrom : Nat := 0
  deriving DecidableEq, Repr

/-- A write of VSET by an AVSBus port: the beat, and the rail's word and state before it (R631). -/
structure VsetWas where
  beat : Nat := 0
  word : Word := 0
  rail : RailH := {}
  deriving DecidableEq, Repr

/-- What a phase holds beside its registers. -/
structure PhaseH where
  /-- requested rail and state, not in effect yet (R36, R47) -/
  pend : Option (Nat × Nat) := none
  /-- that request came while PHASE_FORCE was asserted on the phase, which has not been released since (R47) -/
  deferred : Bool := false
  /-- 1: at MID for one period of the rail it left; 2: that period has ended, waiting for the joined rail; 3: LOW, for a
  crowbar is in force on the rail it left, and the period at MID is still to come (R36, R39) -/
  leave : Nat := 0
  oldRail : Nat := 0
  /-- PHASE_FORCE as the cluster sees it (R89) -/
  force : Bool := false
  /-- a PARKED phase is in a forced period; an ACTIVE phase's next scheduled on-edge is replaced (R89) -/
  forcedPeriod : Bool := false
  replaced : Bool := false
  /-- slot of the phase in the period, in ticks: on-edge slot if ACTIVE, force slot if PARKED (R85) -/
  slot : Nat := 0
  /-- duty in effect, and writes accepted at a free beat that wait for an on-edge (R88) -/
  ton : Nat := 0
  duty : List (Nat × Nat) := []
  /-- on-time of the present period, in ticks -/
  onFor : Nat := 0
  /-- tripped in this period, consecutive periods with a trip (R121 rank 1, R123) -/
  tripped : Bool := false
  trips : Nat := 0
  /-- free beat of the last PHASE_OC event (R131) -/
  ocPost : Option Nat := none
  deriving DecidableEq, Repr

/-- A droop comparator: threshold DAC in 2 mV steps, held deasserted (R98, R99), and its last DROOP event. -/
structure Comp where
  dac : Nat := 0
  held : Bool := false
  posted : Option Nat := none
  deriving DecidableEq, Repr

/-- A TMON input: consecutive conversions at or above TSHUT, STAGE_WARN posted and not re-armed (R121, R127). -/
structure TmonH where
  hot : Nat := 0
  warned : Bool := false
  deriving DecidableEq, Repr

/-- The M-die's rail logic and the clusters. -/
structure Rails where
  rail : Map RailH := []
  phase : Map PhaseH := []
  /-- keyed 4 × rail + comparator -/
  comp : Map Comp := []
  tmon : Map TmonH := []
  /-- the previous IMON sample exceeded the budget; consecutive samples below release; samples above it since the
  clamp is in force; BUDGET_OVERRUN posted for this clamp, FAULT_N held by it (R118, R991) -/
  over1 : Bool := false
  below : Nat := 0
  overCnt : Nat := 0
  overrun : Bool := false
  /-- consecutive VBUS12 conversions below the level (R121 rank 3); BUS48_LOW posted and not re-armed (R128) -/
  busLow : Nat := 0
  vb48 : Bool := false
  /-- by rail: the last AVSBus write of VSET (R631) -/
  vset : Map VsetWas := []
  deriving DecidableEq, Repr

/-! ## The Lattice -/

/-- A flit (R223): its virtual channel and control bits; `hdr` is its packet's header, on data flits
too; `words` the data words it carries: none or, on VC0, DATA[63:0] for a header flit (R309), four for a data
flit. On VC0 `hdr.tag` holds CHAN, which stands in the same bits [63:58]. -/
structure Flit where
  vc : Nat := 0
  head : Bool := false
  tail : Bool := false
  poison : Bool := false
  corr : Bool := false
  hdr : Hdr := {}
  words : List Word := []
  deriving DecidableEq, Repr

/-- Who a request was issued for, so that its response finds its way (R257). -/
inductive Owner where
  | none
  /-- ticket k of the node's tile -/
  | ticket (k : Nat)
  /-- the tile's LKACQ of a lock -/
  | lkacq (lock : Nat)
  /-- the tile's LKREL -/
  | lkrel
  /-- operation id of tenant t at the HUB, as 8 × id + t -/
  | host (t : Nat)
  /-- a forwarded command of tenant t -/
  | fwd (t : Nat)
  /-- a switch mirror word -/
  | mirror
  deriving DecidableEq, Repr

/-- A request tag (R255–R259). -/
structure Tag where
  busy : Bool := false
  /-- generations held back after a timeout, oldest first (R259) -/
  held : List Nat := []
  gen : Nat := 0
  owner : Owner := .none
  hdr : Hdr := {}
  /-- the request's header has left the NI and its timer runs (R261) -/
  timer : Bool := false
  deriving DecidableEq, Repr

/-- A request or VC3 packet that the node's own logic asked its NI to send. -/
structure Ask where
  pkt : Pkt := {}
  owner : Owner := .none
  deriving DecidableEq, Repr

/-- What a network interface holds beside its register block. -/
structure Ni where
  tags : Map Tag := []
  /-- VC2 requests that wait for a tag or a Sieve, oldest first (R252, R256) -/
  asks : List Ask := []
  /-- VC3 send queue, at most 8 packets (R282) -/
  send3 : List Pkt := []
  /-- response queue on VC1 (R280) -/
  rsp : List Pkt := []
  /-- flits of the packet now arriving, per VC 1–3 -/
  rx1 : List Flit := []
  rx2 : List Flit := []
  rx3 : List Flit := []
  /-- the NI discards the rest of a packet whose header was uncorrectable, per VC (R227) -/
  disc : List Nat := []
  /-- whole packets in the input queues of VC1–VC3 (R280) -/
  in1 : List Pkt := []
  in2 : List Pkt := []
  in3 : List Pkt := []
  /-- VC0 flits that have reached the NI; CORR and POISON of the VC0 packet now arriving -/
  in0 : List Flit := []
  corr0 : Bool := false
  poison0 : Bool := false
  /-- responses delivered to the node's own logic that it has not taken up: owner, STATUS, data -/
  ans : List (Owner × Nat × List Word) := []
  /-- per-source event sequence number (R735) -/
  sseq : Nat := 0
  /-- free beat of the last LATTICE_ERR (R288) -/
  errPost : Option Nat := none
  /-- requests accepted and parked, waiting for a token (R281) -/
  parked : List Pkt := []
  /-- the tenant after which round-robin goes on (R253) -/
  rr : Nat := 0
  /-- by VC: the flits of a packet partly sent that its router has not taken yet, for want of credit (R239, R275) -/
  out : Map (List Flit) := []
  /-- by tenant: the beat of the Sieve's last refill, plus 1 (R249, R292) -/
  refilled : Map Nat := []
  /-- a NODE_RST was written and its response has not left (R985) -/
  rstDue : Bool := false
  /-- free beat, plus 1, of the last BANK.CLR (R781) -/
  clr : Nat := 0
  deriving DecidableEq, Repr

/-- The routers and network interfaces. Router queues are keyed 20 × router + 4 × input port + VC, output
ownership and round-robin pointers 20 × router + 4 × output port + VC (ports 0 L, 1 N, 2 E, 3 S, 4 W). The
L-input queue of a router holds the flits its NI has given it. -/
structure Lattice where
  queue : Map (List Flit) := []
  /-- input port + 1 whose packet owns the output channel, 0 none (R241) -/
  own : Map Nat := []
  /-- input port after which round-robin goes on (R242) -/
  ptr : Map Nat := []
  /-- by router input queue: the credits that the sending end of its link has spent and not got back; and the flits that
  have left the queue in a beat, whose credits return in the beat after (R239, R240, R980) -/
  spent : Map Nat := []
  back : Map (Nat × Nat) := []
  /-- by router output (5 × router + port): the last 48 beats in which it sent a VC0 flit, newest first; the last beat, plus 1, that
  made more than 48 in 64 (R65) -/
  vc0 : Map (List Nat) := []
  busy0 : Map Nat := []
  /-- the router discards the rest of a packet on this input queue (R227) -/
  drop : Map Bool := []
  ni : Map Ni := []
  deriving DecidableEq, Repr

/-! ## The Schedule Contract -/

/-- A decoupling queue pair of an E tile and DQX's work for it (R327–R333); entries are 64-bit numbers. -/
structure DqH where
  out : List Nat := []
  inq : List Nat := []
  /-- outbound entries in DQX's own buffer of 16 (R333) -/
  buf : List Nat := []
  /-- data of the READ under way that DQX has not placed yet (R332) -/
  rdata : List Nat := []
  /-- the beat in which DQX last wrote inbound entries, and how many it wrote in it (R363) -/
  newAt : Nat := 0
  newN : Nat := 0
  deriving DecidableEq, Repr

/-- A hold of the plane by a G port: its REPLY entry and the free beats held (R320, R323). -/
structure Hold where
  entry : Nat := 0
  beats : Nat := 0
  /-- the sample that makes STALL_MAX held beats has found VALID clear (R324) -/
  late : Bool := false
  deriving DecidableEq, Repr

/-- The scheduled plane beside the plane block. Keys of `req`, `reply` and `capture` are 64 × node + slot entry. -/
structure Plane where
  /-- plane beats begun -/
  abs : Nat := 0
  /-- by G port: the hold in force -/
  holds : Map (Option Hold) := []
  /-- free beats of the present hold (R355 STALL_PEAK) -/
  holdLen : Nat := 0
  /-- the SCHED tiles have begun the present round (R303) -/
  started : Bool := false
  /-- a RESTART waits for its 64 free beats (R345) -/
  restart : Bool := false
  /-- schedule of an accepted SWITCH that waits for the end of the round (R347) -/
  switchTo : Option Nat := none
  /-- free beat of the fault in PLANE.FIRST (R339) -/
  firstBeat : Nat := 0
  /-- by node: the ejection buffer of 16 flits (R322) -/
  eject : Map (List Flit) := []
  /-- DATA of a GLZRD request received and not answered, plus 1 -/
  req : Map Nat := []
  /-- DATA of a reply sampled and not injected, plus 1 (R319) -/
  reply : Map Nat := []
  /-- latched capture of a stream entry, plus 1 (R312) -/
  capture : Map Nat := []
  /-- GLZWR values delivered, not yet in their channel: G port, channel, value, plane beat due (R316) -/
  inPend : List (Nat × Nat × Nat × Nat) := []
  /-- by E tile 0–23 -/
  dq : Map DqH := []
  /-- the tiles after which DQX goes on in round-robin order: its commands, its READ data (R332) -/
  dqCmd : Nat := 0
  dqDat : Nat := 0
  /-- by node: the second flit of a scheduled packet, with the plane beat (of `abs`) that injects it (R306, R309, R321) -/
  second : Map (Option (Nat × Flit)) := []
  deriving DecidableEq, Repr

/-! ## Easel tiles -/

/-- What lands later in a tile: a register (0–31, accumulators 32–35), the saturation flag, an MTS effect, a store
(R379, R392, R446, R449). -/
inductive Landing where
  | reg (n v : Nat)
  | sat
  | mts (sr v : Nat)
  | store (a : Nat) (bytes : List Byte)
  deriving DecidableEq, Repr

/-- A result that has not landed: the beat it lands in, and what. -/
structure Pend where
  land : Nat := 0
  what : Landing := .sat
  deriving DecidableEq, Repr

/-- What a P tile waits for in D (R402, R484, R485, R490). -/
inductive Wait where
  | none
  | ltwait (rd t : Nat)
  | lkacq (rd : Nat) (stale : Bool)
  | ltissue (write : Bool) (t a v : Nat)
  deriving DecidableEq, Repr

/-- A best-effort ticket (R477–R480): in flight, DONE, SKIP, a write, and the response that has arrived and not
landed: STATUS and data, and the beat in which it arrived. -/
structure Ticket where
  busy : Bool := false
  done : Bool := false
  skip : Bool := false
  write : Bool := false
  res : Option (Nat × Nat) := none
  resBeat : Nat := 0
  deriving DecidableEq, Repr

/-- An Easel tile beside its tile block and memories (R376, R391). Tiles 0–23 are E0–E23, 24–27 P0–P3. Beats are
plane beats on an E tile, free beats on a P tile (R384). -/
structure Tile where
  /-- g0–g31 at 0–31, a0–a3 at 32–35 -/
  x : Map Nat := []
  pc : Nat := 0
  /-- USER mode of a P tile (R386) -/
  user : Bool := false
  ie : Bool := false
  pie : Bool := false
  exl : Bool := false
  pmode : Nat := 0
  pld : Nat := 0
  epc : Nat := 0
  ecause : Nat := 0
  eval : Nat := 0
  vbase : Nat := 0
  scratch0 : Nat := 0
  scratch1 : Nat := 0
  sat : Bool := false
  ldepth : Nat := 0
  lc0 : Nat := 0
  ls0 : Nat := 0
  le0 : Nat := 0
  lc1 : Nat := 0
  ls1 : Nat := 0
  le1 : Nat := 0
  /-- the back-edge of level 0 is deferred to the pop of level 1 (R507) -/
  deferred : Bool := false
  ienab : Nat := 0
  /-- IPEND bits of the edge lines (R400) -/
  ipend : Nat := 0
  ipriolo : Nat := 0
  ipriohi : Nat := 0
  cnt0 : Nat := 0
  rld0 : Nat := 0
  cnt1 : Nat := 0
  rld1 : Nat := 0
  tmren : Nat := 0
  /-- PROTn_A at 2n, PROTn_B at 2n + 1 (R406) -/
  prot : Map Nat := []
  /-- the PROT registers that fetches see (R392) -/
  protx : Map Nat := []
  /-- results not landed, in the order they land -/
  pend : List Pend := []
  /-- first beat at which the next instruction may issue -/
  nextIssue : Nat := 0
  wait : Wait := .none
  tk : Map Ticket := []
  /-- an outstanding LKACQ request: lock, priority; and its LKRSP: status and payload word (R490–R492) -/
  lkOut : Option (Nat × Nat) := none
  lkRsp : Option (Nat × Nat) := none
  /-- E tile: destinations of outstanding GLZRDs with the plane beat they land, oldest first (R469, R470) -/
  glz : List (Nat × Nat) := []
  /-- E tile: DATA staged for a TX entry, plus 1 -/
  stage : Map Nat := []
  /-- E tile: receive channels (R313) -/
  rx : Map Nat := []
  /-- E tile: a DQWAIT in progress: k and its last plane beat (R329) -/
  dqw : Option (Nat × Nat) := none
  /-- E tile: HALT has been issued in this round (R305) -/
  halted : Bool := true
  deriving DecidableEq, Repr

/-! ## Queued locks

A requester (R514) is held as one number: 128 × ORIG_TENANT + SRC. -/

/-- One lock (R513): its holder, BASE, the ABANDONED flag, and whether the hold's timer runs (R542). -/
structure LockRec where
  holder : Option Nat := none
  base : Nat := 0
  abandoned : Bool := false
  timer : Bool := false
  deriving DecidableEq, Repr

/-- A wait (R529): the requester, the lock, the PRIO. -/
structure LockWait where
  req : Nat
  lock : Nat
  prio : Nat
  deriving DecidableEq, Repr

/-- A notice that has not been sent (R522, R534): KIND 0 GRANT, 1 INHERIT, 2 RESYNC, 3 REVOKED. -/
structure LockNotice where
  req : Nat
  kind : Nat
  lock : Nat
  result : Nat := 0
  deriving DecidableEq, Repr

/-- The LOCK node's own state. -/
structure LockUnit where
  lk : Map LockRec := []
  /-- every wait; the queue of a lock is its waits in this order (R529, R530) -/
  waits : List LockWait := []
  /-- effective priority of a requester, as LOCK last computed it (R536) -/
  ep : Map Nat := []
  /-- PRIO of a requester's last ACQUIRE or TRY: its effective priority while it neither holds nor waits -/
  own : Map Nat := []
  /-- notices sent to a requester, as SEQ counts them (R522) -/
  seq : Map Nat := []
  /-- notices held for want of VC3 space (R534) -/
  held : List LockNotice := []
  /-- quarantines in force (R548): a tenant, and a node or every node -/
  quar : List (Nat × Option Nat) := []
  /-- most waiter slots in use since reset (R556 SLOTS_LOW) -/
  peak : Nat := 0
  deriving DecidableEq, Repr

/-- What the rest of the part asks of LOCK. -/
inductive LockAct where
  /-- a judged LOCK request: its header, requester, OP, lock, PRIO; this LOCK is in a Shadow (R550) -/
  | request (h : Hdr) (req op lock prio : Nat) (shadow : Bool)
  /-- a hold timeout of a lock, with FORCE_TMO (R543) -/
  | holdTmo (lock : Nat) (force : Bool)
  /-- a write of 1 to FORCE (R544) -/
  | force (lock : Nat)
  /-- the reset requesters of R545 that one beat tells: tenant, node and abandon cause (R558, R563) -/
  | reset (l : List (Nat × Option Nat × Nat))
  /-- a quarantine ends (R548) -/
  | quarEnd (tenant : Nat) (node : Option Nat)
  /-- VC3 space has come free (R534) -/
  | flush
  /-- takeover from a committed copy (R551–R553) -/
  | restore (from_ : LockUnit)
  /-- a Shadow applies the LOCK class of a committed epoch (R654) -/
  | copy (from_ : LockUnit)
  /-- an event whose code does not survive in LOCK -/
  | clear
  deriving DecidableEq, Repr

/-- The resets or the hold timeouts that LOCK was told in one beat, with LOCK, its NI and its counts before and after them: a request of
that beat on the same lock goes before a timeout, and resets of one beat act as one (R560, R563). -/
structure LockWas where
  beat : Nat := 0
  acts : List LockAct := []
  unit : LockUnit := {}
  ni : Ni := {}
  cnt : Word := 0
  unitAfter : LockUnit := {}
  niAfter : Ni := {}
  cntAfter : Word := 0
  deriving DecidableEq, Repr

/-! ## Tenants and hosts -/

/-- An operation in an ingress queue (R570): its command, the responses still to come, the first status that was not
OK, the header of the forwarding WR that waits for it (R621). -/
structure HostOp where
  id : Nat := 0
  code : Nat := 0
  page : Nat := 0
  seq : Option Nat := none
  left : Nat := 1
  status : Nat := 0
  /-- MFR_CNT_READ: address of the low word, and the words read so far (R749) -/
  addr : Nat := 0
  vals : List Nat := []
  /-- the command's result is read from the twin's slot (R621); that RD has been sent -/
  reads : Bool := false
  slotRd : Bool := false
  fwd : Option Hdr := none
  deriving DecidableEq, Repr

/-- What a tenant has lost for want of space, the beat, and what its block's words and its port held before: a frame of MFR_MSG_SEND
with its page and whether it came over I3C (R627), or a notice (R630). -/
structure Lost where
  beat : Nat := 0
  fault : Word := 0
  count : Word := 0
  frame : Option (Nat × List Byte × Bool) := none
  notice : Option (Word × Word) := none
  deriving DecidableEq, Repr

/-- The retry-cache entry of a tenant (R592). -/
structure RetryEntry where
  code : Nat := 0
  page : Nat := 0
  seq : Option Nat := none
  done : Bool := false
  /-- an MFR_MSG_SEND was committed (R596) -/
  committed : Bool := false
  status : Nat := 0
  bytes : List Byte := []
  deriving DecidableEq, Repr

/-- What the HUB holds for a tenant beside its block (R570). -/
structure TenH where
  ops : List HostOp := []
  nextId : Nat := 0
  outbox : List (List Word) := []
  /-- notices of LOCK, two words each (R611) -/
  notices : List (Word × Word) := []
  /-- the retry-cache entry (R592) -/
  cache : Option RetryEntry := none
  /-- outcome of the last transaction: acknowledged, bytes returned; the operation a read waits for (R595) -/
  ack : Bool := true
  out : List Byte := []
  await : Option Nat := none
  /-- bytes of a forwarded command whose last WR has not come, and of the slot (R621) -/
  fwdBytes : List Byte := []
  /-- the twin's outbox holds a message for the tenant (R621 PENDING) -/
  pendTwin : Bool := false
  /-- a frame whose transaction has not ended stands in the ring, unpublished (R604, R605) -/
  filling : Bool := false
  /-- the beat of the last commit, and the buffers it published (R626) -/
  pub : Nat × Nat := (0, 0)
  lost : Option Lost := none
  deriving DecidableEq, Repr

/-- What a PMBus or I3C port holds beside its block. -/
structure PortH where
  /-- ALERT_A_N or ALERT_B_N is asserted; it was answered, and its 1 ms runs (R612) -/
  alert : Bool := false
  answered : Bool := false
  /-- in-band interrupt waiting: its mandatory data byte (R612) -/
  ibi : Option Nat := none
  ibiEn : Bool := false
  dyn : Option Nat := none
  mwl : Nat := 256
  mrl : Nat := 64
  /-- an HDR transfer runs: the port ignores the bus (R582) -/
  hdr : Bool := false
  deriving DecidableEq, Repr

/-- An AVSBus port beside its block: held voltages by select value (R587), plus 1; the last frame's outcome. -/
structure AvsH where
  held : Map Nat := []
  ack : Bool := true
  out : Nat := 0
  /-- the beat in which the last committing frame ended, and whether the tenant's Sieve and queue met R65 then -/
  sent : Nat := 0
  ready : Bool := false
  deriving DecidableEq, Repr

/-- The HUB beside its blocks. -/
structure HubH where
  ten : Map TenH := []
  port : Map PortH := []
  /-- latched status bits by 16 × port + page: bit 0 VOUT_OV of STATUS_BYTE, 1 over-current, 2 BUS_UV, 3 OV of
  STATUS_VOUT, 4 UV, 5 BUS48_LOW, 6 over-temperature, 7 its warning; STATUS_CML at bits 8–15 (R579) -/
  latch : Map Nat := []
  avs : Map AvsH := []
  /-- words of the forwarding slots at 16 × tenant + word (R621) -/
  slot : Map Word := []
  deriving DecidableEq, Repr

/-! ## The twin link -/

/-- A sequenced frame at the transmitter: a Lattice packet, epoch words, or the END of an epoch. -/
inductive TwFrame where
  | lattice (p : Pkt)
  | state (epoch woff n : Nat)
  | fin (epoch wlen : Nat)
  deriving DecidableEq, Repr

/-- A frame in the replay buffer (R644): FSEQ, frame, replays, free beats of its first and last send. -/
structure Held where
  fseq : Nat := 0
  frame : TwFrame := .fin 0 0
  replays : Nat := 0
  first : Nat := 0
  last : Nat := 0
  deriving DecidableEq, Repr

/-- An epoch buffer (R653): the words received from word 0 on; a frame out of order or of a gap; the END that has passed its
checks. -/
structure EpochBuf where
  epoch : Nat := 0
  words : List Nat := []
  bad : Bool := false
  fin : Option EpochImage := none
  deriving DecidableEq, Repr

/-- A SEED entry (R662): global address of the DMEM word, rail, format. -/
structure SeedEntry where
  addr : Nat := 0
  rail : Nat := 0
  fmt : Nat := 0
  deriving DecidableEq, Repr

/-- The Diptych link and the twin pair, beside the twin block. -/
structure TwinH where
  /-- next FSEQ to send and FSEQ expected; the replay buffer, oldest first; frames that wait, by kind, and which kind
  went last (R644, R646) -/
  fseq : Nat := 0
  expect : Nat := 0
  held : List Held := []
  txL : List Pkt := []
  txS : List TwFrame := []
  lastL : Bool := false
  /-- the last ACK or NAK sent: NAK's TSPEC + 1 or 0 for ACK, its ACKSEQ; the NAK last sent: FSEQ expected + 1, its
  free beat -/
  ctl : Option (Nat × Nat) := none
  nak : Option (Nat × Nat) := none
  /-- Lattice packets accepted, in order, that have not been sent onwards (R267) -/
  rxq : List Pkt := []
  /-- the last HEARTBEAT sent: heartbeat word and UID -/
  sent : Option (Nat × Nat) := none
  /-- free beat of the last good HEARTBEAT, its heartbeat word -/
  lastHb : Option Nat := none
  hbWord : Nat := 0
  /-- TWIN_MISMATCH has been posted for the present disagreement (R649) -/
  mismatch : Bool := false
  /-- epoch buffers F and C (R652); an apply of C is in progress; the free beat of the last commit -/
  f : Option EpochBuf := none
  c : Option EpochBuf := none
  applying : Bool := false
  commit : Option Nat := none
  /-- the SEED and USER lists that the image gave (R651): a USER record is an address and a count of words -/
  seedList : List SeedEntry := []
  userList : List (Nat × Nat) := []
  /-- the epoch last captured at a Primary: FAST and LOCK, its number, its words from word 656 on; an epoch is being
  sent (R652) -/
  cap : EpochImage := {}
  capNo : Nat := 0
  capWords : List Nat := []
  sending : Bool := false
  /-- takeover: 0 none, 1 decided and waiting for qualification, 2 in the gap; cause 1 SILENT, 2 TAKE_N; the
  free beat of the decision; it was blocked and said so (R659, R660, R669) -/
  take : Nat := 0
  takeCause : Nat := 0
  takeBeat : Nat := 0
  blocked : Bool := false
  /-- free beat in which OWN_OUT last asserted (R74) -/
  outBeat : Nat := 0
  /-- ROLE_EPOCH of the last heartbeat from a Primary (R664) -/
  primRe : Nat := 0
  /-- hand-over: 0 none, 1 waiting for the commit of epoch `hoEpoch`, 2 TAKE_N asserted by this part (R658) -/
  ho : Nat := 0
  hoEpoch : Nat := 0
  /-- TAKE_N is ignored until it has been deasserted for 1 µs (R669) -/
  ignoreTake : Bool := false
  /-- withdrawals; a withdrawal's back-off runs; OWN_IN is to be sampled (R661) -/
  k : Nat := 0
  backoff : Bool := false
  sample : Bool := false
  /-- the drive was disabled by OWN_IN without a withdrawal (R637) -/
  paused : Bool := false
  /-- a part at step S9; NEG_TMO periods that have passed (R648) -/
  negotiating : Bool := false
  negs : Nat := 0
  /-- the commit of C is older than TWIN_OK allows (R666) -/
  lapsed : Bool := false
  deriving DecidableEq, Repr

/-! ## Load switches -/

/-- What a switch channel holds beside its block. -/
structure LswH where
  /-- free beat of the last turn-off; none before the first (R696); whether it came outside blanking; free beat of the last trip -/
  off : Option Nat := none
  offOut : Bool := false
  tripAt : Option Nat := none
  /-- the stable LSW_INn level, and the bars of R695: on an opposite edge, on a rising edge -/
  raw : Bool := false
  barOpp : Bool := false
  barRise : Bool := false
  /-- free beat of the last LSW_THERM event (R694) -/
  thermPost : Option Nat := none
  /-- free beat in which the present pause began (R689) -/
  pauseAt : Nat := 0
  /-- the present start is a short start (R696) -/
  short : Bool := false
  /-- mirror word last written, and the free beat, plus 1, of that write (R712, R730) -/
  mirror : Word := 0
  mirrorAt : Nat := 0
  deriving DecidableEq, Repr

/-- A channel as it was when the watchdog's period ended: MODE, the STAT word and what stands beside the block (R725). -/
structure LswWas where
  mode : Nat := 0
  stat : Word := 0
  h : LswH := {}
  deriving DecidableEq, Repr

/-- The switch section beside its blocks. -/
structure SwH where
  ch : Map LswH := []
  /-- VBUS12 has returned after a dip (R705); the channels still to start; the free beat of the last start scheduled, if there is one -/
  back : Bool := true
  order : List Nat := []
  last : Option Nat := none
  /-- the first start of the return is still to come (R705) -/
  first : Bool := false
  /-- free beat, plus 1, of the last valid kick, and of the last expiry; the channels before that expiry (R725) -/
  kick : Nat := 0
  expired : Nat := 0
  was : List LswWas := []
  /-- the section's state has been loaded and kept (R709, R710); its loss is still to be posted -/
  loaded : Bool := false
  lostPost : Bool := false
  /-- MSEQ of the last mirror word applied (R713) -/
  applied : Option Nat := none
  deriving DecidableEq, Repr

/-! ## Events, counters, trace and the Sketchbook -/

/-- A stamped event record (R740): its class and its 16 words. -/
structure EvRec where
  cls : Nat := 0
  words : List Word := []
  deriving DecidableEq, Repr

/-- What SEQ holds beside its block. -/
structure SeqH where
  /-- expected SSEQ of each source plus 1; 0: the next event sets it without a check (R736) -/
  expect : Map Nat := []
  /-- events that SEQ raises itself and that wait at its LOCAL port: code and payload (R738) -/
  local_ : List (Nat × List Word) := []
  /-- the stamp buffer of 64 records (R739) -/
  buf : List EvRec := []
  /-- events lost to a full buffer since the last SEQ_OVF (R739) -/
  lost : Nat := 0
  /-- free beat, plus 1, in which each port last delivered (R738) -/
  locAt : Nat := 0
  latAt : Nat := 0
  /-- by event ring: the beat in which it last took records and how many (R779) -/
  took : Map (Nat × Nat) := []
  /-- the beat in which records last found a ring full; those rings with their LOST and OVF before, and the records (R779) -/
  missAt : Nat := 0
  missWas : Map (Option (Nat × Nat)) := []
  miss : List (Nat × EvRec) := []
  /-- free beat, plus 1, of the last CC_CLR (R781) -/
  clr : Nat := 0
  deriving DecidableEq, Repr

/-- A trace channel: samples of the open block, completed blocks of the open page, the samples of the last block
of the page, pages full and not yet written (R757–R761). -/
structure TraceH where
  samples : List Int := []
  blocks : List Nat := []
  lastn : Nat := 0
  pages : List Nat := []
  /-- free beat, plus 1, of the last flush; samples, blocks and pages before it (R783) -/
  flushAt : Nat := 0
  wasSamples : List Int := []
  wasBlocks : List Nat := []
  wasPages : List Nat := []
  deriving DecidableEq, Repr

/-- What SKB holds beside its block: the counts and fault slots stand in `counts` and `faults`. -/
structure SkbH where
  counts : Map Nat := []
  /-- 16 slots of 16 words each (R765), keyed 16 × slot + word -/
  faults : Map Word := []
  /-- TRP_CNT last seen of each channel (count 800–815) -/
  tripSeen : Map Nat := []
  /-- a restore has been begun; its result, not in force before it completes (R772) -/
  restoring : Bool := false
  counting : Bool := false
  /-- persist in progress: next logical page 0–12, the snapshot of counts, faults and FR_TOTAL, its GEN -/
  page : Option Nat := none
  snapCounts : Map Nat := []
  snapFaults : Map Word := []
  snapTotal : Nat := 0
  snapGen : Nat := 0
  /-- a further persist is due at the end of the present one (R785) -/
  more : Bool := false
  /-- a page write of the persist is queued at NVC -/
  waiting : Bool := false
  /-- droop episodes: 2 × T at the beginning plus 1 (0: none), and the least VSENSE since (R764) -/
  episode : Map Nat := []
  least : Map Nat := []
  /-- depth of a finished episode plus 1, waiting to be counted -/
  done : Map Nat := []
  deriving DecidableEq, Repr

/-! ## Non-volatile cells -/

/-- Who asked for a page write (R801). -/
inductive NvOrigin where
  | regs | skb | cfg
  deriving DecidableEq, Repr

/-- A page write: page index, its 256 bytes as a little-endian number, who asked (R799, R801). -/
structure NvWrite where
  page : Nat := 0
  data : Nat := 0
  origin : NvOrigin := .regs
  deriving DecidableEq, Repr

/-- The page write in progress (R797, R807): stage 0 the page in place, 1 its spare, 2 and 3 the pages of a remap
copy; pulses of the present stage, and those of stage 0; the remap table to be written. -/
structure NvCur where
  w : NvWrite := {}
  stage : Nat := 0
  spare : Nat := 0
  erasing : Bool := true
  epulses : Nat := 0
  word : Nat := 0
  n : Nat := 0
  pulses : Nat := 0
  ep0 : Nat := 0
  pu0 : Nat := 0
  table : Map Nat := []
  deriving DecidableEq, Repr

/-- NVC beside its block, and the cells. -/
structure NvcH where
  /-- cell bytes by physical address; an unlisted byte reads 0xFF, erased (R789) -/
  cells : Map Byte := []
  /-- condition of a cell word by physical address div 8: 1 one bit to correct, 2 uncorrectable (R790) -/
  cond : Map Nat := []
  /-- the remap table in force: entries by j, the copy that holds it (B: true), its GEN (R805, R806) -/
  remap : Map Nat := []
  copy : Option Bool := none
  gen : Nat := 0
  /-- the key page in force, 256 bytes as a number; the copy that holds it (R823) -/
  key : Option Nat := none
  keyCopy : Option Bool := none
  queue : List NvWrite := []
  cur : Option NvCur := none
  /-- free beat of the last NV_UNCORR of a page, plus 1 (R790) -/
  post : Map Nat := []
  deriving DecidableEq, Repr

/-! ## The Glaze array -/

/-- An input channel of a G port (R189–R192): the value written since the last return to initial states, the TOKEN
FIFO, and the token it presents. -/
structure InChan where
  last : Option Nat := none
  fifo : List Nat := []
  out : Option Nat := none
  /-- free beat (`Chip.clock`) of the last best-effort write (R211) -/
  be : Option Nat := none
  deriving DecidableEq, Repr

/-- A Glaze memory's ports: the response token of port A and of port B, the latter with whether it is a write's
completion (R184). -/
structure GmemH where
  a : Option Nat := none
  b : Option (Nat × Bool) := none
  deriving DecidableEq, Repr

/-- The Glaze array beside its register blocks. Macrocell Mm of block (c, r) is number 16 × (12 × c + r) + m; output
ports are numbered as the **Column frames** table numbers their sources. -/
structure Glaze where
  /-- configuration words of 32 bits: FDATA word w of a frame at 48 × (128 × column + frame) + w -/
  frames : Map Word := []
  /-- frame signatures plus 1 (R848) and whether the frame is marked NV, by 128 × column + frame -/
  sig : Map Nat := []
  nvMark : Map Bool := []
  /-- Stencil map bytes (R859) -/
  stencil : Map Nat := []
  /-- outputs of storage elements: spacer, or a token (R154, R155) -/
  mc : Map (Option Bool) := []
  /-- the last token's value of a storage element (R205 VALUE) -/
  last : Map Bool := []
  /-- a code error is held until the element's inputs return to spacer; free beat of its last GLAZE_CODE (R157) -/
  bad : Map Bool := []
  codePost : Map (Option Nat) := []
  /-- level ports: spine k of column c at 12 × c + k, GIO g at 192 + g -/
  lvl : Map (Option Bool) := []
  /-- by 8 × port + channel -/
  inCh : Map InChan := []
  /-- a wide multiplexer's last macrocell holds a token: the inputs it has taken, 56 × macrocell + input (R183) -/
  sel : Map (List Nat) := []
  /-- acknowledge of an output port, the bits of the output channels included -/
  ack : Map Bool := []
  /-- the line of an output port: the value of its last token since its source took its initial state (R179) -/
  line : Map (Option Bool) := []
  /-- 9-bit words of the Glaze memories at 4,096 × memory + address, the preload that the personality gives them (R186), and
  their ports -/
  gmem : Map Nat := []
  preload : Map Nat := []
  gport : Map GmemH := []
  /-- a capture is requested for SNAPSHOT channel 8n + c (R198) -/
  snap : Map Bool := []
  /-- the start-up steps done: storage elements released, outputs released, memory writes enabled (R853) -/
  sr : Bool := false
  rel : Bool := false
  wr : Bool := false
  /-- START is at its fabric check; else the next of the four steps (R854) -/
  checking : Bool := false
  step : Nat := 0
  /-- the configuration was last written by WCFG (R854 step 5) -/
  byWcfg : Bool := false
  /-- OVERPAINT_END of a region waits for its check (R869) -/
  regCheck : Map Bool := []
  /-- steps a region's start-up has done, after its check has passed, plus 1 (R870); 0: not started -/
  regStep : Map Nat := []
  regSr : Map Bool := []
  regRel : Map Bool := []
  /-- written-frame marks since OVERPAINT_BEGIN, by 128 × column + frame (R866) -/
  written : Map Bool := []
  /-- FDATA words written into a region since OVERPAINT_BEGIN, in order (R869) -/
  regWords : Map (List Word) := []
  /-- WCFG is armed, with the words of the open frame; the words of the frame that RCFG has read -/
  wcfg : Option (List Word) := none
  rcfg : Option Nat := none
  /-- the VDD_G code last reached; the regulator is moving; the lowest setting since it last stood (R173, R174) -/
  vddg : Nat := 0
  vddgMoving : Bool := false
  vddgOld : Nat := 0
  /-- by column: the last ring measurement since START, 1 within the limit, 2 above it (R990) -/
  ring : Map Nat := []
  /-- columns measured since WAIT_LOCK began, within the worst value -/
  locked : Map Bool := []
  /-- next frame the scrubber visits (R860) -/
  scrub : Nat := 0
  /-- repairs not yet reported by GLAZE_REPAIRED, free beat of the last one (R864) -/
  repairs : Nat := 0
  repPost : Option Nat := none
  deriving DecidableEq, Repr

/-! ## Power -/

/-- Where the part stands between its power states: held in a power-on reset, waking, running (RUN and STANDBY),
DORMANT_FAULT, IMAGE_HALT, DEEP entry with its rails ramping, DEEP entry with its persist running, DEEP. -/
inductive PMode where
  | reset | wake | run | dormant | halt | deepRamp | deepPersist | deep
  deriving DecidableEq, Repr

/-- The always-on domain beside the power block. -/
structure PowerH where
  mode : PMode := .reset
  /-- the step of the wake that ends next (R885) -/
  step : Nat := 0
  /-- failed attempts at the present step; the block is disabled before its next attempt (R885) -/
  attempts : Nat := 0
  failed : Bool := false
  /-- VDDH is good (R883); it was seen not good in DEEP (R905) -/
  vddh : Bool := false
  sawLow : Bool := false
  /-- the straps as sampled at S0: OSC_FALLBACK_OK, PMADDR, PREF. The latches stand in this domain (R885, R929) -/
  oscOk : Bool := false
  pmaddr : Nat := 0
  pref : Nat := 0
  /-- the link is held DOWN until the next wake (R890) -/
  linkHold : Bool := false
  /-- class 11 events that wait for S10: index and payload fields (R911) -/
  posts : List (Nat × List (Nat × Nat)) := []
  /-- the wake follows a DORMANT_FAULT: its FAIL, FAIL_STEP, ATTEMPTS (R911) -/
  dormant : Option (Nat × Nat × Nat) := none
  /-- the wake follows a stay in DEEP or its loss (R899); the array is kept by this wake (R897) -/
  fromDeep : Bool := false
  keepGlaze : Bool := false
  /-- the image that passed checks 1–11 and waits for S8; one reading has been refused (R893) -/
  img : List Byte := []
  reread : Bool := false
  /-- PLANE.STATE before STANDBY; STANDBY entry waits for the end of the round (R901, R903) -/
  planeWas : Nat := 0
  standby : Bool := false
  /-- reset kinds that wait for the end of an NV page write, as survives codes: 2 I, 4 W (R801, R918) -/
  resetDue : Nat := 0
  /-- VDDH was lost outside DEEP: the wake waits at S2 (R908); UNCLEAN_LOSS is still to be posted -/
  vddhLost : Bool := false
  lossDue : Bool := false
  /-- VIO33 is below 2.90 V: every PWM ball and OWN_OUT is high-impedance (R955) -/
  vio33Low : Bool := false
  deriving DecidableEq, Repr

/-! ## Test access port -/

/-- Instructions of the **TAP instructions** table (R950). -/
inductive TapIr where
  | extest | idcode | samplePreload | highz | clamp | extestPulse | extestTrain | bypass
  deriving DecidableEq, Repr

/-- The TAPs of the two dies (R949): their instructions, the levels preloaded into the boundary cells of the PWM balls, at 0–95, and of the GIO
balls, at 96–191 (drive high, or low), and what the last SAMPLE/PRELOAD captured of them (0 high-impedance, 1 low, 2 high, 3 mid). The spec gives the boundary
register no layout: a cell goes by its ball. -/
structure TapH where
  l : TapIr := .idcode
  m : TapIr := .idcode
  cells : Map Bool := []
  sampled : Map Nat := []
  deriving DecidableEq, Repr

/-! ## The chip and the machine -/

/-- The part, but for its LOCK unit and the queue of waiting commands. -/
structure Chip where
  /-- register words by global address; unlisted: the reset value of `regDefault` -/
  regs : Map Word := []
  /-- by register address: the bits of fields that software can write and the hardware has updated in the present free beat
  (R21, R22) -/
  hwBits : Map Nat := []
  /-- the value image records gave register words at step S8 (Reset entry "image"), 0 where no record did -/
  image : Map Word := []
  /-- the free-beat count, modulo 2^48 (R69, R391) -/
  beat : Nat := 0
  /-- the MODEL's own clock: free beats since the model began. It never wraps and no reset clears it, so that a time between
  two beats is a difference of two of its readings -/
  clock : Nat := 0
  /-- the MODEL's own counter: free values taken so far -/
  fresh : Nat := 0
  /-- the PWM drive is disabled although OWN_OUT is asserted (R637) -/
  driveOff : Bool := false
  rl : Rails := {}
  lat : Lattice := {}
  pl : Plane := {}
  gl : Glaze := {}
  /-- by tile 0–27 -/
  tl : Map Tile := []
  /-- IMEM, DMEM and SRAM bytes by global address; an unlisted byte reads 0 -/
  mem : Map Byte := []
  /-- ECC condition of a memory word by global address: 1 a single-bit error, 2 uncorrectable (R372, R965) -/
  ecc : Map Nat := []
  /-- trace memory behind DQX by byte address; an unlisted byte reads 0 -/
  xmem : Map Byte := []
  hub : HubH := {}
  tw : TwinH := {}
  sw : SwH := {}
  pw : PowerH := {}
  seq : SeqH := {}
  trc : Map TraceH := []
  skb : SkbH := {}
  nvc : NvcH := {}
  tap : TapH := {}
  /-- what the command under way asks of LOCK; empty between commands -/
  lockActs : List LockAct := []
  /-- the last resets or hold timeouts that LOCK was told, none where something was lost with them -/
  lockWas : Option LockWas := none
  /-- outcome of the last register or memory access that the outside asked for: STATUS and data words (R237) -/
  resp : Option (Nat × List Word) := none
  deriving DecidableEq, Repr

/-- The machine: commands waiting, first in, first out; the LOCK unit; the rest of the part. -/
structure State where
  pending : List Instr := []
  lock : LockUnit := {}
  chip : Chip := {}
  deriving DecidableEq, Repr

/-- The machine right after a power-on reset: every register at its Reset entry, nothing waiting. -/
def State.reset : State := {}

end Sys2Proof.Machine
end

