-- ==== Sys2Proof/Machine/Regs.lean ====
section
/-! DEFINITION. Reading and writing the registers of the map: the reset value of a word (Reset column), the named
fields, and what an event does to a word by the survives codes of its fields (R13–R15, R25). -/

namespace Sys2Proof.Machine

/-- Position of a node offset in a block: the block's rows and the offset inside one repetition. -/
def RegBlock.inside (b : RegBlock) (node off : Nat) : Option Nat :=
  if b.nodes.contains node && decide (b.base ≤ off) && decide (off < b.base + b.stride * b.count)
  then some ((off - b.base) % b.stride) else none

/-- Does a row lie in the word at block offset `o`? -/
def FieldRow.at (r : FieldRow) (o : Nat) : Bool :=
  if r.count ≤ 1 then r.off == o
  else decide (r.off ≤ o) && decide (o < r.off + r.stride * r.count) && (o - r.off) % r.stride == 0

/-- The fields of the word at a global address. -/
def fieldsAt (a : Nat) : List FieldRow :=
  let node := a / 0x2000000
  let off := a % 0x2000000
  regBlocks.flatMap (fun b => match b.inside node off with
    | some o => b.rows.filter (fun r => r.at o)
    | none => [])

/-- Reset value of a field, with `img` the value the image gave its word (R10, table *Reset column values*). NV
and strap fields read 0 until the start-up step that loads them. -/
def FieldRow.reset (r : FieldRow) (node img : Nat) : Nat :=
  match r.rst with
  | .num n => n
  | .image => bits img r.hi r.lo
  | .nodeId => node
  | .kind => if pNodes.contains node then 1 else 0
  | .strap => 0
  | .nv => 0

/-- What an "image" Reset entry reads with no record: TENn.PORT reads 3 for T3–T6, fixed by their attachment (R569); else 0. -/
def imageBase (a : Nat) : Word :=
  if a ∈ [0x10000C0, 0x1000100, 0x1000140, 0x1000180] then 3 else 0

/-- The word at a global address after a power-on reset. -/
def regDefault (a : Nat) : Word :=
  BitVec.ofNat 32 ((fieldsAt a).foldl (fun n r => setBits n r.hi r.lo (r.reset (a / 0x2000000) (imageBase a).toNat)) 0)

/-- The register word at a global address. -/
def Chip.reg (c : Chip) (a : Nat) : Word := mget (regDefault a) c.regs a

/-- The chip with the register word at `a` set to `w`. -/
def Chip.setReg (c : Chip) (a : Nat) (w : Word) : Chip := { c with regs := mset (regDefault a) c.regs a w }

/-- The value a field reads. -/
def Chip.f (c : Chip) (x : Fld) : Nat := bits (c.reg x.addr).toNat x.hi x.lo

/-- The value of a field taken as two's complement. -/
def Chip.fi (c : Chip) (x : Fld) : Int := sgn (x.hi + 1 - x.lo) (c.f x)

/-- A one-bit field, or whether a field is not 0. -/
def Chip.b (c : Chip) (x : Fld) : Bool := c.f x != 0

/-- The hardware sets a field; the field keeps the value's low bits (R19). -/
def Chip.put (c : Chip) (x : Fld) (v : Nat) : Chip :=
  c.setReg x.addr (BitVec.ofNat 32 (setBits (c.reg x.addr).toNat x.hi x.lo v))

@[inherit_doc Chip.put] def Chip.putI (c : Chip) (x : Fld) (v : Int) : Chip := c.put x (low (x.hi + 1 - x.lo) v)

@[inherit_doc Chip.put] def Chip.putB (c : Chip) (x : Fld) (v : Bool) : Chip := c.put x (b2n v)

/-- Record that the hardware has updated the bits `m` of a field that software can write in the present beat (R21, R22). -/
def Chip.hwMark (c : Chip) (x : Fld) (m : Nat) : Chip :=
  { c with hwBits := mset 0 c.hwBits x.addr (mget 0 c.hwBits x.addr ||| m % 2 ^ (x.hi + 1 - x.lo) * 2 ^ x.lo) }

/-- The hardware updates a field that software can also write: what a write of the same beat finds of it stands (R21, R22). -/
def Chip.hwSet (c : Chip) (x : Fld) (v : Nat) : Chip := (c.put x v).hwMark x (2 ^ (x.hi + 1 - x.lo) - 1)

/-- Add 1 to a count field, saturating at its width. -/
def Chip.inc (c : Chip) (x : Fld) : Chip := c.put x (satInc (x.hi + 1 - x.lo) (c.f x))

@[inherit_doc Chip.inc] def Chip.incBy (c : Chip) (x : Fld) (k : Nat) : Chip :=
  c.put x (satAdd (x.hi + 1 - x.lo) (c.f x) k)

/-- Set the bits of `m` in a field. -/
def Chip.orF (c : Chip) (x : Fld) (m : Nat) : Chip := c.put x (c.f x ||| m)

/-- The hardware sets the bits of `m` in a W1C field (R21). -/
def Chip.hwOr (c : Chip) (x : Fld) (m : Nat) : Chip := (c.orF x m).hwMark x m

/-- A word after an event whose codes are `mask`: a field whose survives entry holds every code of the event keeps
its value, any other returns to its reset entry (R13–R15, R25). -/
def resetWord (mask node img : Nat) (rows : List FieldRow) (w : Nat) : Nat :=
  rows.foldl (fun n r => if (r.sv &&& mask) == mask then n else setBits n r.hi r.lo (r.reset node img)) w

/-- The words at the addresses of `keys` after an event. -/
def Chip.resetWords (c : Chip) (mask : Nat) (keys : List Nat) : Chip :=
  forL keys (fun a c => c.setReg a (BitVec.ofNat 32
    (resetWord mask (a / 0x2000000) (mget (imageBase a) c.image a).toNat (fieldsAt a) (c.reg a).toNat))) c

/-- Every register word that an event covers, after the event: `covers` says which addresses. Words that are not
listed and have no image value are at their reset value already. -/
def Chip.resetRegs (c : Chip) (mask : Nat) (covers : Nat → Bool) : Chip :=
  c.resetWords mask (((mkeys c.regs) ++ (mkeys c.image)).filter covers)

/-- Codes of the **Survives codes** table. -/
def svP : Nat := 1
@[inherit_doc svP] def svI : Nat := 2
@[inherit_doc svP] def svW : Nat := 4
@[inherit_doc svP] def svT : Nat := 8
@[inherit_doc svP] def svN : Nat := 16
@[inherit_doc svP] def svG : Nat := 32
@[inherit_doc svP] def svS : Nat := 64
@[inherit_doc svP] def svD : Nat := 128

end Sys2Proof.Machine
end

