-- ==== Sys2Proof/Machine/Ops.lean ====
section
/-! DEFINITION. The operations the units share: free values, access to each unit's record, the queues of a network
interface, posting events to SEQ (R732–R735) and recording Lattice errors (R288). -/

namespace Sys2Proof.Machine

/-- Take an open bit. -/
def Chip.freeBit (c : Chip) : Bool × Chip := (Config.freeBit c.fresh, { c with fresh := c.fresh + 1 })

/-- Take an open word. -/
def Chip.freeWord (c : Chip) : Word × Chip := (Config.freeWord c.fresh, { c with fresh := c.fresh + 1 })

/-! ### Records of the units -/

def Chip.rail (c : Chip) (r : Nat) : RailH := mget {} c.rl.rail r
def Chip.setRail (c : Chip) (r : Nat) (h : RailH) : Chip := { c with rl.rail := mset {} c.rl.rail r h }
def Chip.phase (c : Chip) (p : Nat) : PhaseH := mget {} c.rl.phase p
def Chip.setPhase (c : Chip) (p : Nat) (h : PhaseH) : Chip := { c with rl.phase := mset {} c.rl.phase p h }
def Chip.comp (c : Chip) (r k : Nat) : Comp := mget {} c.rl.comp (4 * r + k)
def Chip.setComp (c : Chip) (r k : Nat) (h : Comp) : Chip := { c with rl.comp := mset {} c.rl.comp (4 * r + k) h }
def Chip.tmonH (c : Chip) (t : Nat) : TmonH := mget {} c.rl.tmon t
def Chip.setTmonH (c : Chip) (t : Nat) (h : TmonH) : Chip := { c with rl.tmon := mset {} c.rl.tmon t h }
def Chip.ni (c : Chip) (n : Nat) : Ni := mget {} c.lat.ni n
def Chip.setNi (c : Chip) (n : Nat) (h : Ni) : Chip := { c with lat.ni := mset {} c.lat.ni n h }
def Chip.tag (c : Chip) (n t : Nat) : Tag := mget {} (c.ni n).tags t
def Chip.setTag (c : Chip) (n t : Nat) (h : Tag) : Chip :=
  let x := c.ni n
  c.setNi n { x with tags := mset {} x.tags t h }

def Chip.tile (c : Chip) (t : Nat) : Tile := mget {} c.tl t
def Chip.setTile (c : Chip) (t : Nat) (h : Tile) : Chip := { c with tl := mset {} c.tl t h }

/-- Node of tile `t`: E0–E23 are tiles 0–23, P0–P3 tiles 24–27 (R28). -/
def tileNode (t : Nat) : Nat := natAt (eNodes ++ pNodes) t

/-- Tile at a node, 28 and above where there is none. -/
def tileAt (node : Nat) : Nat := (eNodes ++ pNodes).idxOf node

/-- Tiles 24–27 are P tiles. -/
def isP (t : Nat) : Bool := decide (24 ≤ t)

/-! ### Memory bytes -/

/-- The byte of IMEM, DMEM or SRAM at a global address. -/
def Chip.byte (c : Chip) (a : Nat) : Byte := mget 0 c.mem a

/-- Store bytes from a global address upwards. -/
def Chip.setBytes (c : Chip) (a : Nat) : List Byte → Chip
  | [] => c
  | b :: bs => { c with mem := mset 0 c.mem a b }.setBytes (a + 1) bs

/-- The `n` bytes from a global address, as a little-endian number (R7). -/
def Chip.bytesAt (c : Chip) (a n : Nat) : Nat := ofBytes ((List.range n).map (fun i => c.byte (a + i)))

/-- ECC condition of the word that holds a byte: 0 good, 1 a single-bit error, 2 uncorrectable. -/
def Chip.eccAt (c : Chip) (a : Nat) : Nat := mget 0 c.ecc (a / 4 * 4)

/-- Set the ECC condition of the word that holds a byte. -/
def Chip.setEcc (c : Chip) (a v : Nat) : Chip := { c with ecc := mset 0 c.ecc (a / 4 * 4) v }

/-- Store bytes from an aligned address: every word written whole gets new check bits (R965). -/
def Chip.storeBytes (c : Chip) (a : Nat) (bs : List Byte) : Chip :=
  forN (bs.length / 4) (fun i c => c.setEcc (a + 4 * i) 0) (c.setBytes a bs)

/-! ### Events -/

/-- Is the NI of node `n` fenced (R273)? -/
def Chip.fenced (c : Chip) (n : Nat) : Bool := c.b (Reg.Ni.FENCED n)

/-- The NI of node `n` sets an ERR bit and records the packet concerned in LAST_ERR (R262, R289). -/
def Chip.errRec (c : Chip) (n bitNo : Nat) (h : Hdr) (peer : Nat) : Chip :=
  (((((((((c.hwOr ⟨niBase n + 0x10, 7, 0⟩ (2 ^ bitNo)).put
    (Reg.Ni.LAST_ERR_KIND n) bitNo).put (Reg.Ni.LAST_ERR_TAG n) h.tag).put (Reg.Ni.LAST_ERR_GEN n) h.gen).put
    (Reg.Ni.LAST_ERR_PEER n) peer).put (Reg.Ni.LAST_ERR_TENANT n) h.tenant).put
    (Reg.Ni.LAST_ERR_STATUS n) h.status).put (Reg.Ni.LAST_ERR_OFFSET n) h.offset).put
    (Reg.Ni.LAST_ERR_BEAT_LO n) (c.beat % 2 ^ 32)).put (Reg.Ni.LAST_ERR_BEAT_HI n) (c.beat / 2 ^ 32)

/-- The NI of node `n` discards a packet, counts it and records it (NI.DROP_CNT, ERR.DROP). -/
def Chip.dropRec (c : Chip) (n : Nat) (h : Hdr) (peer : Nat) : Chip := (c.inc (Reg.Ni.DROP_CNT n)).errRec n 6 h peer

/-- The send queue for VC3 of node `n` can take no packet: the node is fenced (R984), or the queue holds 8 (R282). -/
def Chip.full3 (c : Chip) (n : Nat) : Bool := c.fenced n || decide (8 ≤ (c.ni n).send3.length)

/-- A VC3 packet enters the NI's send queue, or is dropped and recorded (R282, R984). -/
def Chip.send3Rec (c : Chip) (n : Nat) (p : Pkt) : Chip :=
  if c.full3 n then c.dropRec n p.hdr p.hdr.dst else c.setNi n { c.ni n with send3 := (c.ni n).send3 ++ [p] }

/-- The EVT packet of an event: CODE and SSEQ in word 0, then the payload words (R732). Its PRIO is 0. -/
def evtPkt (n tenant code sseq : Nat) (payload : List Word) : Pkt :=
  { hdr := { vc := 3, typ := 4, src := n, dst := 30, tenant := tenant, len := payload.length },
    words := BitVec.ofNat 32 (code % 65536 + sseq % 65536 * 65536) :: payload }

/-- CODE of the event with an index in a class (R733). -/
def evCode (cls idx : Nat) : Nat := cls * 2048 + idx

/-- The NI of node `n` writes its SSEQ into an event and hands it to `send`; SSEQ advances even when the packet is
dropped (R735). SEQ's own events wait at its LOCAL port (R738). -/
def Chip.postBy (c : Chip) (send : Chip → Pkt → Chip) (n tenant code : Nat) (payload : List Word) : Chip :=
  if n = 30 then { c with seq.local_ := c.seq.local_ ++ [(code, payload)] }
  else
    let x := c.ni n
    send (c.setNi n { x with sseq := (x.sseq + 1) % 65536 }) (evtPkt n tenant code x.sseq payload)

/-- An NI error bit that has been set leads to LATTICE_ERR when its ERR_EVT bit is set, at most once in any
800 free beats (1 µs) for each NI (R288). The payload is the node and the four words of LAST_ERR (R734). The event's own
drop falls in that 1 µs, so it leads to no other. -/
def Chip.latticeErr (c : Chip) (n bitNo : Nat) : Chip :=
  let x := c.ni n
  if bit (c.f (Reg.Ni.ERR_EVT n)) bitNo && (match x.errPost with | none => true | some b => decide (800 ≤ c.clock - b)) then
    (c.setNi n { x with errPost := some c.clock }).postBy (fun c p => c.send3Rec n p) n 0 (evCode 3 1)
      (BitVec.ofNat 32 n :: (List.range 4).map (fun i => c.reg (niBase n + 0x40 + 4 * i)))
  else c

/-- The NI of node `n` records an error: its ERR bit, LAST_ERR, and LATTICE_ERR (R262, R288). -/
def Chip.niErr (c : Chip) (n bitNo : Nat) (h : Hdr) (peer : Nat) : Chip := (c.errRec n bitNo h peer).latticeErr n bitNo

/-- The NI of node `n` discards a packet it received or was asked to send, counts it and records it (R288). -/
def Chip.dropErr (c : Chip) (n : Nat) (h : Hdr) (peer : Nat) : Chip := (c.dropRec n h peer).latticeErr n 6

/-- A VC3 packet formed at node `n` enters the NI's send queue of 8 packets, or is dropped and counted (R282, R984). -/
def Chip.send3 (c : Chip) (n : Nat) (p : Pkt) : Chip :=
  if c.full3 n then c.dropErr n p.hdr p.hdr.dst else c.send3Rec n p

/-- Node `n` posts the event `code` with payload words (R735). -/
def Chip.postWords (c : Chip) (n tenant code : Nat) (payload : List Word) : Chip :=
  c.postBy (fun c p => c.send3 n p) n tenant code payload

/-- Node `n` posts a device event with tenant T0, its payload packed from (width, value) fields (R734). -/
def Chip.post (c : Chip) (n cls idx : Nat) (fields : List (Nat × Nat)) : Chip :=
  c.postWords n 0 (evCode cls idx) (toWords ((packWidth 0 fields + 31) / 32) (packFields 0 fields))

/-- CEILING_CLAMP (R38): the rail or instance, the field, the requesting tenant. The spec numbers no fields: the
field is a free value. -/
def Chip.ceilClamp (c : Chip) (n inst tenant : Nat) : Chip :=
  let (w, c) := c.freeWord
  c.post n 1 14 [(8, inst), (8, w.toNat % 256), (8, tenant)]

/-- SKB adds to a count, once counting has begun (R762, R772). -/
def Chip.skbAdd (c : Chip) (i k : Nat) : Chip :=
  if c.skb.counting then { c with skb.counts := mset 0 c.skb.counts i (mget 0 c.skb.counts i + k) } else c

/-! ### Latched host status -/

/-- The latched status bits of PMBus port `q` for a page (`HubH.latch`). -/
def Chip.latched (c : Chip) (q page : Nat) : Nat := mget 0 c.hub.latch (16 * q + page)
@[inherit_doc Chip.latched] def Chip.setLatched (c : Chip) (q page v : Nat) : Chip :=
  { c with hub.latch := mset 0 c.hub.latch (16 * q + page) v }

/-- A condition of the **Status mapping** table arises on rail `r`: its latched bits are set at both ports (R579). -/
def Chip.note (c : Chip) (r mask : Nat) : Chip :=
  (c.setLatched 0 r (c.latched 0 r ||| mask)).setLatched 1 r (c.latched 1 r ||| mask)

/-- Rail of select `k` (0–14) of AVSBus port `p`, if enabled (R586). -/
def Chip.avsSel (c : Chip) (p k : Nat) : Option Nat :=
  if k < 15 && bit (c.f (Reg.Avs.SEL_EN p)) k then
    some (c.f ⟨Reg.Avs.base p + 4 * (k / 8), 4 * (k % 8) + 3, 4 * (k % 8)⟩)
  else none

/-- A latch of rail `r` raises the status alert of every AVSBus port that selects it (R588). -/
def Chip.avsLatch (c : Chip) (r : Nat) : Chip :=
  forN 8 (fun p c => if (List.range 15).any (fun k => c.avsSel p k == some r) then c.putB (Reg.Avs.ALERT p) true else c) c

/-- Latched bits that an OFF_CAUSE sets: OV 0 and 3, UV 4, BUS_UV 2, STAGE_OT 6 (R579). -/
def causeBits (cause : Nat) : Nat := if cause = 1 then 9 else if cause = 2 then 16 else if cause = 3 then 4 else if cause = 4 then 64 else 0

/-- The role of the part (R650, ROLE): 0 SOLO, 1 NEGOTIATING, 2 PRIMARY, 3 SHADOW, 4 BARRED. -/
def Chip.role (c : Chip) : Nat := c.f Reg.Dip.ROLE

/-- The part is in Shadow mode; from step 4 of a takeover its clusters and its HUB no longer act as a Shadow's (R659). -/
def Chip.shadow (c : Chip) : Bool := c.role == 3 && c.tw.take != 2

/-- The part is a Primary; a SOLO part is one too (R648). -/
def Chip.primary (c : Chip) : Bool := c.role == 2 || c.role == 0

/-! ### Asking a network interface to send -/

/-- The node's logic asks its NI to send a VC2 request for an owner. -/
def Chip.ask (c : Chip) (n : Nat) (p : Pkt) (o : Owner) : Chip :=
  let x := c.ni n
  c.setNi n { x with asks := x.asks ++ [{ pkt := p, owner := o }] }

/-- The header of a response to a request (R232). -/
def rspHdr (h : Hdr) (typ status : Nat) : Hdr :=
  { vc := 1, prio := h.prio, typ := typ, src := h.dst, dst := h.src, tag := h.tag, gen := h.gen, tenant := h.tenant,
    len := h.len, offset := h.offset, status := status }

/-- The node's target logic hands a response to the NI's response queue (R280). -/
def Chip.respond (c : Chip) (n : Nat) (p : Pkt) : Chip :=
  let x := c.ni n
  c.setNi n { x with rsp := x.rsp ++ [p] }

end Sys2Proof.Machine
end

