-- ==== Sys2Proof/Machine/Nv.lean ====
section
/-! DEFINITION. The on-die cells: reading with ECC and the remap table, page writes pulse by pulse, retirement, and
what a lost supply leaves (R788–R810, R828). -/

namespace Sys2Proof.Machine

open Reg

/-- Node of NVC, and of CFG (R961). -/
def nvcNode : Nat := 42
@[inherit_doc nvcNode] def cfgNode : Nat := 31

/-! ### Pages -/

/-- Page index of the first page of the spare pool (R791). -/
def poolPage : Nat := 0x3F00

/-- The spare page that serves a page under a remap table: the highest entry that is USED and not BAD (R805, R806). -/
def spareOf (t : Map Nat) (page : Nat) : Option Nat :=
  (t.reverse.find? (fun e => e.2 / 2 ^ 14 == 1 && e.2 % 2 ^ 14 == page)).map (fun e => e.1 + 4)

/-- The physical page of a page. -/
def Chip.physPage (c : Chip) (page : Nat) : Nat := match spareOf c.nvc.remap page with | some s => poolPage + s | none => page

/-- Physical byte address of a cell byte address. -/
def Chip.physAddr (c : Chip) (a : Nat) : Nat := 256 * c.physPage (a / 256 % 16384) + a % 256

/-- The newest write of a page that is queued or in progress (R806, R831). -/
def Chip.nvBuf (c : Chip) (page : Nat) : Option Nat :=
  (((c.nvc.cur.map NvCur.w).toList ++ c.nvc.queue).reverse.find? (fun w => w.page == page)).map NvWrite.data

/-- A cell byte as NVC presents it. -/
def Chip.cell (c : Chip) (a : Nat) : Byte :=
  match c.nvBuf (a / 256 % 16384) with
  | some d => BitVec.ofNat 8 (d / 256 ^ (a % 256))
  | none => mget 0xFF c.nvc.cells (c.physAddr a)

/-- `n` cell bytes from an address, little-endian (R7). -/
def Chip.cellsAt (c : Chip) (a n : Nat) : Nat := ofBytes ((List.range n).map (fun i => c.cell (a + i)))

/-- Outcome of the cell word that holds a byte: 0 good (OK or ERASED), 1 CORR, 2 UNCORR (R790). -/
def Chip.cellCond (c : Chip) (a : Nat) : Nat :=
  match c.nvBuf (a / 256 % 16384) with
  | some _ => 0
  | none => mget 0 c.nvc.cond (c.physAddr a / 8)

/-- Some cell word of `n` bytes from an address is uncorrectable. -/
def Chip.cellBad (c : Chip) (a n : Nat) : Bool := (List.range ((a + n + 7) / 8 - a / 8)).any (fun i => c.cellCond (8 * (a / 8 + i)) == 2)

/-- NVC reads one cell word: CORR_CNT, UNCORR_CNT, LAST_UNCORR, and NV_UNCORR at most once for a page in 1 s
(800,000,000 free beats) (R790). -/
def Chip.cellCount (c : Chip) (a : Nat) : Chip :=
  match c.cellCond a with
  | 0 => c
  | 1 => c.inc Nvc.CORR_CNT
  | _ =>
    let c := (c.inc Nvc.UNCORR_CNT).put Nvc.LAST_UNCORR (a / 8 * 8)
    let last := mget 0 c.nvc.post (a / 256)
    if last ≠ 0 && decide (c.clock - (last - 1) < 800000000) then c
    else { c with nvc.post := mset 0 c.nvc.post (a / 256) (c.clock + 1) }.post nvcNode 10 4 [(32, a / 8 * 8)]

/-- NVC reads every cell word of `n` bytes from an address. -/
def Chip.cellRead (c : Chip) (a n : Nat) : Chip :=
  forN ((a + n + 7) / 8 - a / 8) (fun i c => c.cellCount (8 * (a / 8 + i))) c

/-- Store 8 data bytes and a condition in a physical cell word. -/
def Chip.setCell (c : Chip) (w v cond : Nat) : Chip :=
  { c with nvc.cells := forN 8 (fun i m => mset 0xFF m (8 * w + i) (BitVec.ofNat 8 (v / 256 ^ i))) c.nvc.cells,
           nvc.cond := mset 0 c.nvc.cond w cond }

/-- Data of an erased word. -/
def erasedWord : Nat := 2 ^ 64 - 1

/-- The 8 data bytes of a physical cell word. -/
def Chip.cellWord (c : Chip) (w : Nat) : Nat := ofBytes ((List.range 8).map (fun i => mget 0xFF c.nvc.cells (8 * w + i)))

/-! ### Partitions -/

/-- Partition of a page, in the order of the **Partitions** table (R791). -/
def partitionOf (page : Nat) : Nat :=
  if page < 0x1000 then 0 else if page < 0x2000 then 1 else if page < 0x2100 then 2 else if page < 0x2200 then 3
  else if page < 0x2240 then 4 else if page < 0x3F00 then 5 else 6

/-- The page lies in the active Glaze slot or the active Stencil copy (R793). -/
def Chip.activePage (c : Chip) (page : Nat) : Bool :=
  let b := c.b Nvc.ACTIVE_SLOT
  match partitionOf page with
  | 0 => !b
  | 1 => b
  | 2 => decide (0x2080 ≤ page) == b
  | _ => false

/-! ### Page writes -/

/-- A page write enters the queue (R801). -/
def Chip.nvEnqueue (c : Chip) (w : NvWrite) : Chip := { c with nvc.queue := c.nvc.queue ++ [w] }

/-- The queue has a free entry. -/
def Chip.nvRoom (c : Chip) : Bool := decide (c.nvc.queue.length < 4)

/-- The copy of the remap table that a retirement writes: the one of smaller GEN, B when they are equal (R807). -/
def otherCopy : Option Bool → Bool
  | some b => !b
  | none => true

/-- The 512 bytes of a remap copy, as a number (R805). -/
def remapImage (t : Map Nat) (gen : Nat) : Nat :=
  let body := gen % 2 ^ 32 + 2 ^ 32 * ((List.range 252).foldr (fun j a => mget 0 t j % 2 ^ 16 + 2 ^ 16 * a) 0)
  body + 2 ^ 4064 * crc32 ((toBytes 508 body).map BitVec.toNat)

/-- The physical page that the present stage of a write touches. -/
def Chip.nvTarget (c : Chip) (x : NvCur) : Nat :=
  match x.stage with
  | 0 => c.physPage x.w.page
  | 1 => poolPage + x.spare
  | k => poolPage + (if otherCopy c.nvc.copy then 2 else 0) + (k - 2)

/-- The data that the present stage writes. -/
def Chip.nvData (c : Chip) (x : NvCur) : Nat :=
  if x.stage ≤ 1 then x.w.data else remapImage x.table (c.nvc.gen + 1) / 2 ^ (2048 * (x.stage - 2)) % 2 ^ 2048

/-- Partition count of Sketchbook counts 817–823 that a stage adds to (R828). -/
def nvCount (x : NvCur) : Nat := 817 + (if x.stage = 0 then partitionOf x.w.page else 6)

/-- Counts of spares (SPARE_FREE, SPARE_BAD). -/
def Chip.spareCounts (c : Chip) : Chip :=
  let e (j : Nat) : Nat := mget 0 c.nvc.remap j / 2 ^ 14
  (c.put Nvc.SPARE_FREE (sumN 252 (fun j => b2n (e j == 0)))).put Nvc.SPARE_BAD (sumN 252 (fun j => b2n (decide (2 ≤ e j))))

/-- A page write ends with a RESULT (R798, R799, R802). -/
def Chip.nvFinish (c : Chip) (x : NvCur) (result : Nat) : Chip :=
  let c := { c with nvc.cur := none }
  let c := (((c.put Nvc.RESULT result).put Nvc.PULSES x.pu0).put Nvc.EPULSES x.ep0).put Nvc.LAST_PAGE x.w.page
  let c := if x.w.origin = .regs then (c.putB Nvc.BUSY false).hwSet Nvc.DONE 1 else c
  let warn := c.f Nvc.PULSE_WARN
  if (if warn = 0 then 48 else warn) < x.pu0 then c.post nvcNode 10 1 [(16, x.w.page), (16, x.pu0), (8, x.ep0)] else c

/-- The free spare of lowest index in a table (R807). -/
def freeSpare (t : Map Nat) : Option Nat := ((List.range 252).find? (fun j => mget 0 t j / 2 ^ 14 == 0)).map (· + 4)

/-- Begin the next stage of a write. -/
def Chip.nvStage (c : Chip) (x : NvCur) (stage spare : Nat) (t : Map Nat) : Chip :=
  { c with nvc.cur := some { x with stage := stage, spare := spare, table := t, erasing := true, epulses := 0, word := 0, n := 0, pulses := 0 } }

/-- The write is retired to the next free spare under table `t`, or fails (R807–R809, R837). -/
def Chip.nvRetire (c : Chip) (x : NvCur) (t : Map Nat) : Chip :=
  match freeSpare t with
  | some s => c.nvStage x 1 s t
  | none => (c.nvFinish x 2).post nvcNode 10 3 [(16, x.w.page)]

/-- The present stage has failed (R807–R809, R837). A page of the remap table that cannot be written leaves the old table
in force. -/
def Chip.nvFail (c : Chip) (x : NvCur) : Chip :=
  let c := c.skbAdd (nvCount x) 1
  match x.stage with
  | 0 =>
    let x := { x with ep0 := x.epulses, pu0 := x.pulses }
    let t := match spareOf c.nvc.remap x.w.page with
      | some s => mset 0 c.nvc.remap (s - 4) (2 ^ 15 + x.w.page)
      | none => c.nvc.remap
    c.nvRetire x t
  | 1 => c.nvRetire x (mset 0 x.table (x.spare - 4) (2 ^ 15))
  | _ => (c.nvFinish x 2).post nvcNode 10 3 [(16, x.w.page)]

/-- The present stage has written its page (R807). -/
def Chip.nvStageDone (c : Chip) (x : NvCur) : Chip :=
  let c := c.skbAdd (nvCount x) 1
  match x.stage with
  | 0 => c.nvFinish { x with ep0 := x.epulses, pu0 := x.pulses } 0
  | 1 => c.nvStage x 2 x.spare (mset 0 x.table (x.spare - 4) (2 ^ 14 + x.w.page))
  | 2 => c.nvStage x 3 x.spare x.table
  | _ =>
    let c := { c with nvc.remap := x.table, nvc.copy := some (otherCopy c.nvc.copy), nvc.gen := (c.nvc.gen + 1) % 2 ^ 32 }.spareCounts
    (c.nvFinish x 1).post nvcNode 10 2 [(16, x.w.page), (8, x.spare), (16, x.pu0)]

/-- NVC takes the next queued page write (R801). -/
def Chip.nvStart (c : Chip) : Chip :=
  match c.nvc.cur, c.nvc.queue with
  | none, w :: ws => { c with nvc.queue := ws, nvc.cur := some { w := w } }
  | _, _ => c

/-- A cell word left torn (R803): `old` says that it may keep its old value, `new` that it may read that value; erased and
uncorrectable are possible in either case. -/
def Chip.tearWord (c : Chip) (w : Nat) (new : Option Nat) : Chip :=
  let (x, c) := c.freeWord
  match x.toNat % 3 with
  | 0 => (match new with | some v => c.setCell w v 0 | none => c)
  | 1 => c.setCell w erasedWord 0
  | _ => c.setCell w (c.cellWord w) 2

/-- The page of the present stage as a failure of the pulse in progress leaves it (R803, R804). -/
def Chip.nvTear (c : Chip) : Chip :=
  match c.nvc.cur with
  | none => c
  | some x =>
    let p := 32 * c.nvTarget x
    if x.erasing then forN 32 (fun i c => c.tearWord (p + i) none) c
    else c.tearWord (p + x.word) (some (c.nvData x / 2 ^ (64 * x.word) % 2 ^ 64))

/-- An erase pulse and its verify end: `clean` says that every word reads erased (R797). -/
def Chip.nvErased (c : Chip) (clean : Bool) : Chip :=
  match c.nvc.cur with
  | none => c
  | some x =>
    if !x.erasing then c
    else
      let x := { x with epulses := x.epulses + 1 }
      if clean then
        let p := 32 * c.nvTarget x
        { forN 32 (fun i c => c.setCell (p + i) erasedWord 0) c with nvc.cur := some { x with erasing := false } }
      else if x.epulses = 3 then c.nvTear.nvFail x
      else { c with nvc.cur := some x }

/-- A program pulse and its verify end: `good` says that the word reads its new value (R797). -/
def Chip.nvProgrammed (c : Chip) (good : Bool) : Chip :=
  match c.nvc.cur with
  | none => c
  | some x =>
    if x.erasing then c
    else
      let p := 32 * c.nvTarget x
      let y := { x with n := x.n + 1, pulses := x.pulses + 1 }
      if good then
        let c := c.setCell (p + x.word) (c.nvData x / 2 ^ (64 * x.word) % 2 ^ 64) 0
        if x.word = 31 then c.nvStageDone y else { c with nvc.cur := some { y with word := x.word + 1, n := 0 } }
      else if y.n = 8 then c.nvTear.nvFail y
      else { c with nvc.cur := some y }

/-- VDDH is lost (R803, R804): a write in progress tears its page and the queue is gone. -/
def Chip.nvLost (c : Chip) : Chip := { c.nvTear with nvc := { c.nvTear.nvc with cur := none, queue := [] } }

/-! ### The remap table, the key page and the trim at step S5 -/

/-- A valid copy of a 512-byte or 256-byte page pair: its CRC stands in its last word (R806, R823). -/
def Chip.copyValid (c : Chip) (a n : Nat) : Bool :=
  !c.cellBad a n && c.cellsAt (a + n - 4) 4 == crc32 ((List.range (n - 4)).map (fun i => (c.cell (a + i)).toNat))

/-- The valid copy of larger GEN of a pair, copy A on equal GENs (R806, R823): false A, true B. -/
def Chip.pickCopy (c : Chip) (a b n : Nat) : Option Bool :=
  match c.copyValid a n, c.copyValid b n with
  | true, true => some (decide (c.cellsAt a 4 < c.cellsAt b 4))
  | true, false => some false
  | false, true => some true
  | false, false => none

/-- NVC loads the remap table (R806). -/
def Chip.loadRemap (c : Chip) : Chip :=
  let a := 256 * poolPage
  let c := { c with nvc := { c.nvc with remap := [], copy := none, gen := 0 } }
  let c := c.cellRead a 1024
  match c.pickCopy a (a + 512) 512 with
  | none => c.spareCounts
  | some b =>
    let at_ := if b then a + 512 else a
    let t := forN 252 (fun j m => mset 0 m j (c.cellsAt (at_ + 4 + 2 * j) 2)) []
    { c with nvc := { c.nvc with remap := t, copy := some b, gen := c.cellsAt at_ 4 } }.spareCounts

/-- The key page in force, 0 everywhere without one. -/
def Chip.keyPage (c : Chip) : Nat := c.nvc.key.getD 0

/-- STATE of key slot `s` (R823). -/
def Chip.keyState (c : Chip) (s : Nat) : Nat := bits c.keyPage (64 * 8 * s + 65) (64 * 8 * s + 64)

/-- HASH of key slot `s`, its first byte lowest. -/
def Chip.keyHash (c : Chip) (s : Nat) : Nat := c.keyPage / 2 ^ (8 * (24 + 64 * s)) % 2 ^ 384

/-- MINVER of the key page. -/
def Chip.minver (c : Chip) : Nat := bits c.keyPage 1631 1600

/-- KEY STATES and MINVER as the image block shows them. -/
def Chip.keyRegs (c : Chip) : Chip :=
  (c.put Img.MINVER c.minver).put Img.KEY_STATES (c.keyState 0 + 4 * c.keyState 1 + 16 * c.keyState 2)

/-- NVC loads the key page (R823). -/
def Chip.loadKeys (c : Chip) : Chip :=
  let c := c.cellRead 0x220000 512
  match c.pickCopy 0x220000 0x220100 256 with
  | none => { c with nvc := { c.nvc with key := none, keyCopy := none } }.keyRegs
  | some b => { c with nvc := { c.nvc with key := some (c.cellsAt (if b then 0x220100 else 0x220000) 256), keyCopy := some b } }.keyRegs

/-- CFG writes the key page with new contents but for GEN and CRC (R824). -/
def Chip.writeKeys (c : Chip) (page : Nat) : Chip :=
  let b := otherCopy c.nvc.keyCopy
  let body := setBits (setBits (page % 2 ^ 2016) 31 0 (c.keyPage % 2 ^ 32 + 1)) 39 32 1
  let full := body + 2 ^ 2016 * crc32 ((toBytes 252 body).map BitVec.toNat)
  ({ c with nvc := { c.nvc with key := some full, keyCopy := some b } }.nvEnqueue
    { page := if b then 0x2201 else 0x2200, data := full, origin := .cfg }).keyRegs

/-- Set the STATE of a key slot in a key page. -/
def setKeyState (page s v : Nat) : Nat := setBits page (64 * 8 * s + 65) (64 * 8 * s + 64) v

/-- CFG takes the UID from the trim copies (R974). -/
def Chip.loadTrim (c : Chip) : Chip :=
  let uid (c : Chip) (v : Nat) : Chip := (c.put Id.UID_LO (v % 2 ^ 32)).put Id.UID_HI (v / 2 ^ 32)
  let c := c.cellRead 0x221000 8192
  if c.copyValid 0x221000 4096 then uid c (c.cellsAt 0x221000 8)
  else if c.copyValid 0x222000 4096 then uid c (c.cellsAt 0x222000 8)
  else uid c 0

/-! ### The register interface and the window -/

/-- Bank of a physical page (R788). -/
def bankOf (page : Nat) : Nat := page / 1024

/-- A pulse is in progress in the bank that holds a page which no buffer serves (R796). -/
def Chip.bankBusy (c : Chip) (page : Nat) : Bool :=
  match c.nvc.cur with
  | none => false
  | some x => (c.nvBuf page).isNone && bankOf (c.nvTarget x) == bankOf (c.physPage page)

/-- A read of `n` words of the cell window (R795, R796): status and data. -/
def Chip.nvWindow (c : Chip) (a n : Nat) : Nat × List Word × Chip :=
  if c.bankBusy (a / 256 % 16384) then (13, [], c)
  else
    let bad := c.cellBad a (4 * n)
    (if bad then 9 else 0, if bad then [] else (List.range n).map (fun i => BitVec.ofNat 32 (c.cellsAt (a + 4 * i) 4)), c.cellRead a (4 * n))

/-- A write of CMD (R793, R799, R800): status. Rights are judged before BUSY (R970); a CMD refused while BUSY leaves DONE
and RESULT to the write in progress (DEDUCED). -/
def Chip.nvCmd (c : Chip) (priv : Bool) (tenant w : Nat) : Nat × Chip :=
  let page := w % 2 ^ 14
  let part := partitionOf page
  let may := (priv && (part ≤ 2 || part == 5)) || (part == 5 && bit (c.f Nvc.USER_WR) tenant)
  if !may || c.activePage page then (11, if c.b Nvc.BUSY then c else (c.hwSet Nvc.DONE 1).put Nvc.RESULT 3)
  else if c.b Nvc.BUSY then (13, c)
  else if bits w 31 28 ≠ 1 then (0, c)
  else if !c.nvRoom then (13, c)
  else (0, (c.putB Nvc.BUSY true).nvEnqueue
    { page := page, data := ofWords ((List.range 64).map (fun i => c.reg ((Nvc.PBUF_word_i i).addr))), origin := .regs })

/-- A PRIV write to KEYCMD (R825): status. -/
def Chip.keyCmd (c : Chip) (slot : Nat) : Nat × Chip :=
  if !c.b Img.OPEN || c.b Power.SEALED || slot = 3 || c.keyState slot ≠ 0 then (11, c)
  else
    let hash := ofWords ((List.range 12).map (fun i => c.reg (Img.KEYHASHi i).addr))
    (0, c.writeKeys (setBits (setKeyState c.keyPage slot 1) (8 * (24 + 64 * slot) + 383) (8 * (24 + 64 * slot)) hash))

end Sys2Proof.Machine
end

