-- ==== Sys2Proof/Machine/Count.lean ====
section
/-! DEFINITION. The counter bank of a network interface (R746, R747). -/

namespace Sys2Proof.Machine

open Reg

/-- The 48-bit value of counter `j` of node `n`. -/
def Chip.cnt (c : Chip) (n j : Nat) : Nat := c.f (Bank.CNTk_LO n j) + c.f (Bank.CNTk_HI n j) * 2 ^ 32

/-- Store the value of a counter. -/
def Chip.setCnt (c : Chip) (n j v : Nat) : Chip :=
  (c.put (Bank.CNTk_LO n j) (v % 2 ^ 32)).put (Bank.CNTk_HI n j) (v / 2 ^ 32 % 2 ^ 16)

/-- Counter `j` of node `n` counts `k`: past 2^48 − 1 it goes on from 0, sets OVF and posts CNT_OVF (R747). In the beat of a BANK.CLR it
stays at 0 (R781). -/
def Chip.cntAdd (c : Chip) (n j k : Nat) : Chip :=
  let v := c.cnt n j + k
  let was := c
  let c := c.setCnt n j (v % 2 ^ 48)
  if (c.ni n).clr = c.clock + 1 then was
  else if v < 2 ^ 48 then c
  else
    let c := c.hwSet (Bank.CFGk_OVF n j) 1
    if c.b (Bank.CFGk_EVT n j) then c.post n 0 2 [(8, n), (8, j)] else c

/-- Counter `j` runs and has selection `sel`. -/
def Chip.cntSel (c : Chip) (n j sel : Nat) : Bool :=
  c.b (Bank.CFGk_EN n j) && !c.b (Bank.BANK_FREEZE n) && c.f (Bank.CFGk_SEL n j) == sel

/-- Something that selection `sel` counts happens `k` times at node `n`. -/
def Chip.cntHit (c : Chip) (n sel k : Nat) : Chip :=
  forN 4 (fun j c => if c.cntSel n j sel then c.cntAdd n j k else c) c

/-- The same for a selection that names a virtual channel. -/
def Chip.cntVc (c : Chip) (n sel vc k : Nat) : Chip :=
  forN 4 (fun j c => if c.cntSel n j sel && c.f (Bank.CFGk_VC n j) == vc then c.cntAdd n j k else c) c

end Sys2Proof.Machine
end

