-- ==== Sys2Proof/Machine/Flit.lean ====
section
/-! DEFINITION. Bits of the Lattice and of the Diptych lanes: the header (R229, R309), the control bits of a flit (R223), and the
blocks and frames that carry packets between twins (R638–R641). -/

namespace Sys2Proof.Machine

/-! ### Headers and flits -/

/-- The 128 bits of a header flit on VC1–VC3 (R229 **Header**); the reserved bits [127:107] are written 0. -/
def Hdr.word (h : Hdr) : Nat :=
  h.route % 2 ^ 36 + h.vc % 4 * 2 ^ 36 + h.prio % 4 * 2 ^ 38 + h.typ % 16 * 2 ^ 40 + h.src % 128 * 2 ^ 44 + h.dst % 128 * 2 ^ 51
    + h.tag % 64 * 2 ^ 58 + h.gen % 4 * 2 ^ 64 + h.tenant % 8 * 2 ^ 66 + h.len % 16 * 2 ^ 69 + h.offset % 2 ^ 25 * 2 ^ 73
    + h.status % 16 * 2 ^ 98 + h.be % 16 * 2 ^ 102 + b2n h.priv * 2 ^ 106

/-- The header that 128 bits spell; the reserved bits are ignored (R229). -/
def hdrOf (w : Nat) : Hdr :=
  { route := bits w 35 0, vc := bits w 37 36, prio := bits w 39 38, typ := bits w 43 40, src := bits w 50 44, dst := bits w 57 51,
    tag := bits w 63 58, gen := bits w 65 64, tenant := bits w 68 66, len := bits w 72 69, offset := bits w 97 73,
    status := bits w 101 98, be := bits w 105 102, priv := bit w 106 }

/-- The 128 data bits of a flit (R223, R229, R231): a header, which on VC0 carries CHAN in [63:58] and DATA[63:0] above (R309), or
four words. -/
def Flit.data (f : Flit) : Nat :=
  if f.head then (if f.vc = 0 then f.hdr.word % 2 ^ 64 + ofWords (f.words.take 2) * 2 ^ 64 else f.hdr.word)
  else ofWords (f.words.take 4)

/-- Control bits [15:9] of a flit, from bit 0 (R223). -/
def Flit.marks (f : Flit) : Nat := f.vc % 4 + b2n f.head * 2 ^ 2 + b2n f.tail * 2 ^ 3 + b2n f.poison * 2 ^ 4 + b2n f.corr * 2 ^ 5

/-- The 16 control bits of a flit (R223): the check bits are those of a code that the spec does not give. -/
def Flit.control (f : Flit) : Nat :=
  (Config.flitEcc (BitVec.ofNat 128 f.data) (BitVec.ofNat 7 f.marks)).toNat + f.marks * 2 ^ 9

/-! ### Frames -/

/-- The blocks of one frame in order: lane 0 has the first, and they alternate from there (R639). -/
def Lanes.blocks (l : Lanes) : List Block :=
  (List.range (l.lane0.length + l.lane1.length)).filterMap (fun i => if i % 2 = 0 then l.lane0[i / 2]? else l.lane1[i / 2]?)

/-- The lanes that carry the blocks of one frame (R639). -/
def stripe (bs : List Block) : Lanes :=
  { lane0 := (List.range ((bs.length + 1) / 2)).filterMap (fun i => bs[2 * i]?),
    lane1 := (List.range (bs.length / 2)).filterMap (fun i => bs[2 * i + 1]?) }

/-- A frame as its header block and data blocks say it (R640), and whether it is whole and its FCRC good. -/
structure Frame where
  ftype : Nat := 0
  fseq : Nat := 0
  ackseq : Nat := 0
  tspec : Nat := 0
  data : List Nat := []
  good : Bool := false
  deriving DecidableEq, Repr

/-- FCRC: CRC-32 over the header's bits [31:0] and the payloads of the data blocks (R640). -/
def frameCrc (head : Nat) (data : List Nat) : Nat :=
  crc32 ((List.range 4).map (fun i => head / 256 ^ i % 256) ++ data.flatMap (fun d => (List.range 8).map (fun i => d / 256 ^ i % 256)))

/-- The frame that the receiver makes of the lanes: it absorbs a skew of up to 64 blocks, and a frame begins with a header block
(R639, R640). -/
def Lanes.frame (l : Lanes) : Option Frame :=
  if 64 < l.skew.toNat then none
  else match l.blocks with
    | [] => none
    | h :: ds =>
      let w := h.data.toNat
      let data := ds.map (fun b => b.data.toNat)
      if h.sync = 2 then
        some { ftype := bits w 3 0, fseq := bits w 15 8, ackseq := bits w 23 16, tspec := bits w 31 24, data := data,
               good := ds.length == bits w 7 4 && ds.all (fun b => b.sync == 1) && bits w 63 32 == frameCrc (w % 2 ^ 32) data }
      else none

/-- The blocks of a frame (R640). -/
def Frame.toBlocks (f : Frame) : List Block :=
  let head := f.ftype % 16 + f.data.length % 16 * 2 ^ 4 + f.fseq % 256 * 2 ^ 8 + f.ackseq % 256 * 2 ^ 16 + f.tspec % 256 * 2 ^ 24
  { sync := 2, data := BitVec.ofNat 64 (head + frameCrc head f.data * 2 ^ 32) }
    :: f.data.map (fun d => { sync := 1, data := BitVec.ofNat 64 d })

/-- 64-bit words of a packet's flits: data [63:0], then [127:64], flit by flit (R641). -/
def Pkt.frameData (p : Pkt) : List Nat :=
  [p.hdr.word % 2 ^ 64, p.hdr.word / 2 ^ 64] ++ (List.range ((p.words.length + 3) / 4)).flatMap (fun k =>
    let x := ofWords ((p.words.drop (4 * k)).take 4)
    [x % 2 ^ 64, x / 2 ^ 64])

/-- A packet as a LATTICE frame (R641). -/
def Pkt.toFrame (p : Pkt) (fseq ackseq : Nat) : Frame :=
  { ftype := 2, fseq := fseq, ackseq := ackseq, tspec := p.hdr.vc % 4 + p.marks.toNat * 2 ^ 2 + b2n p.corr * 2 ^ 7, data := p.frameData,
    good := true }

/-- The packet of a LATTICE frame (R641): HEAD on flit 0 and TAIL on the last are implied. -/
def Frame.pkt (f : Frame) : Pkt :=
  { hdr := { hdrOf (natAt f.data 0 + natAt f.data 1 * 2 ^ 64) with vc := bits f.tspec 1 0 },
    words := (f.data.drop 2).flatMap (toWords 2), marks := BitVec.ofNat 5 (bits f.tspec 6 2), corr := bit f.tspec 7 }

end Sys2Proof.Machine
end

