-- ==== Sys2Proof/Machine/Link.lean ====
section
/-! DEFINITION. The sending side of the Diptych link: the replay buffer and the packets that leave for the twin (R267,
R269, R644, R646). -/

namespace Sys2Proof.Machine

open Reg

/-- The link is UP (R642). -/
def Chip.linkUp (c : Chip) : Bool := c.f Dip.LINK == 2

/-- The next frame to send: LATTICE and STATE alternate while both wait (R646). -/
def TwinH.next (x : TwinH) : Option (TwFrame × TwinH) :=
  match x.txL, x.txS with
  | [], [] => none
  | p :: ps, [] => some (.lattice p, { x with txL := ps, lastL := true })
  | [], f :: fs => some (f, { x with txS := fs, lastL := false })
  | p :: ps, f :: fs =>
    if x.lastL then some (f, { x with txS := fs, lastL := false }) else some (.lattice p, { x with txL := ps, lastL := true })

/-- Send waiting frames while fewer than 64 are held (R644 rule 1). -/
def TwinH.pump (beat : Nat) : Nat → TwinH → TwinH
  | 0, x => x
  | k + 1, x =>
    if x.held.length < 64 then
      match x.next with
      | none => x
      | some (f, y) =>
        TwinH.pump beat k { y with held := y.held ++ [{ fseq := y.fseq, frame := f, first := beat, last := beat }],
                                   fseq := (y.fseq + 1) % 256,
                                   sending := y.sending && (match f with | .fin _ _ => false | _ => true) }
    else x

/-- Send what can be sent. -/
def Chip.linkPump (c : Chip) : Chip :=
  if c.linkUp then { c with tw := c.tw.pump c.clock (c.tw.txL.length + c.tw.txS.length) } else c

/-- A node of the twin (R267). -/
def twinNode (d : Nat) : Bool := decide (64 ≤ d) && decide (d ≤ 112)

/-- DIP takes a packet for the twin (R267): across the link, or, while the link is not UP, a request is answered
LINK_DOWN and any other packet discarded and counted (R269). `rsp` is the type of a request's response. -/
def Chip.tunnelOut (c : Chip) (vc rsp : Nat) (p : Pkt) : Chip :=
  if c.linkUp then { c with tw.txL := c.tw.txL ++ [p] }.linkPump
  else if vc = 2 then c.respond 6 { hdr := rspHdr p.hdr rsp 10 }
  else c.dropErr 6 p.hdr p.hdr.dst

end Sys2Proof.Machine
end

