-- ==== Sys2Proof/Machine/Landing.lean ====
section
/-! DEFINITION. Easel tiles: registers, system registers and what lands later (R376–R392, R400, R418, R449). -/

namespace Sys2Proof.Machine

open Reg

/-! ### Registers -/

/-- Register n of a tile: g0–g31 of 32 bits at 0–31, a0–a3 of 64 bits at 32–35; g0 reads 0 (R376). -/
def Tile.reg (x : Tile) (n : Nat) : Nat := if n = 0 then 0 else mget 0 x.x n % 2 ^ (if n < 32 then 32 else 64)

/-- Write a register; a write to g0 is discarded (R376). -/
def Tile.setReg (x : Tile) (n v : Nat) : Tile := if n = 0 then x else { x with x := mset 0 x.x n v }

/-- Bytes of a tile's IMEM and DMEM (R366). -/
def imemSize (t : Nat) : Nat := if isP t then 65536 else 16384
@[inherit_doc imemSize] def dmemSize (t : Nat) : Nat := if isP t then 131072 else 32768

/-- Global address of a local IMEM or DMEM byte (R370). -/
def imemAddr (t a : Nat) : Nat := nodeBase (tileNode t) + a
@[inherit_doc imemAddr] def dmemAddr (t a : Nat) : Nat := nodeBase (tileNode t) + 0x100000 + a

/-- The mode of a tile (R386): 0 SCHED, 1 SUPER, 2 USER. -/
def Tile.mode (x : Tile) (t : Nat) : Nat := if isP t then (if x.user then 2 else 1) else 0

/-! ### System registers -/

/-- Lines of the interrupt controller that are edge lines (R399). -/
def edgeLines : Nat := 0xFFFF051B

/-- The value of a system register as SUPER and SCHED mode read it; none for a number not listed (R391, R495). `ipend`
is IPEND with its level lines. -/
def Chip.sysRead (c : Chip) (t : Nat) (x : Tile) (ipend sr : Nat) : Option Nat :=
  let p := isP t
  let onlyP (v : Nat) : Option Nat := some (if p then v else 0)
  let onlyE (v : Nat) : Option Nat := some (if p then 0 else v)
  if sr = 0 then some (tileNode t + b2n p * 2 ^ 8)
  else if sr = 1 then
    let m := x.mode t * 2 ^ 6
    some (if p then b2n x.ie + 2 * b2n x.pie + 4 * b2n x.exl + x.pmode * 2 ^ 4 + m + x.pld * 2 ^ 8 else m)
  else if sr = 2 then onlyP x.epc
  else if sr = 3 then onlyP x.ecause
  else if sr = 4 then onlyP x.eval
  else if sr = 5 then onlyP x.vbase
  else if sr = 6 then onlyP x.scratch0
  else if sr = 7 then onlyP x.scratch1
  else if sr = 8 then some (b2n x.sat)
  else if sr = 0x10 then some x.ldepth
  else if sr = 0x11 then some x.lc0
  else if sr = 0x12 then some x.ls0
  else if sr = 0x13 then some x.le0
  else if sr = 0x14 then some x.lc1
  else if sr = 0x15 then some x.ls1
  else if sr = 0x16 then some x.le1
  else if sr = 0x20 then some (c.beat % 2 ^ 32)
  else if sr = 0x21 then some (c.beat / 2 ^ 32 % 65536)
  else if sr = 0x22 then onlyE (c.f Plane.PBEAT)
  else if sr = 0x23 then onlyE (c.f Plane.ROUND)
  else if sr = 0x30 then onlyE (c.reg (Dq.base (tileNode t))).toNat
  else if sr = 0x40 then onlyP x.ienab
  else if sr = 0x41 then onlyP ipend
  else if sr = 0x42 then onlyP 0
  else if sr = 0x43 then onlyP x.ipriolo
  else if sr = 0x44 then onlyP x.ipriohi
  else if sr = 0x50 then onlyP x.cnt0
  else if sr = 0x51 then onlyP x.rld0
  else if sr = 0x52 then onlyP x.cnt1
  else if sr = 0x53 then onlyP x.rld1
  else if sr = 0x54 then onlyP x.tmren
  else if 0x80 ≤ sr ∧ sr < 0x90 then onlyP (mget 0 x.prot (sr - 0x80))
  else none

/-- System registers with a field marked "U: read" (R391). -/
def userRead (sr : Nat) : Bool := sr == 0 || sr == 1 || sr == 8 || (decide (0x10 ≤ sr) && decide (sr ≤ 0x16)) || sr == 0x20 || sr == 0x21

/-- The effect of an MTS when it falls due (R392, R494). -/
def Tile.sysWrite (x : Tile) (t sr v : Nat) : Tile :=
  let p := isP t
  if sr = 8 then { x with sat := bit v 0 }
  else if sr = 0x10 then (if v % 4 = 3 then x else { x with ldepth := v % 4 })
  else if sr = 0x11 then { x with lc0 := v }
  else if sr = 0x12 then { x with ls0 := v % 65536 }
  else if sr = 0x13 then { x with le0 := v % 65536 }
  else if sr = 0x14 then { x with lc1 := v }
  else if sr = 0x15 then { x with ls1 := v % 65536 }
  else if sr = 0x16 then { x with le1 := v % 65536 }
  else if !p then x
  else if sr = 1 then { x with ie := bit v 0, pie := bit v 1, exl := bit v 2, pld := bits v 9 8,
                               pmode := if bits v 5 4 = 3 then x.pmode else bits v 5 4 }
  else if sr = 2 then { x with epc := v % 65536 }
  else if sr = 3 then { x with ecause := v % 256 }
  else if sr = 4 then { x with eval := v }
  else if sr = 5 then { x with vbase := bits v 15 7 * 128 }
  else if sr = 6 then { x with scratch0 := v }
  else if sr = 7 then { x with scratch1 := v }
  else if sr = 0x40 then { x with ienab := v }
  else if sr = 0x41 then { x with ipend := x.ipend - (x.ipend &&& v) }
  else if sr = 0x42 then { x with ipend := x.ipend ||| (v &&& edgeLines) }
  else if sr = 0x43 then { x with ipriolo := v }
  else if sr = 0x44 then { x with ipriohi := v }
  else if sr = 0x50 then { x with cnt0 := v }
  else if sr = 0x51 then { x with rld0 := v }
  else if sr = 0x52 then { x with cnt1 := v }
  else if sr = 0x53 then { x with rld1 := v }
  else if sr = 0x54 then { x with tmren := v % 4 }
  else if 0x80 ≤ sr ∧ sr < 0x90 then
    let k := sr - 0x80
    let w := if k % 2 = 0 then
        (v % 2) + (if bits v 2 1 = 3 then bits (mget 0 x.prot k) 2 1 else bits v 2 1) * 2 + bits v 31 6 * 64
      else v % 64 + bits v 31 6 * 64
    { x with prot := mset 0 x.prot k w }
  else x

/-! ### Landing -/

/-- Insert by landing beat, an MTS before the others of its beat (R449). -/
def insertPend (p : Pend) : List Pend → List Pend
  | [] => [p]
  | q :: qs => if pendKey p < pendKey q then p :: q :: qs else q :: insertPend p qs
where
  pendKey (p : Pend) : Nat := 2 * p.land + (match p.what with | .mts _ _ => 0 | _ => 1)

/-- An MTS to DQSTAT at an E tile clears the W1C bits that it writes 1 to, but for those set in the same beat (R21, R334, R391). -/
def Chip.dqstatWrite (c : Chip) (t sr v : Nat) : Chip :=
  if sr = 0x30 && !isP t then
    let a := Dq.base (tileNode t)
    let w1c := 2 ^ (Dq.EMPTY_POP (tileNode t)).lo + 2 ^ (Dq.FULL_PUSH (tileNode t)).lo + 2 ^ (Dq.CMD_ERR (tileNode t)).lo
    c.setReg a (c.reg a &&& ~~~(BitVec.ofNat 32 (v &&& w1c) &&& ~~~(BitVec.ofNat 32 (mget 0 c.hwBits a))))
  else c

/-- One result lands in tile `t`. -/
def Chip.landOne (c : Chip) (t : Nat) (p : Pend) : Chip :=
  match p.what with
  | .reg n v => c.setTile t ((c.tile t).setReg n v)
  | .sat => c.setTile t { c.tile t with sat := true }
  | .mts sr v => (c.setTile t ((c.tile t).sysWrite t sr v)).dqstatWrite t sr v
  | .store a bs => (c.setBytes (dmemAddr t a) bs).setEcc (dmemAddr t a) 0

/-- Everything due in tile `t` by beat `now` lands (R379, R392, R446). -/
def Chip.settle (c : Chip) (t now : Nat) : Chip :=
  let x := c.tile t
  let due := (x.pend.filter (fun p => decide (p.land ≤ now))).foldl (fun l p => insertPend p l) []
  let c := c.setTile t { x with pend := x.pend.filter (fun p => !decide (p.land ≤ now)) }
  due.foldl (fun c p => c.landOne t p) c

/-- The beat count a tile runs by (R384). -/
def Chip.now (c : Chip) (t : Nat) : Nat := if isP t then c.clock else c.pl.abs

/-- A tile as another unit sees it now. -/
def Chip.settled (c : Chip) (t : Nat) : Chip := c.settle t (c.now t)

/-- An edge line's IPEND bit is set; an MTS that clears it in an earlier beat, or in this one, comes first (R400, R418). -/
def Chip.raiseLine (c : Chip) (t m : Nat) : Chip :=
  let c := c.settled t
  c.setTile t { c.tile t with ipend := (c.tile t).ipend ||| m }

end Sys2Proof.Machine
end

