-- ==== Sys2Proof/Machine/Rails.lean ====
section
/-! DEFINITION. Rails, Phases and Sensing: phase slots and on-time, targets and thresholds, the slew engine, the
budget clamp, the protections, the fallback law, and the effects of the commands about them. -/

namespace Sys2Proof.Machine

open Reg

/-! ### Phases and rails -/

/-- Levels of a PWM ball, as PSTAT.LEVEL (R81). -/
def lvlLow : Nat := 0
@[inherit_doc lvlLow] def lvlHigh : Nat := 1
@[inherit_doc lvlLow] def lvlMid : Nat := 2

/-- Phase `p` is mapped to rail `r` (ACTIVE or PARKED), and is not on its way between rails (R84, R36). -/
def Chip.isMapped (c : Chip) (r p : Nat) : Bool :=
  c.f (Phase.RAIL p) == r && c.f (Phase.STATE p) != 0 && (c.phase p).leave == 0

/-- The phase counts in its rail's N or M: not latched off by over-current (R121 rank 1, R145). -/
def Chip.counts (c : Chip) (r p : Nat) : Bool := c.isMapped r p && !c.b (Phase.OC_LATCHED p)

/-- The mapped phases of a rail in ascending index. -/
def Chip.mapped (c : Chip) (r : Nat) : List Nat := (List.range 96).filter (c.isMapped r)

/-- The phases that count in M, and those that count in N (R85). -/
def Chip.slotted (c : Chip) (r : Nat) : List Nat := (List.range 96).filter (c.counts r)
@[inherit_doc Chip.slotted] def Chip.actives (c : Chip) (r : Nat) : List Nat :=
  (c.slotted r).filter (fun p => c.f (Phase.STATE p) == 2)

/-- PER within its range (R83, R983). -/
def perOf (n : Nat) : Nat := clampN 8534 102400 n

/-- A rail is enabled: EN is set, and neither STANDBY nor DEEP entry holds it off (R901, R904). -/
def Chip.enabled (c : Chip) (r : Nat) : Bool := c.b (Rail.EN r) && !(c.rail r).off

/-- A rail is live for protection (R988): enabled, or in the ramp of R109. -/
def Chip.live (c : Chip) (r : Nat) : Bool := c.enabled r || (c.rail r).ramping

/-- The rail's phases are held at MID: disabled after R109, or latched off (R121 rank 6). -/
def Chip.railOff (c : Chip) (r : Nat) : Bool := !c.live r || c.b (Rail.OFF_LATCHED r)

/-- The effective ceiling of a rail (R35, R116, R120). -/
def Chip.effCeil (c : Chip) (r : Nat) : Nat :=
  let m := min (c.f (Rail.IOUT_MAX r)) (min (c.f (Rail.ICEIL r)) (c.f (Rail.CLAMP r)))
  if (c.rail r).ceilLine then min m (c.f (Rail.GCEIL r)) else m

/-- The rail's current is at its effective ceiling (R116). -/
def Chip.atCeil (c : Chip) (r : Nat) : Bool := decide ((c.effCeil r : Int) ≤ c.fi (Rail.IRAIL r))

/-- The load-lined target of R97, in 0.5 mV. -/
def Chip.target (c : Chip) (r : Nat) : Int :=
  max 0 ((c.f (Rail.VNOW r) : Int) - max 0 (c.fi (Rail.IRAIL r)) * c.f (Rail.LOADLINE r) / 8000)

/-- The trip threshold of a phase, a comparator code (R122). -/
def Chip.tripCode (c : Chip) (p : Nat) : Nat :=
  let g := c.f (Sense.IGAIN p)
  if g = 0 then 4095
  else min 4095 (c.f (Sense.IOFS p) + min (c.f (Sense.IPH_TRIP p)) (c.f (Sense.IPH_MAX p)) * 16384 / g)

/-- An IMON code is above the phase's trip threshold; the threshold 4,095 is met at the top of the input range (R121 rank 7,
R122). -/
def Chip.overTrip (c : Chip) (p code : Nat) : Bool := decide (c.tripCode p < code) || code == 4095

/-- The conversion of an IMON code (R93), in 1/16 A. -/
def Chip.iph (c : Chip) (p code : Nat) : Int :=
  ((code : Int) - c.f (Sense.IOFS p)) * c.f (Sense.IGAIN p) / 16384

/-- ton of a duty TON on the rail's parameters (R87); 0: no on-edge. -/
def tonOf (q : RailParams) (ton : Nat) : Nat :=
  if ton = 0 then 0
  else if ton < q.tonMin then q.tonMin
  else if (q.per : Int) - q.toffMin < ton then q.per - q.toffMin
  else ton

/-- Does this part drive its PWM balls (R41, R637, R955)? -/
def Chip.driving (c : Chip) : Bool := c.b Dip.OWN_OUT && !c.driveOff && !c.pw.vio33Low

/-- Set the level of one phase. -/
def Chip.level (c : Chip) (p l : Nat) : Chip := c.put (Phase.LEVEL p) l

/-- Set the level of every mapped phase of a rail, latched phases staying at MID (R121: the lower rank decides). -/
def Chip.railLevel (c : Chip) (r l : Nat) : Chip :=
  forL (c.mapped r) (fun p c => if c.b (Phase.OC_LATCHED p) then c else c.level p l) c

/-- The level of a phase that does not switch: MID when latched off by over-current (R121 rank 1), else LOW while a crowbar
is in force on its rail (rank 2), else MID. -/
def Chip.restLevel (c : Chip) (p : Nat) : Nat :=
  if c.b (Phase.OC_LATCHED p) then lvlMid
  else if (c.phase p).leave = 3 ∨ ((c.phase p).leave = 0 ∧ c.f (Phase.STATE p) ≠ 0 ∧ c.b (Rail.OV_ACTIVE (c.f (Phase.RAIL p)))) then lvlLow
  else lvlMid

/-- The phase stops switching (R84, R121): its forced period, if it is in one, ends. -/
def Chip.rest (c : Chip) (p : Nat) : Chip :=
  (c.setPhase p { c.phase p with forcedPeriod := false, replaced := false }).level p (c.restLevel p)

/-- Every mapped phase of the rail stops switching. -/
def Chip.railRest (c : Chip) (r : Nat) : Chip := forL (c.mapped r) (fun p c => c.rest p) c

/-! ### PHASE_FORCE -/

/-- PHASE_FORCE is in effect on a phase: its line is asserted, the phase is mapped and not latched off, and its rail is
enabled, not latched off, and under no crowbar (R90, R136 FORCED, R146). -/
def Chip.inForce (c : Chip) (p : Nat) : Bool :=
  let r := c.f (Phase.RAIL p)
  (c.phase p).force && c.isMapped r p && !c.b (Phase.OC_LATCHED p) && c.enabled r && !c.b (Rail.OFF_LATCHED r) && !c.b (Rail.OV_ACTIVE r)

/-- PSTAT.FORCED of a phase (R136). -/
def Chip.syncForced (c : Chip) (p : Nat) : Chip := c.putB (Phase.FORCED p) (c.inForce p)

/-- PSTAT.FORCED of every phase whose map names rail `r`, after a change of the rail. -/
def Chip.syncRail (c : Chip) (r : Nat) : Chip := forN 96 (fun p c => if c.f (Phase.RAIL p) = r then c.syncForced p else c) c

/-! ### Droop thresholds -/

/-- Threshold of comparator `k` before limits, in 2 mV steps (R98). -/
def Chip.thrRaw (c : Chip) (r k : Nat) : Int :=
  let t := c.target r
  let o : Int := c.f ⟨(Rail.OFS0 r).addr, 8 * k + 6, 8 * k⟩
  if c.b ⟨(Rail.OFS0 r).addr, 8 * k + 7, 8 * k + 7⟩ then (t + 4 * o + 3) / 4 else (t - 4 * o) / 4

/-- POLk of a comparator: true for OVER. -/
def Chip.polOver (c : Chip) (r k : Nat) : Bool := c.b ⟨(Rail.OFS0 r).addr, 8 * k + 7, 8 * k + 7⟩

/-- Comparator output of the rail's STATUS.DROOP. -/
def Chip.droopBit (c : Chip) (r k : Nat) : Bool := bit (c.f (Rail.DROOP r)) k

/-- The event wire of a comparator and its STATUS bit (R102). -/
def Chip.setDroop (c : Chip) (r k : Nat) (v : Bool) : Chip :=
  c.put (Rail.DROOP r) (setBits (c.f (Rail.DROOP r)) k k (b2n v))

/-- An UNDER comparator of the rail is asserted (R764). -/
def Chip.anyUnder (c : Chip) (r : Nat) : Bool :=
  (List.range 4).any (fun k => c.droopBit r k && !c.polOver r k)

/-- A droop episode ends when no UNDER comparator is asserted: its depth waits for SKB (R764). -/
def Chip.episodeEnd (c : Chip) (r : Nat) : Chip :=
  let e := mget 0 c.skb.episode r
  if e ≠ 0 && !c.anyUnder r then
    { c with skb.episode := mset 0 c.skb.episode r 0, skb.least := mset 0 c.skb.least r 0,
             skb.done := mset 0 c.skb.done r (e - 1 - mget 0 c.skb.least r + 1) }
  else c

/-- Update one comparator's DAC (R98–R100). -/
def Chip.updComp (c : Chip) (r k : Nat) : Chip :=
  let x := c.thrRaw r k
  let h := c.comp r k
  let held := if c.polOver r k then decide (1023 < x) else decide (x ≤ 0)
  let c := c.setComp r k { h with dac := (clampI 0 1023 x).toNat, held := held }
  if held && c.droopBit r k then (c.setDroop r k false).episodeEnd r else c

/-- Update the four DACs of a rail (R100). -/
def Chip.updDroop (c : Chip) (r : Nat) : Chip := forN 4 (fun k c => c.updComp r k) c

/-! ### The slew engine -/

/-- Begin driving an active rail once VNOW exceeds its sensed voltage (R91). -/
def Chip.prebiasEnd (c : Chip) (r : Nat) : Chip :=
  let h := c.rail r
  if h.prebias && decide (c.f (Rail.VSENSE r) < 2 * c.f (Rail.VNOW r)) then c.setRail r { h with prebias := false } else c

/-- Where the slew engine is going: 0 under R109, else VSET. -/
def Chip.slewTo (c : Chip) (r : Nat) : Nat := if (c.rail r).toZero then 0 else c.f (Rail.VSET r)

/-- The rate of R106 and R107, in mV/µs. -/
def Chip.slewRate (c : Chip) (r : Nat) : Nat :=
  let mx := max 1 (c.f (Rail.SLEW_MAX r))
  let x := if c.f (Rail.VNOW r) < c.slewTo r then c.f (Rail.RATE_UP r) else c.f (Rail.RATE_DN r)
  min (if x = 0 then mx else x) mx

/-- VNOW moves `n` steps towards its end, and what follows from a slew step: the blanking of R126, the DACs (R100),
the start of R91. -/
def Chip.slewStep (c : Chip) (r n : Nat) : Chip :=
  let v := c.f (Rail.VNOW r)
  let t := c.slewTo r
  let v' := if v < t then min t (v + n) else max t (v - n)
  let h := c.rail r
  (((c.put (Rail.VNOW r) v').setRail r
    { h with slewing := decide (v' ≠ t), toZero := h.toZero && decide (v' ≠ 0), uvBlank := h.uvBlank || decide (v < t) }).updDroop
      r).prebiasEnd r

/-- The engine starts: on any change of VSET (R106, R141), at a rail start (R108), at R109. -/
def Chip.slewStart (c : Chip) (r : Nat) : Chip :=
  let c := c.setRail r { c.rail r with acc := 0, slewing := false }
  if c.f (Rail.VNOW r) ≠ c.slewTo r then c.slewStep r 1 else c

/-- VSET has changed (R106, R141). DESIGN CHOICE (notes/assumptions/103.md): while R109 moves VNOW to 0 the engine keeps on. -/
def Chip.vsetChanged (c : Chip) (r : Nat) : Chip := if (c.rail r).toZero then c else c.slewStart r

/-- One 50 ns tick of the engine (R106). -/
def Chip.slewTick (c : Chip) (r : Nat) : Chip :=
  let h := c.rail r
  if h.slewing then
    let a := h.acc + c.slewRate r
    (c.setRail r { h with acc := a % 10 }).slewStep r (a / 10)
  else c

/-! ### The budget clamp -/

/-- The effective budget. -/
def Chip.budget (c : Chip) : Nat := min (c.f Board.BUDGET) (c.f Board.BUDGET_MAX)

/-- The weighted bus current of R118. -/
def Chip.busCurrent (c : Chip) : Nat :=
  sumN 16 (fun r => c.f (Rail.BWEIGHT r) * (c.fi (Rail.IRAIL r)).toNat / 65536)

/-- A rail that takes part in the allocation (R118, R149). -/
def Chip.shareLive (c : Chip) (r : Nat) : Bool :=
  c.b (Rail.EN r) && !c.b (Rail.OFF_LATCHED r) && !(c.mapped r).isEmpty

/-- Set the clamp ceiling of a rail and STATUS.CLAMPED. -/
def Chip.setClamp (c : Chip) (r v : Nat) : Chip :=
  (c.put (Rail.CLAMP r) v).putB (Rail.CLAMPED r) (decide (v < 0xFFFF))

/-- allocate() of R118. -/
def Chip.allocate (c : Chip) : Chip :=
  let sum := sumN 16 (fun r => if c.shareLive r then max 1 (c.f (Rail.SHARE r)) else 0)
  forN 16 (fun r d =>
    let w := c.f (Rail.BWEIGHT r)
    if !c.shareLive r || w == 0 then d.setClamp r 0xFFFF
    else d.setClamp r (min 0xFFFF (c.budget * max 1 (c.f (Rail.SHARE r)) * 65536 / (sum * w)))) c

/-- allocate() again while the clamp is in force (R119). -/
def Chip.realloc (c : Chip) : Chip := if c.b Board.CLAMPED then c.allocate else c

/-- The budget clamp, once per IMON sample (R118), and the count of R991. -/
def Chip.budgetStep (c : Chip) : Chip :=
  let ib := c.busCurrent
  let b := c.budget
  let c := c.put Board.IBUS ib
  let high := decide (b < ib)
  let c :=
    if !c.b Board.CLAMPED && high && c.rl.over1 then
      ({ c.putB Board.CLAMPED true with rl.below := 0, rl.overCnt := 0, rl.overrun := false }).allocate.post 18 1 11
        [(16, ib), (16, b)]
    else if c.b Board.CLAMPED then
      let n := if decide ((ib : Int) ≤ (b : Int) - c.f Board.HYST) then c.rl.below + 1 else 0
      let c := { c with rl.overCnt := if high then c.rl.overCnt + 1 else 0 }
      if 64 ≤ n then
        (forN 16 (fun r (d : Chip) => d.setClamp r 0xFFFF)
          { c.putB Board.CLAMPED false with rl.below := 0, rl.overCnt := 0, rl.overrun := false }).post 18 1 12
          [(16, ib), (16, b)]
      else { c with rl.below := n }
    else c
  { c with rl.over1 := high }

/-! ### Starting, stopping and latching a rail -/

/-- A TMON that protects rail `r` has read TSHUT or above on two consecutive conversions (R121 rank 4). -/
def Chip.railHot (c : Chip) (r : Nat) : Bool :=
  (List.range 32).any (fun t => c.b (Tmon.EN t) && c.f (Tmon.RAIL t) == r && (c.tmonH t).hot == 2)

/-- The cause of a rank 3 or rank 4 latch holds for the rail (R988). -/
def Chip.causeHeld (c : Chip) (r : Nat) : Bool := c.rl.busLow == 2 || c.railHot r

/-- A rail start (R108, R91): its phases are at MID until VNOW exceeds VSENSE. -/
def Chip.railStart (c : Chip) (r : Nat) : Chip :=
  let c := c.put (Rail.VNOW r) (c.f (Rail.VSENSE r) / 2)
  let c := c.setRail r { c.rail r with ramping := false, toZero := false, prebias := true, guarded := c.causeHeld r }
  let c := if c.f (Rail.OFF_CAUSE r) = 5 then c.put (Rail.OFF_CAUSE r) 0 else c
  (((c.railRest r).slewStart r).realloc).syncRail r

/-- EN has changed from 1 to 0 (R109). -/
def Chip.railStop (c : Chip) (r : Nat) : Chip :=
  let c := if c.b (Rail.OFF_LATCHED r) then
      (c.put (Rail.VNOW r) 0).setRail r { c.rail r with ramping := false, toZero := false, slewing := false }
    else if c.f (Rail.VNOW r) = 0 then c.setRail r { c.rail r with ramping := true, toZero := false, slewing := false }
    else (c.setRail r { c.rail r with ramping := true, toZero := true }).slewStart r
  c.realloc.syncRail r

/-- The rail's phases go to MID at the end of R109, unless a crowbar holds them LOW (R39, R121); the engine goes on to 0. -/
def Chip.railMid (c : Chip) (r : Nat) : Chip :=
  ((((c.setRail r { c.rail r with ramping := false }).railRest r).put (Rail.OFF_CAUSE r) 5).post 18 1 4 [(8, r), (8, 5)])

/-- Rank of an OFF_CAUSE among the protections (R121, R124, R151). -/
def causeRank (cause : Nat) : Nat := if cause = 1 then 2 else if cause = 3 then 3 else if cause = 4 then 4 else if cause = 2 then 5 else 6

/-- A cause of the ranks 3 to 5 acts on the rail: it is live (R988), and neither latched, nor waiting for a crowbar's release
with a cause of no higher rank (R150). Of two that strike in one beat the lower rank decides (R151). -/
def Chip.canLatch (c : Chip) (r cause : Nat) : Bool :=
  let h := c.rail r
  c.live r && (if c.b (Rail.OV_ACTIVE r) then h.latchPend == 0 || decide (causeRank cause < causeRank h.latchPend)
    else !c.b (Rail.OFF_LATCHED r) || (h.latchBeat == c.clock && decide (causeRank cause < causeRank (c.f (Rail.OFF_CAUSE r)))))

/-- The rail latches off with a cause (R121 ranks 3–5, R124, R150, R151, R989): while a crowbar is in force the level stays with
the crowbar and the latch waits for its release. A latch under R124 on a rail that is latched already records its cause too. -/
def Chip.latchRail (c : Chip) (r cause : Nat) : Chip :=
  let h := c.rail r
  if c.b (Rail.OV_ACTIVE r) then
    c.setRail r { h with latchPend := if h.latchPend = 0 ∨ causeRank cause < causeRank h.latchPend then cause else h.latchPend }
  else if c.b (Rail.OFF_LATCHED r) && cause != 1 then
    if h.latchBeat = c.clock && decide (causeRank cause < causeRank (c.f (Rail.OFF_CAUSE r))) then
      (c.put (Rail.OFF_CAUSE r) cause).note r (causeBits cause) else c
  else
    (((((((c.note r (causeBits cause)).avsLatch r).putB (Rail.OFF_LATCHED r) true).put (Rail.OFF_CAUSE r) cause).setRail r
      { h with latchBeat := c.clock, latchPend := 0, ramping := false, resume := false }).railRest r).realloc.syncRail r).post
      18 1 4 [(8, r), (8, cause)]

/-- The bridge that serves phase `p`, and the one that serves TMON `t` (R29). -/
def phaseBridge (p : Nat) : Nat := if p < 48 then 16 else 18
@[inherit_doc phaseBridge] def tmonBridge (t : Nat) : Nat := if t < 16 then 16 else 18

/-- STAGE_OT of TMON `t`: its rail latches off (R121 rank 4, R131). DESIGN CHOICE (notes/assumptions/104.md): the bridge that
serves the input posts it. -/
def Chip.stageOt (c : Chip) (t : Nat) : Chip :=
  let r := c.f (Tmon.RAIL t)
  (c.latchRail r 4).post (tmonBridge t) 1 8 [(8, t), (8, r), (16, c.f (Tmon.TEMP t) + (if 2048 ≤ c.f (Tmon.TEMP t) then 61440 else 0))]

/-- BUS_UV on the rails of a list (R121 rank 3). -/
def Chip.busUv (c : Chip) (hit : List Nat) : Chip :=
  if hit.isEmpty then c else (forL hit (fun r c => c.latchRail r 3) c).post 18 1 9 [(16, c.f Board.VBUS12)]

/-- A rail that has been restarted while the cause of a latch holds latches again at once (R129). -/
def Chip.relatch (c : Chip) (r : Nat) : Chip :=
  let c := if c.rl.busLow = 2 && c.canLatch r 3 then c.busUv [r] else c
  forN 32 (fun t c =>
    if c.b (Tmon.EN t) && c.f (Tmon.RAIL t) == r && (c.tmonH t).hot == 2 && c.canLatch r 4 then c.stageOt t else c) c

/-- The over-voltage step of a VSENSE sample (R121 rank 2, R124,
R125). -/
def Chip.ovStep (c : Chip) (r v : Nat) : Chip :=
  let h := c.rail r
  let thr := 2 * c.f (Rail.OV_THR r)
  if c.b (Rail.OV_ACTIVE r) then
    if (v : Int) < (thr : Int) - 80 then
      if h.ovLo = 0 then c.setRail r { h with ovLo := 1 }
      else
        let c := (c.putB (Rail.OV_ACTIVE r) false).setRail r { h with ovLo := 0, ovHi := 0, latchPend := 0 }
        if c.live r && decide (max 1 (c.f (Rail.OV_LATCH_N r)) ≤ c.f (Rail.OV_COUNT r)) then c.latchRail r 1
        else if c.live r && h.latchPend != 0 then c.latchRail r h.latchPend
        else if c.railOff r then (c.railRest r).syncRail r
        else (c.setRail r { c.rail r with resume := true }).syncRail r
    else c.setRail r { h with ovLo := 0 }
  else if c.live r && !(c.mapped r).isEmpty then
    if thr ≤ v then
      if h.ovHi = 0 then c.setRail r { h with ovHi := 1 }
      else
        let n := min 15 (c.f (Rail.OV_COUNT r) + 1)
        ((((((c.note r 1).setRail r { h with ovHi := 0, ovLo := 0, resume := false }).putB (Rail.OV_ACTIVE r) true).put (Rail.OV_COUNT r)
          n).railRest r).syncRail r).post 18 1 2 [(8, r), (8, n)]
    else c.setRail r { h with ovHi := 0 }
  else c.setRail r { h with ovHi := 0 }

/-- The under-voltage level of R121 rank 5, in 0.25 mV. -/
def Chip.uvLevel (c : Chip) (r : Nat) : Int := 2 * c.target r - 8 * c.f (Rail.UV_OFS r)

/-- Under-voltage watch of a VSENSE sample (R121 rank 5, R126, R988). -/
def Chip.uvStep (c : Chip) (r v : Nat) : Chip :=
  let h := c.rail r
  c.setRail r { h with uvBelow := c.live r && !(c.mapped r).isEmpty && !h.uvBlank && decide ((v : Int) < c.uvLevel r) }

/-- A VSENSE sample of rail `r`, in 0.25 mV (R61, R91, R92, R121, R764). -/
def Chip.vsense (c : Chip) (r v : Nat) : Chip :=
  let c := c.put (Rail.VSENSE r) v
  let c := { c with skb.least := if mget 0 c.skb.episode r = 0 then c.skb.least
                                 else mset 0 c.skb.least r (min v (mget 0 c.skb.least r)) }
  let h := c.rail r
  (((c.setRail r { h with vsum := h.vsum + v, vcnt := h.vcnt + 1 }).prebiasEnd r).ovStep r v).uvStep r v

/-- RAIL_UV: VSENSE has stayed below the level for the UV_DLY time (R121 rank 5, R131, R147). -/
def Chip.railUv (c : Chip) (r : Nat) : Chip :=
  if (c.rail r).uvBelow && !(c.rail r).uvBlank && !(c.mapped r).isEmpty && c.canLatch r 2 then
    (c.post 18 1 3 [(8, r), (8, c.f (Rail.CLAMPED r))]).latchRail r 2
  else c

/-- An IMON sample of the 96 phases (R93, R95, R100, R118). -/
def Chip.imon (c : Chip) (codes : List (BitVec 12)) : Chip :=
  let c := forN 96 (fun p c => c.putI (Phase.IPH p) (c.iph p ((codes[p]?).getD 0).toNat)) c
  let c := forN 16 (fun r d => d.putI (Rail.IRAIL r) ((c.mapped r).foldl (fun a p => a + c.fi (Phase.IPH p)) 0)) c
  (forN 16 (fun r c => c.updDroop r) c).budgetStep

/-- BUDGET_OVERRUN: 125 samples of 160 ns (20 µs) above the budget since the clamp is in force (R74, R991). DESIGN CHOICE
(notes/assumptions/105.md): its payload is that of BUDGET_CLAMP. -/
def Chip.budgetOverrun (c : Chip) : Chip :=
  if c.b Board.CLAMPED && decide (125 ≤ c.rl.overCnt) && !c.rl.overrun then
    { c with rl.overrun := true }.post 18 1 13 [(16, c.f Board.IBUS), (16, c.budget)]
  else c

/-- A TMON conversion (R94, R121 rank 4, R127). -/
def Chip.tmon (c : Chip) (t code : Nat) : Chip :=
  let x : Int := ((code : Int) - c.f (Tmon.TOFS t)) * c.f (Tmon.TGAIN t) / 256
  let c := c.putI (Tmon.TEMP t) x
  let r := c.f (Tmon.RAIL t)
  let h := c.tmonH t
  let en := c.b (Tmon.EN t)
  let warn := en && decide (8 * (c.f (Tmon.TWARN t) : Int) ≤ x)
  let h := { h with
    hot := if en && decide (8 * (c.f (Tmon.TSHUT t) : Int) ≤ x) then min 2 (h.hot + 1) else 0
    warned := (h.warned && !decide (x < 8 * ((c.f (Tmon.TWARN t) : Int) - 10))) || warn }
  let c' := c.setTmonH t h
  let c' := if warn && !(c.tmonH t).warned then (c'.note r 128).post (tmonBridge t) 1 7 [(8, t), (8, r), (16, low 16 x)] else c'
  if h.hot = 2 && c'.canLatch r 4 then c'.stageOt t else c'

/-- Bus under-voltage level, in 5 mV units of the VBUS12 conversion: 6.000 V + VIN_UV × 0.05 V, VIN_UV at most
110 (R133, R983). -/
def Chip.busLevel (c : Chip) : Nat := 1200 + 10 * min 110 (c.f Board.VIN_UV)

/-- A VBUS12 conversion (R121 rank 3, R988). -/
def Chip.vbus12 (c : Chip) (code : Nat) : Chip :=
  let c := c.put Board.VBUS12 code
  let n := if code < c.busLevel then min 2 (c.rl.busLow + 1) else 0
  let c := { c with rl.busLow := n }
  if n = 2 then c.busUv ((List.range 16).filter (fun r => c.canLatch r 3)) else c

/-- A VBUS48 conversion: BUS48_LOW, re-armed above VB48_LOW + 1 V (64 × 15.625 mV) (R128). -/
def Chip.vbus48 (c : Chip) (code : Nat) : Chip :=
  let c := c.put Board.VBUS48 code
  let lim := c.f Board.VB48_LOW
  if code < lim then
    if c.rl.vb48 then c else (forN 16 (fun r (d : Chip) => d.note r 32) { c with rl.vb48 := true }).post 18 1 10 [(16, code)]
  else if lim + 64 < code then { c with rl.vb48 := false } else c

/-! ### On-edges -/

/-- What the phase's rail does with its duties: the on-time of an on-edge that is not forced, 0 for none (R87,
R114, R115). Duty writes accepted 4 beats or more earlier have taken effect (R88). -/
def Chip.takeDuty (c : Chip) (p : Nat) : Chip :=
  let h := c.phase p
  let due := h.duty.filter (fun d => decide (d.1 + 4 ≤ c.clock))
  c.setPhase p { h with ton := (due.getLast?.map Prod.snd).getD h.ton,
                        duty := h.duty.filter (fun d => !decide (d.1 + 4 ≤ c.clock)) }

@[inherit_doc Chip.takeDuty] def Chip.schedTon (c : Chip) (p : Nat) : Nat :=
  let r := c.f (Phase.RAIL p)
  let h := c.rail r
  if c.b (Rail.FALLBACK r) && h.lawRan then tonOf h.par h.lawTon else tonOf h.par (c.phase p).ton

/-- The on-time of a forced period (R89). -/
def Chip.forcedTon (c : Chip) (p : Nat) : Nat :=
  let h := c.rail (c.f (Phase.RAIL p))
  tonOf h.par (max h.par.forceTon (c.phase p).ton)

/-- May the phase take an on-edge: rules 1 and 2 of R34, a trip's rest of its period (R44, R121 rank 7), R91, R125, R988?
DESIGN CHOICE (notes/assumptions/106.md): the hold of R91 bars the forced on-edges of PARKED phases too. -/
def Chip.mayTurnOn (c : Chip) (p : Nat) : Bool :=
  let r := c.f (Phase.RAIL p)
  let h := c.rail r
  c.isMapped r p && !c.b (Phase.OC_LATCHED p) && !(c.phase p).tripped && !c.railOff r && !c.b (Rail.OV_ACTIVE r)
    && !h.resume && !h.prebias && !(h.guarded && c.causeHeld r) && c.driving && !c.atCeil r

/-- A period of the phase begins: the trip count restarts after a period without a trip (R123). -/
def Chip.newPeriod (c : Chip) (p : Nat) : Chip :=
  let h := c.phase p
  c.setPhase p { h with tripped := false, trips := if h.tripped then h.trips else 0 }

/-- The phase goes HIGH for `ton` ticks; 0 gives no on-edge (R87). -/
def Chip.onEdge (c : Chip) (p ton : Nat) : Chip :=
  if ton = 0 then c else (c.setPhase p { c.phase p with onFor := ton }).level p lvlHigh

/-- A PARKED phase reaches its force slot (R89). -/
def Chip.forceSlot (c : Chip) (p : Nat) : Chip :=
  let h := c.phase p
  if c.inForce p && c.mayTurnOn p && c.forcedTon p != 0 then (c.setPhase p { h with forcedPeriod := true }).onEdge p (c.forcedTon p)
  else if h.forcedPeriod then c.rest p
  else c

/-- A phase reaches its on-edge slot, or its force slot if PARKED (R85, R87, R89). A slot whose on-edge a forced one has
replaced lies within the period that the forced on-edge began. -/
def Chip.slotEdge (c : Chip) (p : Nat) : Chip :=
  let c := c.takeDuty p
  let st := c.f (Phase.STATE p)
  if st = 1 then (c.newPeriod p).forceSlot p
  else if st = 2 then
    if (c.phase p).replaced then c.setPhase p { c.phase p with replaced := false }
    else
      let c := c.newPeriod p
      if c.mayTurnOn p then c.onEdge p (if c.inForce p then c.forcedTon p else c.schedTon p) else c
  else c

/-- The forced on-edge of a phase on which PHASE_FORCE has come into effect (R34 rule 3, R89): one in each period, so neither a
PARKED phase within a forced period nor an ACTIVE phase whose next on-edge is replaced already takes another. DESIGN CHOICE
(notes/assumptions/107.md): a phase that is HIGH starts its on-time again. -/
def Chip.forceEdge (c : Chip) (p : Nat) : Chip :=
  let h := c.phase p
  if c.inForce p && !h.forcedPeriod && !h.replaced && c.mayTurnOn p && c.forcedTon p != 0 then
    let c := c.newPeriod p
    let st := c.f (Phase.STATE p)
    (c.setPhase p { c.phase p with forcedPeriod := decide (st = 1), replaced := decide (st = 2) }).onEdge p (c.forcedTon p)
  else c

/-- A PHASE_FORCE line asserts at a cluster (R34 rule 3, R89, R90). A Shadow's clusters ignore it (R181). -/
def Chip.forceOn (c : Chip) (p : Nat) : Chip :=
  let c := c.takeDuty p
  ((c.setPhase p { c.phase p with force := true }).syncForced p).forceEdge p

/-- A PHASE_FORCE line deasserts (R89): a map change that was deferred for it goes on under R36 (R47). -/
def Chip.forceOff (c : Chip) (p : Nat) : Chip := (c.setPhase p { c.phase p with force := false, deferred := false }).syncForced p

/-- The clusters begin to drive: a phase whose PHASE_FORCE line is asserted is answered from then on (R49, R76). -/
def Chip.forceAnswer (c : Chip) : Chip :=
  forN 96 (fun p c => if (c.phase p).force then (c.takeDuty p).forceEdge p else c) c

/-- A phase's on-time expires (R87). -/
def Chip.offEdge (c : Chip) (p : Nat) : Chip :=
  if c.f (Phase.LEVEL p) = lvlHigh then c.level p lvlLow else c

/-- IMONn exceeds the trip threshold while HIGH (R121 ranks 1 and 7, R131, R144). -/
def Chip.phaseOc (c : Chip) (p code : Nat) : Chip :=
  let h := c.phase p
  if c.f (Phase.LEVEL p) = lvlHigh && c.overTrip p code && !h.tripped then
    let c := (c.inc (Phase.OC_CNT p)).level p lvlLow
    let n := h.trips + 1
    let post := match h.ocPost with | none => true | some b => decide (800000 ≤ c.clock - b)
    let c := c.setPhase p { h with tripped := true, trips := n, ocPost := if post then some c.clock else h.ocPost }
    let c := if post then c.post (phaseBridge p) 1 5 [(8, p), (8, c.f (Phase.OC_CNT p))] else c
    if max 1 (c.f (Sense.OC_LATCH_N p)) ≤ n then
      ((((c.note (c.f (Phase.RAIL p)) 2).hwSet (Phase.OC_LATCHED p) 1).rest p).syncForced p).post (phaseBridge p) 1 6
        [(8, p), (8, c.f (Phase.RAIL p))]
    else c
  else c

/-- PSTAT.OC_LATCHED is cleared (R152): the trip count starts again, and rank 1 no longer decides the phase's level (R121). -/
def Chip.ocCleared (c : Chip) (p : Nat) : Chip :=
  ((c.setPhase p { c.phase p with trips := 0, tripped := false }).rest p).syncForced p

/-! ### Maps and period boundaries -/

/-- Cancel the deferred or pending map change of a phase (R48): a phase that has left its rail stays OFF. DESIGN CHOICE
(notes/assumptions/108.md): B1 posts MAP_CANCELLED, with the phase as its payload. -/
def Chip.cancelMap (c : Chip) (p : Nat) : Chip :=
  let h := c.phase p
  if h.pend.isNone then c else (c.setPhase p { h with pend := none, deferred := false }).post 18 1 15 [(8, p)]

/-- Cancel every change that touches rail `r`. -/
def Chip.cancelMaps (c : Chip) (r : Nat) : Chip :=
  forN 96 (fun p c =>
    let h := c.phase p
    let old := if h.leave = 0 then c.f (Phase.RAIL p) else h.oldRail
    if old = r || (h.pend.map Prod.fst) == some r then c.cancelMap p else c) c

/-- A pending map change takes effect: the phase takes its place, at rest until its first on-edge (R36, R84, R86). -/
def Chip.mapTake (c : Chip) (p nr ns : Nat) : Chip :=
  let c := (c.setPhase p { c.phase p with pend := none, deferred := false, leave := 0 }).put (Phase.RAIL p) nr
  ((c.put (Phase.STATE p) ns).rest p).syncForced p

/-- A phase leaves rail `r` (R36): it is OFF and at MID for one period of that rail, which begins after the release of a crowbar
in force there (DESIGN CHOICE, notes/assumptions/109.md). -/
def Chip.mapLeave (c : Chip) (r p : Nat) : Chip :=
  let c := c.setPhase p { c.phase p with leave := if c.b (Rail.OV_ACTIVE r) then 3 else 1, oldRail := r }
  ((c.put (Phase.STATE p) 0).rest p).syncForced p

/-- A phase changes its STATE within its rail; a phase that goes on ACTIVE keeps switching. -/
def Chip.mapStay (c : Chip) (p ns : Nat) : Chip :=
  let was := c.f (Phase.STATE p)
  let c := (c.setPhase p { c.phase p with pend := none, deferred := false }).put (Phase.STATE p) ns
  if was = ns then c
  else if ns = 2 then (c.setPhase p { c.phase p with forcedPeriod := false, replaced := false }).syncForced p
  else (c.rest p).syncForced p

/-- The part of a phase's leave that ends at a boundary of rail `r`: the wait for a crowbar's release, or the period at MID. -/
def Chip.leaveStep (c : Chip) (r p : Nat) : Chip :=
  let h := c.phase p
  if h.oldRail = r ∧ h.leave = 1 then c.setPhase p { h with leave := if h.pend.isNone then 0 else 2 }
  else if h.oldRail = r ∧ h.leave = 3 ∧ c.b (Rail.OV_ACTIVE r) = false then (c.setPhase p { h with leave := 1 }).rest p
  else c

/-- A map change takes effect at a boundary of rail `r` (R36, R47, R86). A phase that stays in its rail changes there. A phase
that leaves is at MID for one period of the rail it leaves, and joins at the first boundary, at or after the end of that
period, of the rail it joins; so does a phase OFF. -/
def Chip.mapBoundary (c : Chip) (r p : Nat) : Chip :=
  let c := c.leaveStep r p
  let h := c.phase p
  match h.pend with
  | none => c
  | some (nr, ns) =>
    if h.deferred || h.leave == 1 || h.leave == 3 then c
    else if h.leave = 2 || c.f (Phase.STATE p) = 0 then (if nr = r || ns = 0 then c.mapTake p nr ns else c)
    else if c.f (Phase.RAIL p) ≠ r then c
    else if ns = 0 then ((c.setPhase p { h with pend := none }).mapLeave r p).put (Phase.RAIL p) nr
    else if nr = r then c.mapStay p ns
    else c.mapLeave r p

/-- The rail's phases return to R34 after a crowbar: PARKED phases go back to MID (R84, R125). -/
def Chip.resumeRail (c : Chip) (r : Nat) : Chip :=
  if (c.rail r).resume then
    forL (c.mapped r) (fun p c => if c.f (Phase.STATE p) = 1 then c.rest p else c) (c.setRail r { c.rail r with resume := false })
  else c

/-- Give every phase of the rail its slot for the coming period (R85, R86). -/
def Chip.slots (c : Chip) (r : Nat) : Chip :=
  let act := c.actives r
  let all := c.slotted r
  let per := (c.rail r).par.per
  forL all (fun p c =>
    let s := if c.f (Phase.STATE p) = 2 then act.idxOf p * per / act.length else all.idxOf p * per / all.length
    c.setPhase p { c.phase p with slot := s }) c

/-- The parameters written for a rail (R110). -/
def Chip.params (c : Chip) (r : Nat) : RailParams :=
  { per := perOf (c.f (Rail.PER r)), tonMin := c.f (Rail.TON_MIN r), toffMin := c.f (Rail.TOFF_MIN r),
    forceTon := c.f (Rail.FORCE_TON r), kp := c.fi (Rail.KP r), ki := c.fi (Rail.KI r), kd := c.fi (Rail.KD r),
    dmax := c.f (Rail.DMAX r) }

/-- vavg of R114: the mean of the period's samples; the latest sample where the period held none. -/
def Chip.vavg (c : Chip) (r : Nat) : Int :=
  let h := c.rail r
  if h.vcnt = 0 then c.f (Rail.VSENSE r) else (h.vsum / h.vcnt : Nat)

/-- Entry of the fallback law (R114, R115): the rail passes to the law at this boundary. The spec states no entry
integrator for a rail without an active phase: it is a free value. -/
def Chip.lawEntry (c : Chip) (r : Nat) : Chip :=
  let h := c.rail r
  let act := c.actives r
  let t := c.target r
  if act.isEmpty then
    let (w, c) := c.freeWord
    (c.setRail r { h with integ := w.toNat, eprev := 2 * t - c.vavg r, lawRan := false, fbDue := false }).putB (Rail.FALLBACK r) true
  else
    let sum := act.foldl (fun a p => a + tonOf h.par (c.phase p).ton) 0
    (c.setRail r { h with integ := (sum * 2 ^ 24 / (act.length * h.par.per) : Nat), eprev := 2 * t - c.vavg r,
                          lawRan := false, fbDue := false }).putB (Rail.FALLBACK r) true

/-- One iteration of the fallback law (R114); the integrator is held during a crowbar (R146). -/
def Chip.lawStep (c : Chip) (r : Nat) : Chip :=
  let h := c.rail r
  let q := h.par
  let e := 2 * c.target r - c.vavg r
  let i := if c.b (Rail.OV_ACTIVE r) then h.integ else clampI 0 (q.dmax * 256) (h.integ + q.ki * e)
  let d := clampI 0 q.dmax (i / 256 + q.kp * e + q.kd * (e - h.eprev))
  c.setRail r { h with integ := i, eprev := e, lawTon := (d * q.per / 65536).toNat, lawRan := true }

/-- A rail's period boundary (R36, R86, R110, R114, R341). -/
def Chip.boundary (c : Chip) (r : Nat) : Chip :=
  let c := c.setRail r { c.rail r with par := c.params r }
  let c := if c.b (Rail.FALLBACK r) then c.lawStep r else c
  let c := if (c.rail r).fbDue && !c.b (Rail.FALLBACK r) then c.lawEntry r else c
  let c := c.setRail r { c.rail r with vsum := 0, vcnt := 0 }
  let old := (c.mapped r).isEmpty
  let c := forN 96 (fun p c => c.mapBoundary r p) (c.resumeRail r)
  let c := if (c.mapped r).any (fun p => c.b (Phase.OC_LATCHED p)) then c.note r 2 else c
  let c := if (c.mapped r).isEmpty = old then c else c.realloc
  c.slots r

/-- A droop comparator asserts: the voltage `v` (0.25 mV) is past its threshold (R98, R99, R102, R103, R764). The
bridge posts DROOP at most once in 800 free beats (1 µs) for each comparator. -/
def Chip.droopOn (c : Chip) (r k v : Nat) : Chip :=
  let h := c.comp r k
  let high := c.polOver r k
  if !h.held && !c.droopBit r k && (if high then decide (8 * h.dac < v) else decide (v < 8 * h.dac)) then
    let new := !high && !c.anyUnder r
    let c := c.setDroop r k true
    let c := if new then { c with skb.episode := mset 0 c.skb.episode r ((2 * c.target r).toNat + 1),
                                  skb.least := mset 0 c.skb.least r v } else c
    match h.posted with
    | some b => if decide (c.clock - b < 800) then c
                else (c.setComp r k { h with posted := some c.clock }).post (if r < 8 then 16 else 18) 1 1 [(8, r), (8, k)]
    | none => (c.setComp r k { h with posted := some c.clock }).post (if r < 8 then 16 else 18) 1 1 [(8, r), (8, k)]
  else c

/-- DROOP_HYST in 0.25 mV: 0, 2, 4 or 8 mV (R101). -/
def Chip.droopHyst (c : Chip) (r : Nat) : Nat :=
  match c.f (Rail.DROOP_HYST r) with
  | 0 => 0
  | 1 => 8
  | 2 => 16
  | _ => 32

/-- A droop comparator deasserts: the voltage has returned past the threshold by DROOP_HYST (R101). -/
def Chip.droopOff (c : Chip) (r k v : Nat) : Chip :=
  let t := 8 * (c.comp r k).dac
  if c.droopBit r k && (if c.polOver r k then decide (v + c.droopHyst r ≤ t) else decide (t + c.droopHyst r ≤ v)) then
    (c.setDroop r k false).episodeEnd r
  else c

end Sys2Proof.Machine
end

