-- ==== Sys2Proof/Machine/Sched.lean ====
section
/-! DEFINITION. Schedule faults and what they do: the fault record (R338), PLANE.FIRST (R339), the plane's stop
(R340), and the rail groups' HOLD and FALLBACK (R341–R344, R354, R361). -/

namespace Sys2Proof.Machine

open Reg

/-- Values of PLANE.STATE. -/
def plStopped : Nat := 0
@[inherit_doc plStopped] def plRun : Nat := 1
@[inherit_doc plStopped] def plFaulted : Nat := 2
@[inherit_doc plStopped] def plSwitching : Nat := 3

/-- Rail group of rail `r` (PLANE.RGRPr). -/
def Chip.group (c : Chip) (r : Nat) : Nat :=
  c.f ⟨Plane.base + 0x18 + 4 * (r / 8), 4 * (r % 8) + 2, 4 * (r % 8)⟩

/-- Recompute PLANE.GRP_OUT: group g is in HOLD or FALLBACK while one of its rails is. -/
def Chip.grpOut (c : Chip) : Chip :=
  let out (r : Nat) : Bool := c.b (Rail.HOLD r) || c.b (Rail.FALLBACK r) || (c.rail r).fbDue
  c.put Plane.GRP_OUT (sumN 8 (fun g => if (List.range 16).any (fun r => c.group r == g && out r) then 2 ^ g else 0))

/-- Rail `r` enters HOLD (R341, R342). A rail in FALLBACK stays there. -/
def Chip.holdRail (c : Chip) (r : Nat) : Chip :=
  if c.b (Rail.FALLBACK r) || (c.rail r).fbDue then c else c.putB (Rail.HOLD r) true

/-- Rail `r` is to enter FALLBACK at its first period boundary at or after free beat `b` (R341, R343). -/
def Chip.fallRail (c : Chip) (r b : Nat) : Chip :=
  if c.b (Rail.FALLBACK r) || (c.rail r).fbDue then c else c.setRail r { c.rail r with fbDue := true, fbFrom := b }

/-- Every rail group takes its action (R341); map changes that are pending or deferred are cancelled, also where the group was in HOLD or
FALLBACK already (R48). -/
def Chip.groupsAct (c : Chip) : Chip :=
  (forN 16 (fun r c => (if c.f (Plane.ACTg (c.group r)) = 0 then c.holdRail r else c.fallRail r (c.clock + 8)).cancelMaps r) c).grpOut

/-- Every rail group enters HOLD (R347), and map changes are cancelled as by a fault (R48). -/
def Chip.groupsHold (c : Chip) : Chip := (forN 16 (fun r c => (c.holdRail r).cancelMaps r) c).grpOut

/-- Every rail group runs under FALLBACK (R354). -/
def Chip.groupsFall (c : Chip) : Chip := (forN 16 (fun r c => c.fallRail r c.clock) c).grpOut

/-- HOLD_LIM of group `g` has expired: its rails in HOLD enter FALLBACK at their next period boundary (R343), and map changes
that came since are cancelled (R48). -/
def Chip.holdExpire (c : Chip) (g : Nat) : Chip :=
  (forN 16 (fun r c => if c.group r = g && c.b (Rail.HOLD r) then (c.fallRail r c.clock).cancelMaps r else c) c).grpOut

/-- A period boundary at which a rail whose group is due passes to the fallback law (R341); `sure` says that the 8
free beats have passed. -/
def Chip.boundaryIn (c : Chip) (r : Nat) (sure : Bool) : Chip :=
  let h := c.rail r
  if h.fbDue && !sure && decide (c.clock < h.fbFrom) then
    let c := (c.setRail r { h with fbDue := false }).boundary r
    c.setRail r { c.rail r with fbDue := true }
  else
    let c' := c.boundary r
    if h.fbDue then (c'.putB (Rail.HOLD r) false).grpOut else c'

/-- A rail leaves HOLD or FALLBACK at the first delivery of a DUTY packet for one of its phases; from FALLBACK the
law's last ton is written into DUTY.TON of its active phases first (R346). -/
def Chip.leaveHold (c : Chip) (r : Nat) : Chip :=
  let h := c.rail r
  let c := if c.b (Rail.FALLBACK r) && h.lawRan then
      forL (c.actives r) (fun p c => (c.hwSet (Phase.TON p) h.lawTon).setPhase p { c.phase p with ton := h.lawTon, duty := [] }) c
    else c
  if c.b (Rail.HOLD r) || c.b (Rail.FALLBACK r) || h.fbDue then
    (((c.putB (Rail.HOLD r) false).putB (Rail.FALLBACK r) false).setRail r { h with fbDue := false, lawRan := false }).grpOut
  else c

/-- What a schedule fault reports (R338). -/
structure SchedRec where
  kind : Nat
  cause : Nat := 0
  peer : Nat := 0
  chan : Nat := 0
  pc : Nat := 0
  entry : Option Nat := none
  port : Nat := 0
  router : Nat := 0
  other : Nat := 0
  detA : Nat := 0
  detB : Nat := 0
  instr : Nat := 0
  deriving DecidableEq, Repr

/-- The words of the fault record, +0x700 to +0x718 (R338). -/
def Chip.schedWords (c : Chip) (node : Nat) (x : SchedRec) : List Word :=
  [BitVec.ofNat 32 (x.kind % 16 + x.cause % 16 * 2 ^ 4 + node * 2 ^ 8 + 2 ^ 15 + x.peer % 128 * 2 ^ 16 + x.chan % 64 * 2 ^ 23),
   BitVec.ofNat 32 (c.f Plane.PBEAT + c.f Plane.ROUND % 2 ^ 20 * 2 ^ 12),
   BitVec.ofNat 32 (x.pc % 65536 + x.entry.getD 0 % 64 * 2 ^ 16 + b2n x.entry.isSome * 2 ^ 22 + x.port % 8 * 2 ^ 23
     + x.router % 64 * 2 ^ 26),
   BitVec.ofNat 32 (c.beat % 2 ^ 32),
   BitVec.ofNat 32 (c.beat / 2 ^ 32 % 65536),
   BitVec.ofNat 32 (x.other % 128 + x.detA % 256 * 2 ^ 8 + x.detB % 65536 * 2 ^ 16),
   BitVec.ofNat 32 x.instr]

/-- Write words from an address upwards. -/
def Chip.setRegs (c : Chip) (a : Nat) : List Word → Chip
  | [] => c
  | w :: ws => (c.setReg a w).setRegs (a + 4) ws

/-- The NI of `node` detects a schedule fault (R337–R341, R356, R357): its record, PLANE.FIRST, SCHED_FAULT, the
plane's stop, and the groups' actions. -/
def Chip.schedFault (c : Chip) (node : Nat) (x : SchedRec) : Chip :=
  let ws := c.schedWords node x
  let c := if c.b (Frec.VALID node) then (c.putB (Frec.OVF node) true).inc (Frec.COUNT node)
           else ((c.setRegs (niBase node + 0x700) ws).setReg (niBase node + 0x71C) 0).put (Frec.COUNT node) 1
  let first : Fld := ⟨Plane.base + 0x60, 15, 15⟩
  let lower := decide (node < c.f ⟨Plane.base + 0x60, 14, 8⟩) && c.pl.firstBeat == c.clock
  let c := if !c.b first || lower then
      { (c.setRegs (Plane.base + 0x60) ws).setReg (Plane.base + 0x7C) 0x100 with pl.firstBeat := c.clock } else c
  let rec8 := (List.range 8).map (fun i => c.reg (niBase node + 0x700 + 4 * i))
  let c := c.postWords node 0 (evCode 4 1) rec8
  let was := c.f Plane.STATE
  let c := { c.put Plane.STATE plFaulted with pl.holds := [], pl.holdLen := 0, pl.switchTo := none }
  let c := forL eNodes (fun n c => if c.f (Tile.STATE n) = 1 ∨ c.f (Tile.STATE n) = 2 then c.put (Tile.STATE n) 0 else c) c
  let c := if was = plFaulted then c
    else forN 4 (fun p c => c.raiseLine (24 + p) (2 ^ 8)) c
  c.groupsAct

/-- SLOT_VIOLATION with a cause at a slot entry (R337). -/
def Chip.slotViolation (c : Chip) (node cause : Nat) (entry : Option Nat) (peer chan pc : Nat) : Chip :=
  c.schedFault node { kind := 2, cause := cause, entry := entry, peer := peer, chan := chan, pc := pc }

end Sys2Proof.Machine
end

