-- ==== Sys2Proof/Machine/Net.lean ====
section
/-! DEFINITION. The Lattice: routers, network interfaces, tags, Sieves and node resets (R220–R300, R980–R986). -/

namespace Sys2Proof.Machine

open Reg

/-! ### Codes -/

/-- Response status codes (R237). -/
def stOk : Nat := 0
@[inherit_doc stOk] def stAlign : Nat := 1
@[inherit_doc stOk] def stAddr : Nat := 2
@[inherit_doc stOk] def stPriv : Nat := 3
@[inherit_doc stOk] def stSealed : Nat := 4
@[inherit_doc stOk] def stNotOwner : Nat := 5
@[inherit_doc stOk] def stRegion : Nat := 6
@[inherit_doc stOk] def stFenced : Nat := 7
@[inherit_doc stOk] def stTimeout : Nat := 8
@[inherit_doc stOk] def stData : Nat := 9
@[inherit_doc stOk] def stLink : Nat := 10
@[inherit_doc stOk] def stDenied : Nat := 11
@[inherit_doc stOk] def stUnsup : Nat := 12
@[inherit_doc stOk] def stBusy : Nat := 13

/-- Virtual channel of a packet type; none for a reserved type (R231). -/
def typeVc : Nat → Option Nat
  | 0 => some 0
  | 1 => some 2
  | 2 => some 2
  | 3 => some 2
  | 4 => some 3
  | 5 => some 3
  | 6 => some 1
  | 7 => some 1
  | 8 => some 1
  | 9 => some 3
  | _ => none

/-- Response type of a request type (R231). -/
def rspType (t : Nat) : Nat := if t = 1 then 6 else if t = 2 then 7 else 8

/-- A node that no packet can reach (R238). -/
def noNode (d : Nat) : Bool := (decide (49 ≤ d) && decide (d ≤ 63)) || decide (113 ≤ d)

/-- Flits of a packet: its header and four data words to a flit (R231). -/
def Pkt.size (p : Pkt) : Nat := 1 + (p.words.length + 3) / 4

/-- Data flit `k` of a packet, padded with zeros (R231), with the marks that the packet carries (R223, R267). -/
def Pkt.dataFlit (p : Pkt) (k : Nat) : Flit :=
  let ws := (p.words.drop (4 * k)).take 4
  { vc := p.hdr.vc, tail := decide (k + 2 = p.size), poison := p.marks.getLsbD (k + 1), corr := p.corr, hdr := p.hdr,
    words := ws ++ List.replicate (4 - ws.length) 0 }

/-- The flits of a packet (R231). -/
def Pkt.flits (p : Pkt) : List Flit :=
  { vc := p.hdr.vc, head := true, tail := p.words.isEmpty, poison := p.marks.getLsbD 0, corr := p.corr, hdr := p.hdr }
    :: (List.range ((p.words.length + 3) / 4)).map p.dataFlit

/-! ### Delivering a response -/

/-- A response, true or synthesised, reaches the logic that asked (R257, R262): a tile takes it into its ticket or
lock record, other logic finds it among the answers of its node. -/
def Chip.deliver (c : Chip) (n : Nat) (o : Owner) (status : Nat) (ws : List Word) : Chip :=
  let data := if status = stOk then wordAt ws 0 else 0
  let t := tileAt n
  match o with
  | .none => c
  | .lkrel => c
  | .mirror => c
  | .ticket k =>
    let x := c.tile t
    c.setTile t { x with tk := mset {} x.tk k { mget {} x.tk k with res := some (status, data), resBeat := c.clock } }
  | .lkacq _ => c.setTile t { c.tile t with lkRsp := some (status, data) }
  | o => c.setNi n { c.ni n with ans := (c.ni n).ans ++ [(o, status, if status = stOk then ws else [])] }

/-- The node's logic asks for a VC2 request: an unreachable node is answered ADDR_ERR at once (R238), and a fenced
node's own request NODE_FENCED (R984). -/
def Chip.request (c : Chip) (n : Nat) (p : Pkt) (o : Owner) : Chip :=
  if c.fenced n then c.deliver n o stFenced []
  else if noNode p.hdr.dst then c.deliver n o stAddr []
  else c.ask n p o

/-! ### Routes and Sieves -/

/-- Route-table entry for a destination (R245). -/
def routeEntry (dst : Nat) : Nat := if 64 ≤ dst then 6 else dst

/-- ROUTE of an entry, if VALID (R244, R248). -/
def Chip.route (c : Chip) (n e : Nat) : Option Nat :=
  if c.b (Ni.ROUTEe_VALID n e) then some (c.f (Ni.ROUTEe_LO n e) + c.f (Ni.ROUTEe_HI n e) * 2 ^ 32) else none

/-- TOKENS of a Sieve, in 1/1,024 flit. -/
def Chip.tokens (c : Chip) (n t : Nat) : Int := c.fi (Ni.SIEVEt_TOKENS n t)

/-- The Sieve holds at least one token. -/
def Chip.hasToken (c : Chip) (n t : Nat) : Bool := decide (1024 ≤ c.tokens n t)

/-- May a VC2 or VC3 packet of the tenant leave (R252)? -/
def Chip.sieveOpen (c : Chip) (n t : Nat) : Bool := !c.b (Ni.SIEVEt_LIMIT n t) || c.hasToken n t

/-- A Sieve's refill of the present beat, once (R249). -/
def Chip.refill (c : Chip) (n t : Nat) : Chip :=
  if mget 0 (c.ni n).refilled t = c.clock + 1 then c
  else
    let c := c.setNi n { c.ni n with refilled := mset 0 (c.ni n).refilled t (c.clock + 1) }
    c.putI (Ni.SIEVEt_TOKENS n t)
      (min (((c.f (Ni.SIEVEt_BURST n t) : Int) + 1) * 1024) (c.tokens n t + c.f (Ni.SIEVEt_RATE n t)))

/-- The refills of a node's Sieves come before an admission of the same beat (R292). -/
def Chip.refills (c : Chip) (n : Nat) : Chip := forN 8 (fun t c => c.refill n t) c

/-- Take a packet's flits from its tenant's Sieve. -/
def Chip.spend (c : Chip) (n t k : Nat) : Chip := c.putI (Ni.SIEVEt_TOKENS n t) (c.tokens n t - 1024 * k)

/-- Admit a packet of `k` flits: its priority, and the chip after the Sieve's part (R250–R252). -/
def Chip.injectGo (c : Chip) (n : Nat) (h : Hdr) (k : Nat) : Nat × Chip :=
  let t := h.tenant
  let p3 := h.prio == 3 && c.b (Ni.SIEVEt_P3_EN n t) && c.hasToken n t
  let pay := p3 || c.b (Ni.SIEVEt_LIMIT n t)
  let c' := if pay then c.spend n t k else c
  if h.prio = 3 && !p3 then (2, (c'.inc (Ni.DEMOTE_CNT n)).niErr n 5 { h with prio := 2 } h.dst) else (h.prio, c')

/-! ### Injection -/

/-- Key of the queue of virtual channel `vc` at port `p` of router `r`. -/
def qKey (r p vc : Nat) : Nat := 20 * r + 4 * p + vc

def Chip.queue (c : Chip) (r p vc : Nat) : List Flit := mget [] c.lat.queue (qKey r p vc)
def Chip.setQueue (c : Chip) (r p vc : Nat) (l : List Flit) : Chip :=
  { c with lat.queue := mset [] c.lat.queue (qKey r p vc) l }

/-- Depth of a router's input queue (R239). -/
def vcDepth (vc : Nat) : Nat := if vc = 0 then 2 else if vc = 3 then 4 else 8

/-- Credits of input queue `k` that have not come back to the sending end: a credit returns in the beat after its flit has left the
queue (R240, R980). -/
def Chip.spent (c : Chip) (k : Nat) : Nat :=
  let b := mget (0, 0) c.lat.back k
  mget 0 c.lat.spent k - if b.1 < c.clock then b.2 else 0

/-- A credit is held for the queue of virtual channel `vc` at port `p` of router `r` (R239, R240). -/
def Chip.hasCredit (c : Chip) (r p vc : Nat) : Bool := decide (c.spent (qKey r p vc) < vcDepth vc)

/-- The beat's count of flits that have left queue `k`; older ones have returned their credits. -/
def Chip.backNow (c : Chip) (k : Nat) : Nat :=
  let b := mget (0, 0) c.lat.back k
  if b.1 = c.clock then b.2 else 0

/-- A flit is filed in a router's input queue: a credit is spent (R239, R240). -/
def Chip.fileFlit (c : Chip) (r p vc : Nat) (f : Flit) : Chip :=
  let k := qKey r p vc
  { c.setQueue r p vc (c.queue r p vc ++ [f]) with
    lat.spent := mset 0 c.lat.spent k (c.spent k + 1), lat.back := mset (0, 0) c.lat.back k (c.clock, c.backNow k) }

/-- The front flit leaves a router's input queue; its credit is on its way back (R240). -/
def Chip.popFlit (c : Chip) (r p vc : Nat) : Chip :=
  let k := qKey r p vc
  { c.setQueue r p vc ((c.queue r p vc).drop 1) with
    lat.spent := mset 0 c.lat.spent k (c.spent k), lat.back := mset (0, 0) c.lat.back k (c.clock, c.backNow k + 1) }

/-- Flits of a packet partly sent that the node's NI still holds. -/
def Chip.outFlits (c : Chip) (n vc : Nat) : List Flit := mget [] (c.ni n).out vc
def Chip.setOut (c : Chip) (n vc : Nat) (l : List Flit) : Chip := c.setNi n { c.ni n with out := mset [] (c.ni n).out vc l }

/-- The NI may begin a packet on a virtual channel: none is partly sent, and its router holds room for a flit (R239). -/
def Chip.canInject (c : Chip) (n vc : Nat) : Bool := (c.outFlits n vc).isEmpty && c.hasCredit n 0 vc

/-- The NI hands the flits of a packet partly sent to its router, one for each credit, and counts them (R239, R240, R746). -/
def Chip.feed (c : Chip) (n vc : Nat) : Chip :=
  forN 8 (fun _ c => match c.outFlits n vc with
    | [] => c
    | f :: fs =>
      if c.hasCredit n 0 vc then
        let c := (((c.setOut n vc fs).fileFlit n 0 vc f).cntVc n 4 vc 1)
        if f.head then c.cntVc n 6 vc 1 else c
      else c) c

/-- A packet leaves the NI into its router's L port, as far as credit goes. -/
def Chip.sendFlits (c : Chip) (n : Nat) (p : Pkt) : Chip :=
  (c.setOut n p.hdr.vc (c.outFlits n p.hdr.vc ++ p.flits)).feed n p.hdr.vc

/-- The response at the front of the NI's response queue is sent (R248, R280). The reset that a NODE_RST write asked
for may begin once its response has left (R985). -/
def Chip.injectRsp (c : Chip) (n : Nat) : Chip :=
  match (c.ni n).rsp with
  | [] => c
  | p :: ps =>
    if c.canInject n 1 then
      let c := c.setNi n { c.ni n with rsp := ps }
      match c.route n (routeEntry p.hdr.dst) with
      | none => c.dropErr n p.hdr p.hdr.dst
      | some r => c.sendFlits n { p with hdr := { p.hdr with route := r } }
    else c

/-- Tags in flight (R255). -/
def Chip.inflight (c : Chip) (n : Nat) : Nat := ((List.range 64).filter (fun t => (c.tag n t).busy)).length

/-- A tag that may be issued: it is not in flight, and its present generation is not held back (R255, R259). -/
def Chip.tagFree (c : Chip) (n t : Nat) : Bool := !(c.tag n t).busy && !(c.tag n t).held.contains (c.tag n t).gen

/-- The tenants in round-robin order after the one last served (R253). -/
def Chip.tenantOrder (c : Chip) (n : Nat) : List Nat := (List.range 8).map (fun i => ((c.ni n).rr + 1 + i) % 8)

/-- Remove the first element that satisfies `p`. -/
def takeFirst {α : Type} (p : α → Bool) : List α → Option (α × List α)
  | [] => none
  | x :: xs => if p x then some (x, xs) else (takeFirst p xs).map (fun y => (y.1, x :: y.2))

/-- Send a tenant's oldest waiting request under tag `t` (R250, R252, R255, R261). -/
def Chip.injectReq (c : Chip) (n ten t : Nat) : Chip :=
  match takeFirst (fun a => a.pkt.hdr.tenant == ten) (c.ni n).asks with
  | none => c
  | some (a, rest) =>
    let c := c.setNi n { c.ni n with asks := rest, rr := ten }
    match c.route n (routeEntry a.pkt.hdr.dst) with
    | none => c.deliver n a.owner stAddr []
    | some r =>
      let (prio, c) := c.injectGo n a.pkt.hdr a.pkt.size
      let g := (c.tag n t).gen
      let h := { a.pkt.hdr with route := r, prio := prio, tag := t, gen := g, src := n }
      (c.setTag n t { c.tag n t with busy := true, owner := a.owner, hdr := h, timer := true }).sendFlits n { a.pkt with hdr := h }

/-- Send a tenant's oldest VC3 packet (R248, R250, R252, R282). -/
def Chip.injectEvt (c : Chip) (n ten : Nat) : Chip :=
  match takeFirst (fun p => p.hdr.tenant == ten) (c.ni n).send3 with
  | none => c
  | some (p, rest) =>
    let c := c.setNi n { c.ni n with send3 := rest, rr := ten }
    match c.route n (routeEntry p.hdr.dst) with
    | none => c.dropErr n p.hdr p.hdr.dst
    | some r =>
      let (prio, c) := c.injectGo n p.hdr p.size
      c.sendFlits n { p with hdr := { p.hdr with route := r, prio := prio } }

/-- A VC2 packet of the tenant waits. -/
def Chip.asking (c : Chip) (n ten : Nat) : Bool := (c.ni n).asks.any (fun a => a.pkt.hdr.tenant == ten)

/-- A VC3 packet of the tenant waits. -/
def Chip.posting (c : Chip) (n ten : Nat) : Bool := (c.ni n).send3.any (fun p => p.hdr.tenant == ten)

/-- The NI forms a header on a virtual channel and injects the packet (R250–R256): the next tenant in order with a
packet ready; a request takes the free tag `t`. -/
def Chip.inject (c : Chip) (n vc t : Nat) : Chip :=
  let c := c.refills n
  if vc = 0 || (c.fenced n && vc != 1) then c
  else if vc = 1 then c.injectRsp n
  else if !c.canInject n vc then c
  else if vc = 2 then
    if c.tagFree n t then
      match (c.tenantOrder n).find? (fun x => c.asking n x && c.sieveOpen n x) with
      | some x => c.injectReq n x t
      | none => c
    else c
  else
    match (c.tenantOrder n).find? (fun x => c.posting n x && c.sieveOpen n x) with
    | some x => c.injectEvt n x
    | none => c

/-- A packet that waited on its tenant's LIMIT Sieve is sent once TOKENS reach 1, in the tenant's turn (R252, R253). -/
def Chip.sieveRelease (c : Chip) (n ten vc t : Nat) : Chip :=
  let c := c.refills n
  let turn (waits : Nat → Bool) : Bool := (c.tenantOrder n).find? (fun x => waits x && c.sieveOpen n x) == some ten
  if c.fenced n || !c.b (Ni.SIEVEt_LIMIT n ten) || !c.hasToken n ten || !c.canInject n vc then c
  else if vc = 2 then (if c.tagFree n t && turn (c.asking n) then c.injectReq n ten t else c)
  else if vc = 3 then (if turn (c.posting n) then c.injectEvt n ten else c)
  else c

/-! ### Arrival at a network interface -/

/-- The flit as its receiver files it: queue, whether it is uncorrectable, the flit. -/
def linkFile (e : LinkErr) (f : Flit) : Nat × Bool × Flit :=
  let vc := match e.lane with | some l => l.val | none => f.vc
  (vc, e.bad || vc != f.vc, { f with corr := f.corr || e.corr, poison := f.poison || (!f.head && (e.bad || vc != f.vc)) })

def Ni.rx (x : Ni) (vc : Nat) : List Flit := if vc = 1 then x.rx1 else if vc = 2 then x.rx2 else x.rx3
def Ni.setRx (x : Ni) (vc : Nat) (l : List Flit) : Ni :=
  if vc = 1 then { x with rx1 := l } else if vc = 2 then { x with rx2 := l } else { x with rx3 := l }
def Ni.inq (x : Ni) (vc : Nat) : List Pkt := if vc = 1 then x.in1 else if vc = 2 then x.in2 else x.in3
def Ni.setInq (x : Ni) (vc : Nat) (l : List Pkt) : Ni :=
  if vc = 1 then { x with in1 := l } else if vc = 2 then { x with in2 := l } else { x with in3 := l }

/-- The packet that a list of flits makes up. -/
def assemble (l : List Flit) : Pkt :=
  { hdr := (l.head?.map Flit.hdr).getD {}, words := (l.drop 1).flatMap Flit.words,
    marks := BitVec.ofNat 5 (l.foldr (fun f m => b2n f.poison + 2 * m) 0), corr := l.any Flit.corr }

/-- Count a packet that arrived with CORR or POISON (R228). -/
def Chip.countEcc (c : Chip) (n : Nat) (h : Hdr) (corr poison : Bool) : Chip :=
  let c := if corr then (c.inc (Ni.CORR_CNT n)).niErr n 2 h h.src else c
  if poison then (c.inc (Ni.UNCORR_CNT n)).niErr n 3 h h.src else c

/-- A request at a fenced node, or one that a reset overtakes, is answered NODE_FENCED (R273, R274). -/
def fencedRsp (h : Hdr) : Pkt := { hdr := rspHdr h (rspType h.typ) stFenced }

/-- Can a node take up a VC3 packet of this type: an EVT at SEQ, a MSG or a GRANT at the HUB or a P tile (R231, R533,
R608, R609, R611)? -/
def takes3 (n typ : Nat) : Bool :=
  if n = 30 then typ == 4 else if n = 0 || pNodes.contains n then typ == 5 || typ == 9 else false

/-- A packet is complete at the NI: DIP sends a packet for the twin on (R267); a VC1 or VC3 packet whose type does not belong on its
channel is discarded (R231), as an EVT is at any node but SEQ (R967); so is one that is not for this node (R986), and a MSG or GRANT that the
node does not take. Requests
are judged as the node takes them up. -/
def Chip.arrive (c : Chip) (n vc : Nat) (p : Pkt) : Chip :=
  let c := c.countEcc n p.hdr p.corr p.poison
  let good := typeVc p.hdr.typ == some vc
  if n = 6 && twinNode p.hdr.dst && good then c.tunnelOut vc (rspType p.hdr.typ) p
  else if (vc != 2 && !good) || (p.hdr.typ == 4 && n != 30) then c.niErr n 4 p.hdr p.hdr.src
  else if vc = 3 && p.hdr.dst != n then (c.niErr n 7 p.hdr p.hdr.src).dropErr n p.hdr p.hdr.src
  else if vc = 3 && !takes3 n p.hdr.typ then c.dropErr n p.hdr p.hdr.src
  else
    let x := c.ni n
    c.setNi n (x.setInq vc (x.inq vc ++ [p]))

/-- Flits that the NI's input queue of a virtual channel holds (R280). -/
def Chip.inqFlits (c : Chip) (n vc : Nat) : Nat :=
  ((c.ni n).inq vc).foldl (fun a p => a + p.size) ((c.ni n).rx vc).length

/-- The NI discards what follows of the packet on a virtual channel, up to its TAIL (R227, R273). -/
def Chip.discard (c : Chip) (n vc : Nat) : Chip := c.setNi n { c.ni n with disc := vc :: (c.ni n).disc.filter (· != vc) }

/-- A fenced NI sinks a flit; at a header it answers a request and counts any other packet (R273). -/
def Chip.sink (c : Chip) (n vc : Nat) (f : Flit) : Chip :=
  if !f.head then c
  else
    let c := if f.tail then c else c.discard n vc
    if vc = 2 then c.respond n (fencedRsp f.hdr) else c.dropErr n f.hdr f.hdr.src

/-- A flit reaches the NI of node `n` from its router's L port (R224–R228, R273, R280, R297): after an uncorrectable header every
flit up to the next TAIL is discarded, whatever the header said of its own TAIL. -/
def Chip.niFlit (c : Chip) (n : Nat) (f : Flit) (e : LinkErr) : Chip :=
  let (vc, bad, f) := linkFile e f
  let x := c.ni n
  let c := (c.cntVc n 5 vc 1)
  if x.disc.contains vc then
    if f.tail then c.setNi n { x with disc := x.disc.filter (· != vc) } else c
  else if f.head && bad then ((c.discard n vc).inc (Ni.UNCORR_CNT n)).niErr n 3 f.hdr f.hdr.src
  else if c.fenced n then c.sink n vc f
  else if vc = 0 then
    let x := { c.ni n with in0 := x.in0 ++ [f], corr0 := (!f.head && x.corr0) || f.corr, poison0 := (!f.head && x.poison0) || f.poison }
    let c := c.setNi n x
    if f.tail then c.countEcc n f.hdr x.corr0 x.poison0 else c
  else
    let l := (c.ni n).rx vc ++ [f]
    if f.tail then (c.setNi n ((c.ni n).setRx vc [])).arrive n vc (assemble l)
    else c.setNi n ((c.ni n).setRx vc l)

/-! ### Routers -/

/-- The router and input port that an output port leads to; none at the edge of the mesh and for port L (R221). -/
def neighbour (r p : Nat) : Option (Nat × Nat) :=
  let row := r / 7
  let col := r % 7
  if p = 1 then (if 0 < row then some (r - 7, 3) else none)
  else if p = 2 then (if col < 6 then some (r + 1, 4) else none)
  else if p = 3 then (if row < 6 then some (r + 7, 1) else none)
  else if p = 4 then (if 0 < col then some (r - 1, 2) else none)
  else none

/-- Output ownership and round-robin pointers. -/
def Chip.own (c : Chip) (r p vc : Nat) : Nat := mget 0 c.lat.own (qKey r p vc)
def Chip.setOwn (c : Chip) (r p vc v : Nat) : Chip := { c with lat.own := mset 0 c.lat.own (qKey r p vc) v }
def Chip.ptr (c : Chip) (r p vc : Nat) : Nat := mget 0 c.lat.ptr (qKey r p vc)
def Chip.setPtr (c : Chip) (r p vc v : Nat) : Chip := { c with lat.ptr := mset 0 c.lat.ptr (qKey r p vc) v }

/-- Is there a credit for a virtual channel on an output (R240)? The NI behind L takes VC0 always (R322), and VC1–VC3 while its
input queue has room (R280). -/
def Chip.credit (c : Chip) (r p vc : Nat) : Bool :=
  if p = 0 then vc == 0 || decide (c.inqFlits r vc < 8) || c.fenced r
  else match neighbour r p with
    | some (q, i) => c.hasCredit q i vc
    | none => false

/-- The front flit of an input queue wants output `p`: a header by its ROUTE, a later flit by the output its packet
owns (R241, R244). -/
def Chip.wants (c : Chip) (r i vc p : Nat) : Bool :=
  match c.queue r i vc with
  | [] => false
  | f :: _ => if f.head then f.hdr.route % 8 == p else c.own r p vc == i + 1

/-- The front flit of input `i` may use the output channel: nobody owns it, or this input does (R241). -/
def Chip.mayUse (c : Chip) (r i vc p : Nat) : Bool := c.wants r i vc p && (c.own r p vc == 0 || c.own r p vc == i + 1)

/-- Round-robin among the five inputs, after the pointer. -/
def Chip.rrPick (c : Chip) (r p vc : Nat) (ok : Nat → Bool) : Option Nat :=
  ((List.range 5).map (fun i => (c.ptr r p vc + 1 + i) % 5)).find? ok

/-- Priority of the front flit of an input queue; a data flit has its header's (R242). -/
def Chip.frontPrio (c : Chip) (r i vc : Nat) : Nat := ((c.queue r i vc).head?.map (fun f => f.hdr.prio)).getD 0

/-- The flit an output sends: input and virtual channel (R242). -/
def Chip.choose (c : Chip) (r p : Nat) : Option (Nat × Nat) :=
  let vc0 := (List.range 5).find? (fun i => c.mayUse r i 0 p)
  match (if c.credit r p 0 then vc0 else none) with
  | some i => some (i, 0)
  | none =>
    match (if c.credit r p 1 then c.rrPick r p 1 (fun i => c.mayUse r i 1 p) else none) with
    | some i => some (i, 1)
    | none =>
      let ok (k : Nat) : Bool := c.mayUse r (k / 2) (2 + k % 2) p && c.credit r p (2 + k % 2)
      let best := (List.range 10).foldl (fun a k => if ok k then max a (c.frontPrio r (k / 2) (2 + k % 2) + 1) else a) 0
      match ((List.range 10).map (fun i => (c.ptr r p 2 + 1 + i) % 10)).find? (fun k => ok k && c.frontPrio r (k / 2) (2 + k % 2) + 1 == best) with
      | some k => some (k / 2, 2 + k % 2)
      | none => none

/-- A flit is filed at a router input (R225–R227): after an uncorrectable header every flit up to the next TAIL is discarded. -/
def Chip.routerFlit (c : Chip) (r i : Nat) (f : Flit) (e : LinkErr) : Chip :=
  let (vc, bad, f) := linkFile e f
  let k := qKey r i vc
  if mget false c.lat.drop k then
    if f.tail then { c with lat.drop := mset false c.lat.drop k false } else c
  else if f.head && bad then { c with lat.drop := mset false c.lat.drop k true }
  else c.fileFlit r i vc f

/-- COLLISION at router `r` (R242, R337): the VC0 flit at the front of input `i` is not sent on output `p`. -/
def Chip.collision (c : Chip) (r p i other : Nat) : Chip :=
  match c.queue r i 0 with
  | [] => c
  | f :: _ => c.schedFault r { kind := 3, peer := f.hdr.src, chan := f.hdr.tag, port := p, router := r, other := other }

/-- Output `p` of router `r` sends a VC0 flit in this beat: more than 48 of them in 64 beats break R65's condition on the link. -/
def Chip.vc0Sent (c : Chip) (r p : Nat) : Chip :=
  let k := 5 * r + p
  let l : List Nat := mget [] c.lat.vc0 k
  if l.head? = some c.clock then c
  else
    let busy : Map Nat := match l[47]? with
      | some b => if c.clock < b + 64 then mset 0 c.lat.busy0 k (c.clock + 1) else c.lat.busy0
      | none => c.lat.busy0
    { c with lat.vc0 := mset [] c.lat.vc0 k (c.clock :: l.take 47), lat.busy0 := busy }

/-- Output `p` of router `r` sends one flit, filed at the next input or at the node's NI (R240–R244, R980). VC0 flits
that want the output and are not sent raise COLLISION. -/
def Chip.hop (c : Chip) (r p : Nat) (e : LinkErr) : Chip :=
  let c := forN 4 (fun vc c => c.feed r vc) c
  let want0 := (List.range 5).filter (fun i => c.wants r i 0 p)
  match c.choose r p with
  | none => forL want0 (fun i c => c.collision r p i 127) c
  | some (i, vc) =>
    match c.queue r i vc with
    | [] => c
    | f :: _ =>
      let c0 := c
      let lose := if vc = 0 then want0.filter (· != i) else want0
      let c := c.popFlit r i vc
      let c := c.setOwn r p vc (if f.tail then 0 else i + 1)
      let c := if vc = 1 then c.setPtr r p 1 i else if vc = 0 then c else c.setPtr r p 2 (2 * i + (vc - 2))
      let c := if vc = 0 then c.vc0Sent r p else c
      let g := if f.head then { f with hdr := { f.hdr with route := f.hdr.route / 8 } } else f
      let c := match neighbour r p with
        | some (q, k) => c.routerFlit q k g e
        | none => c.niFlit r g e
      forL lose (fun j c =>
        match c0.queue r j 0 with
        | [] => c
        | x :: _ => c.schedFault r { kind := 3, peer := x.hdr.src, chan := x.hdr.tag, port := p, router := r,
                                     other := if vc = 0 then f.hdr.src else 127 }) c

/-! ### Responses and timeouts -/

/-- A tag's request ends: the tag frees, at generation `g` (R258). -/
def Chip.freeTag (c : Chip) (n t g : Nat) : Chip := c.setTag n t { gen := g, held := (c.tag n t).held }

/-- The initiator NI accepts or discards the oldest response (R257, R275, R986). -/
def Chip.acceptRsp (c : Chip) (n : Nat) : Chip :=
  match (c.ni n).in1 with
  | [] => c
  | p :: ps =>
    let c := c.setNi n { c.ni n with in1 := ps }
    let h := p.hdr
    if h.dst ≠ n then (c.niErr n 7 h h.src).dropErr n h h.src
    else
      let x := c.tag n h.tag
      if x.busy && x.gen == h.gen then
        (c.freeTag n h.tag x.gen).deliver n x.owner (if p.poison then stData else h.status) p.words
      else c.dropErr n h h.src

/-- The header of a response to the request in flight under tag `t` has reached the NI (R257, R291). -/
def Chip.answered (c : Chip) (n t : Nat) : Bool :=
  let mine (h : Hdr) : Bool := h.dst == n && h.tag == t && h.gen == (c.tag n t).gen
  (c.ni n).in1.any (fun p => mine p.hdr) || (c.ni n).rx1.any (fun f => f.head && mine f.hdr)

/-- A request's timer expires (R258, R259, R262): the generation it ends is held back. A response whose header is at the NI is
delivered instead (R291). -/
def Chip.requestTimeout (c : Chip) (n t : Nat) : Chip :=
  let x := c.tag n t
  if x.busy && x.timer && !c.answered n t then
    let h := { x.hdr with status := stTimeout }
    (((c.setTag n t { gen := (x.gen + 1) % 4, held := x.held ++ [x.gen] }).inc (Ni.TMO_CNT n)).niErr n 0 h h.dst).deliver n x.owner
      stTimeout []
  else c

/-- The oldest hold-back of a tag ends (R259). -/
def Chip.tagRelease (c : Chip) (n t : Nat) : Chip :=
  let x := c.tag n t
  c.setTag n t { x with held := x.held.drop 1 }

/-! ### Route entries -/

/-- The twelve port codes of a route, least significant first. -/
def routeCodes (r : Nat) : List Nat := (List.range 12).map (fun i => r / 8 ^ i % 8)

/-- Where a route leads from a node: the moves before the first 0; none where a move leaves the mesh. -/
def followRoute : Nat → List Nat → Option Nat
  | n, [] => some n
  | n, 0 :: _ => some n
  | n, p :: ps => match neighbour n p with
    | some (q, _) => followRoute q ps
    | none => none

/-- The links of a route from a node, as 5 × router + port, the last one into the destination's NI. -/
def routeLinks : Nat → List Nat → List Nat
  | n, [] => [5 * n]
  | n, 0 :: _ => [5 * n]
  | n, p :: ps => match neighbour n p with
    | some (q, _) => (5 * n + p) :: routeLinks q ps
    | none => []

/-- No W code after an N, E or S code (R246 cause 2). -/
def westFirst : Bool → List Nat → Bool
  | _, [] => true
  | seen, p :: ps => if p = 4 then !seen && westFirst seen ps else westFirst (seen || (p != 0)) ps

/-- No N code beside an S code (R246 cause 3). -/
def noUturn : List Nat → Bool
  | p :: q :: ps => !((p == 1 && q == 3) || (p == 3 && q == 1)) && noUturn (q :: ps)
  | _ => true

/-- Every code after the first 0 is 0 (R246 cause 5). -/
def zeroTail : List Nat → Bool
  | [] => true
  | p :: ps => if p = 0 then ps.all (· == 0) else zeroTail ps

/-- The first cause of the **Route check** table that an entry fails (R246, R247). -/
def routeCheck (n e route dst : Nat) : Option Nat :=
  let cs := routeCodes route
  if cs.any (fun p => decide (5 ≤ p)) then some 1
  else if !westFirst false cs then some 2
  else if !noUturn cs then some 3
  else if (followRoute n cs).isNone then some 4
  else if !zeroTail cs then some 5
  else if followRoute n cs ≠ some (if e ≤ 48 then e else if twinNode dst then 6 else dst) then some 6
  else if (if e ≤ 48 then dst != e else (decide (49 ≤ dst) && decide (dst ≤ 63)) || decide (113 ≤ dst)) then some 7
  else none

/-- A write of word +0x104 + 8e forms and checks the entry (R246, R247, R290). Answers the status. -/
def Chip.routeWrite (c : Chip) (n e w : Nat) : Nat × Chip :=
  let route := c.f (Ni.ROUTE_STAGE n) + bits w 3 0 * 2 ^ 32
  let dst := bits w 14 8
  match routeCheck n e route dst with
  | some cause =>
    (stAddr, (((c.put (Ni.ROUTE_REF_ENTRY n) e).put (Ni.ROUTE_REF_CAUSE n) cause).niErr n 1
      { dst := dst, offset := 0x1F00104 + 8 * e } dst))
  | none =>
    (stOk, (((c.put (Ni.ROUTEe_LO n e) (route % 2 ^ 32)).put (Ni.ROUTEe_HI n e) (route / 2 ^ 32)).put
      (Ni.ROUTEe_DST n e) dst).putB (Ni.ROUTEe_VALID n e) (bit w 31))

/-! ### Node resets -/

/-- A node reset begins at the NI (R273–R278, R294): requests accepted and not answered are answered NODE_FENCED,
partly sent packets end POISONed, tags free with a new generation, queues clear, and the block's fields without N
return to reset. -/
def Chip.niReset (c : Chip) (n : Nat) : Chip :=
  let x := c.ni n
  let part2 := (x.rx2.head?.map (fun f => [f.hdr])).getD []
  let undone := ((x.in2 ++ x.parked).map Pkt.hdr) ++ part2
  let answers := undone.map fencedRsp ++ x.rsp.map (fun p => { hdr := { p.hdr with status := stFenced } })
  let tags := x.tags.map (fun e => if e.2.busy then (e.1, { gen := (e.2.gen + 1) % 4, held := e.2.held }) else e)
  let open0 := match x.in0.getLast? with | some f => !f.tail | none => false
  let disc := x.disc ++ (if open0 then [0] else []) ++ (if x.rx1.isEmpty then [] else [1]) ++ (if x.rx2.isEmpty then [] else [2])
    ++ (if x.rx3.isEmpty then [] else [3])
  let out := x.out.map (fun e => (e.1, e.2.map (fun f => { f with poison := true })))
  let c := c.setNi n { tags := tags.filter (fun e => e.2 != {}), rsp := answers, disc := disc, sseq := x.sseq, errPost := x.errPost,
                       out := out, refilled := x.refilled }
  let c := c.resetRegs svN (fun a => decide (niBase n ≤ a) && decide (a < niBase n + 0x800))
  c.putB (Ni.FENCED n) true

/-- The node reports ready (R982). -/
def Chip.niReady (c : Chip) (n : Nat) : Chip := c.putB (Ni.FENCED n) false

end Sys2Proof.Machine
end

