-- ==== Sys2Proof/Machine/Switch.lean ====
section
/-! DEFINITION. Load-switch channels: wanting and conducting, trips and pauses, temperature limits, FOLLOW mode, the
policy watchdog, bus dips and the staggered return, mirror words (R677–R721). -/

namespace Sys2Proof.Machine

open Reg

def Chip.lsw (c : Chip) (n : Nat) : LswH := mget {} c.sw.ch n
def Chip.setLsw (c : Chip) (n : Nat) (h : LswH) : Chip := { c with sw.ch := mset {} c.sw.ch n h }

/-- B1 posts a switch event, but not while VDDH is off (R719). -/
def Chip.postLsw (c : Chip) (idx : Nat) (fs : List (Nat × Nat)) : Chip := if c.pw.vddh then c.post 18 7 idx fs else c

/-- WANT (R679); a Shadow's MODE field holds its effective MODE (R711). -/
def Chip.lswWants (c : Chip) (n : Nat) : Bool :=
  c.f (Lsw.MODE n) == 1 || (c.f (Lsw.MODE n) == 2 && c.b (Lsw.IN n))

/-- Nothing but the bus keeps the channel off (R680, R705); DORMANT_FAULT holds every channel off (R891). -/
def Chip.lswReady (c : Chip) (n : Nat) : Bool :=
  c.lswWants n && !c.b (Lsw.PAUSE n) && !c.b (Lsw.THERM n) && !c.b (Lsw.LATCHED n) && c.pw.mode != .dormant

/-- STAGGER in free beats: 0.5 ms for each code (R705). -/
def Chip.stagger (c : Chip) : Nat := 400000 * (c.f Sw.STAGGER + 1)

/-- RETURNING: channels still wait for their slots. -/
def Chip.returning (c : Chip) : Chip := c.putB Sw.RETURNING (!c.sw.order.isEmpty)

/-- The first start of a return is posted (R705). -/
def Chip.firstStart (c : Chip) : Chip :=
  if c.sw.first then { c with sw.first := false }.postLsw 6 [(16, c.f Board.VBUS12)] else c

/-- The beat one STAGGER after the last start scheduled, if there is one; none when it has passed (R706). -/
def Chip.nextSlot (c : Chip) : Option Nat :=
  match c.sw.last with
  | none => none
  | some b => if c.sw.order.isEmpty && decide (b + c.stagger ≤ c.clock) then none else some (b + c.stagger)

/-- The channel joins the return order, or starts at once when its slot has passed (R706). -/
def Chip.joinReturn (c : Chip) (n : Nat) : Chip :=
  if c.sw.order.contains n then c
  else match c.nextSlot with
    | none => ({ c with sw.last := some c.clock }.putB (Lsw.BUS_OFF n) false).firstStart
    | some t => { c with sw.order := c.sw.order ++ [n], sw.last := some t }.returning

/-- Bring CONDUCT in line with R680; `full` says that a start is a full start whatever the mode (R685, R691, R696). -/
def Chip.lswEval (c : Chip) (n : Nat) (full : Bool) : Chip :=
  let c := c.putB (Lsw.WANT n) (c.lswWants n)
  let ready := c.lswReady n
  let c := if ready && c.b (Lsw.BUS_OFF n) && c.sw.back then c.joinReturn n
           else if !c.lswWants n && c.sw.order.contains n then { c with sw.order := c.sw.order.filter (· != n) }.returning else c
  let on := ready && !c.b (Lsw.BUS_OFF n)
  let was := c.b (Lsw.CONDUCT n)
  if on && !was then
    let h := c.lsw n
    let short := !full && c.f (Lsw.MODE n) == 2 && (match h.off with | some b => decide (c.clock - b < 8000000) | none => false)
    (((c.putB (Lsw.CONDUCT n) true).putB (Lsw.START n) true).setLsw n { h with short := short })
  else if !on && was then
    ((c.putB (Lsw.CONDUCT n) false).putB (Lsw.START n) false).setLsw n { c.lsw n with off := some c.clock, offOut := !c.b (Lsw.START n) }
  else c

/-- The mirror word of a channel (R712). -/
def Chip.mirrorWord (c : Chip) (n : Nat) : Nat :=
  c.f (Lsw.MODE n) + b2n (c.b (Lsw.LATCHED n)) * 2 ^ 4 + c.f (Lsw.TRIPS n) * 2 ^ 8 + c.f (Lsw.RANK n) * 2 ^ 12
    + c.f Sw.MSEQ * 2 ^ 16 + c.f (Lsw.ILIM n) * 2 ^ 24

/-- At a Primary a changed MODE, LATCHED, TRIPS, RANK or ILIM advances MSEQ and sends the channel's mirror word
(R712): `old` is the chip before the change. -/
def Chip.lswMirror (c : Chip) (old : Chip) (n : Nat) : Chip :=
  let key (x : Chip) := (x.f (Lsw.MODE n), x.f (Lsw.LATCHED n), x.f (Lsw.TRIPS n), x.f (Lsw.RANK n), x.f (Lsw.ILIM n))
  if c.primary && key c != key old then
    let c := c.put Sw.MSEQ (c.f Sw.MSEQ + 1)
    c.request 18 { hdr := { vc := 2, prio := 2, typ := 2, src := 18, dst := 82, offset := 0x1002480 + 4 * n, be := 15, priv := true },
                   words := [BitVec.ofNat 32 (c.mirrorWord n)] } .mirror
  else c

/-- A change to a channel: settle its output and mirror it. -/
def Chip.lswDone (c : Chip) (old : Chip) (n : Nat) (full : Bool) : Chip := (c.lswEval n full).lswMirror old n

/-- The section itself changes MODE (R22, R679, R701). -/
def Chip.lswMode (c : Chip) (n m : Nat) : Chip := (c.hwSet (Lsw.MODE n) m).lswDone c n false

/-- A write of ILIM, clamped to ILIM_MAX (R683). -/
def Chip.lswIlim (c : Chip) (n v tenant : Nat) : Chip :=
  let mx := c.f (Lsw.ILIM_MAX n)
  let c' := c.put (Lsw.ILIM n) (min v mx)
  (if mx < v then c'.ceilClamp 18 n tenant else c').lswDone c n false

/-- CMD.LATCH_CLR (R684), in one beat with the word's MODE; `old` is the chip before the write. -/
def Chip.latchClr (c : Chip) (n tenant : Nat) (old : Chip) : Chip :=
  (((((c.putB (Lsw.LATCHED n) false).put (Lsw.TRIPS n) 0).putB (Lsw.PAUSE n) false).put (Lsw.PAUSE_LEFT n) 0).postLsw 3
    [(8, n), (8, tenant)]).lswDone old n true

/-- The channel conducts outside blanking, or did so in this beat until a temperature limit or a command turned it off (R689, R722, R723);
a bus dip leaves no trip to count (R79). -/
def Chip.canTrip (c : Chip) (n : Nat) : Bool :=
  let h := c.lsw n
  (c.b (Lsw.CONDUCT n) && !c.b (Lsw.START n))
    || (h.off == some c.clock && h.offOut && h.tripAt != some c.clock && !c.b (Lsw.CONDUCT n) && !c.b (Lsw.BUS_OFF n))

/-- An over-current trip outside blanking (R689). -/
def Chip.lswOc (c : Chip) (n cur : Nat) : Chip :=
  if c.canTrip n then
    let old := c
    let c := c.setLsw n { c.lsw n with tripAt := some c.clock }
    let t := min 15 (c.f (Lsw.TRIPS n) + 1)
    let d := ((c.put (Lsw.TRIPS n) t).inc (Lsw.TRIP_CNT n)).postLsw 1 [(8, n), (8, t), (16, cur)]
    let d := if max 1 (c.f (Lsw.RETRY_N n)) ≤ t then (d.putB (Lsw.LATCHED n) true).postLsw 2 [(8, n), (8, t)]
      else ((d.putB (Lsw.PAUSE n) true).put (Lsw.PAUSE_LEFT n) (min 512 ((c.f (Lsw.RETRY_BASE n) + 1) * 2 ^ (t - 1)))).setLsw n
        { d.lsw n with pauseAt := c.clock }
    d.lswDone old n false
  else c

/-- PAUSE_LEFT counts down once in 1 ms of free time (R689); its last millisecond is the pause's end. -/
def Chip.pauseTick (c : Chip) (n : Nat) : Chip :=
  if c.b (Lsw.PAUSE n) && (c.clock - (c.lsw n).pauseAt) % 800000 == 0 && decide (1 < c.f (Lsw.PAUSE_LEFT n)) then
    c.put (Lsw.PAUSE_LEFT n) (c.f (Lsw.PAUSE_LEFT n) - 1)
  else c

/-- The pause has counted down to 0 (R689, R691). -/
def Chip.pauseEnd (c : Chip) (n : Nat) : Chip :=
  if c.b (Lsw.PAUSE n) then ((c.putB (Lsw.PAUSE n) false).put (Lsw.PAUSE_LEFT n) 0).lswDone c n true else c

/-- 1,000 ms of continuous conduction outside blanking (R689). -/
def Chip.tripsReset (c : Chip) (n : Nat) : Chip :=
  if c.b (Lsw.CONDUCT n) && !c.b (Lsw.START n) then (c.put (Lsw.TRIPS n) 0).lswDone c n false else c

/-- The temperature limit DT_LIM in 0.5 K steps (R693). -/
def Chip.dtLim (c : Chip) (n : Nat) : Nat := 40 + 10 * c.f (Lsw.DT_LIM n)

/-- A temperature limit is exceeded (R693, R694): THERM_CNT counts the turn-offs. TJ in °C, TJ − TC in 0.5 K. -/
def Chip.lswTherm (c : Chip) (n : Nat) (tj : Int) (dt : Nat) : Chip :=
  let byDt := decide (c.dtLim n < dt)
  if (byDt || decide (175 < tj)) && !c.b (Lsw.THERM n) then
    let h := c.lsw n
    let post := c.pw.vddh && (match h.thermPost with | none => true | some b => decide (80000000 ≤ c.clock - b))
    let d := c.putB (Lsw.THERM n) true
    let d := if c.b (Lsw.CONDUCT n) || h.off == some c.clock then d.inc (Lsw.THERM_CNT n) else d
    let d := if post then (d.postLsw 4 [(8, n), (8, if byDt then 0 else 1), (8, dt), (16, low 16 tj)]).setLsw n
        { d.lsw n with thermPost := some c.clock } else d
    d.lswDone c n false
  else c

/-- The temperatures have fallen to the release levels (R694). -/
def Chip.thermClear (c : Chip) (n : Nat) (tj : Int) (dt : Nat) : Chip :=
  if c.b (Lsw.THERM n) && decide (dt + 20 ≤ c.dtLim n) && decide (tj ≤ 165) then
    (c.putB (Lsw.THERM n) false).lswDone c n true
  else c

/-- The filtered level takes the input's level, if no bar forbids that edge (R695). -/
def Chip.followAccept (c : Chip) (n : Nat) : Chip :=
  let h := c.lsw n
  if h.raw != c.b (Lsw.IN n) && !h.barOpp && !(h.raw && h.barRise) then
    ((c.putB (Lsw.IN n) h.raw).setLsw n { h with barOpp := true, barRise := h.barRise || h.raw }).lswDone c n false
  else c

/-- A level of LSW_INn has been stable for 2 µs (R695). -/
def Chip.followEdge (c : Chip) (n : Nat) (level : Bool) : Chip := (c.setLsw n { c.lsw n with raw := level }).followAccept n

/-- A bar of R695 ends: the 50 µs bar on the opposite edge, or the 500 µs bar on a rising edge. -/
def Chip.followBar (c : Chip) (n : Nat) (rise : Bool) : Chip :=
  (if rise then c.setLsw n { c.lsw n with barRise := false } else c.setLsw n { c.lsw n with barOpp := false }).followAccept n

/-- An expiry of this beat is taken back, for a kick in its beat counts as in time (R725): the channels are as they were, and the event is
withdrawn where it still waits at the NI. -/
def Chip.unexpire (c : Chip) : Chip :=
  let was := c.sw.was
  let c := forN 16 (fun n c =>
    match was[n]? with
    | some x =>
      if x.mode = c.f (Lsw.MODE n) then c
      else (((c.put (Lsw.MODE n) x.mode).setReg (Lsw.CONDUCT n).addr x.stat).setLsw n x.h).lswMirror c n
    | none => c) { c with sw.expired := 0, sw.was := [] }
  let i := c.ni 18
  let ev (p : Pkt) : Bool := p.hdr.typ == 4 && wordAt p.words 0 % 65536 == evCode 7 7
  match i.send3.reverse with
  | p :: ps => if ev p then c.setNi 18 { i with send3 := ps.reverse, sseq := (i.sseq + 65535) % 65536 } else c
  | [] => c

/-- A write to WDT_KICK with PRIV (R699, R702, R725). -/
def Chip.wdtKick (c : Chip) (v : Nat) : Chip :=
  if v = 0xA55A then
    let c := if c.sw.expired = c.clock + 1 then c.unexpire else c
    { c with sw.kick := c.clock + 1 }.putB Sw.WDT_EXP false
  else c.hwSet Sw.KICK_BAD 1

/-- The watchdog period ends without a kick (R700, R701, R703, R725): not with WDT_PER 0, in DEEP or in Shadow mode. -/
def Chip.wdtExpire (c : Chip) : Chip :=
  if c.f Sw.WDT_PER = 0 || c.shadow || !c.pw.vddh || c.sw.kick == c.clock + 1 then c
  else
    let c := { c with sw.expired := c.clock + 1,
                      sw.was := (List.range 16).map (fun n => ⟨c.f (Lsw.MODE n), c.reg (Lsw.CONDUCT n).addr, c.lsw n⟩) }
    let d := (c.putB Sw.WDT_EXP true).postLsw 7 ((List.range 16).map (fun n => (8, c.f (Lsw.SAFE_ACT n))))
    forN 16 (fun n e =>
      match c.f (Lsw.SAFE_ACT n) with
      | 1 => e.lswMode n 0
      | 2 => e.lswMode n 1
      | _ => e) d

/-- VBUS12 falls below 5.0 V (R704, R707). -/
def Chip.busOff (c : Chip) : Chip :=
  let c := { c with sw.back := false, sw.order := [], sw.last := none, sw.first := false }
  let c := c.putB Sw.RETURNING false
  (forN 16 (fun n d => (d.putB (Lsw.BUS_OFF n) true).lswEval n false) c).postLsw 5 [(16, c.f Board.VBUS12)]

/-- Insert a channel by RANK, ties by number (R705). -/
def insertRank (rank : Nat → Nat) (n : Nat) : List Nat → List Nat
  | [] => [n]
  | m :: ms => if rank n < rank m then n :: m :: ms else m :: insertRank rank n ms

/-- A channel's slot in the return comes (R705). One that a THERM or a latch holds off by then stays under BUS_OFF, and joins the order again when
that ends (R706). -/
def Chip.returnStart (c : Chip) (n : Nat) : Chip :=
  let c := { c with sw.order := c.sw.order.filter (· != n) }
  if c.lswReady n then ((c.putB (Lsw.BUS_OFF n) false).lswEval n true).firstStart else c

/-- VBUS12 has stayed above 5.5 V for 1.0 ms (R705): the order is formed and its first channel starts. -/
def Chip.busReturn (c : Chip) : Chip :=
  if c.sw.back then c
  else
    let ord := ((List.range 16).filter c.lswReady).foldl (fun l n => insertRank (fun m => c.f (Lsw.RANK m)) n l) []
    let c := { c with sw.back := true, sw.order := ord, sw.first := true,
                      sw.last := if ord.isEmpty then none else some (c.clock + c.stagger * (ord.length - 1)) }
    match ord with
    | [] => c.returning
    | n :: _ => (c.returnStart n).returning

/-- The next slot of the return. -/
def Chip.returnSlot (c : Chip) : Chip :=
  match c.sw.order with
  | [] => c
  | n :: _ => (c.returnStart n).returning

/-- Addresses of the switch section's blocks (R708). -/
def lswBlock (a : Nat) : Bool := decide (nodeBase 18 + 0x1002000 ≤ a) && decide (a < nodeBase 18 + 0x1002500)

/-- VBUS12 below 3.0 V while VAUX is out of range: the switch section loses its state (R709). -/
def Chip.retainLost (c : Chip) : Chip :=
  let c := { c with image := c.image.filter (fun e => !lswBlock e.1), regs := c.regs.filter (fun e => !lswBlock e.1),
                    sw := { back := c.sw.back, lostPost := true } }
  if c.pw.vddh then { c with sw.lostPost := false }.post 18 7 8 [] else c

/-- B1 posts LSW_RETAIN_LOST once VDDH is up (R709). -/
def Chip.retainPost (c : Chip) : Chip :=
  if c.sw.lostPost then { c with sw.lostPost := false }.post 18 7 8 [] else c

/-- A Shadow's B1 takes the values of a mirror word (R711–R714): the effective MODE is OFF where the Primary is LATCHED.
DESIGN CHOICE (notes/assumptions/141.md): its CEILING_CLAMP carries tenant 7. -/
def Chip.mirrorTake (c : Chip) (n w : Nat) : Chip :=
  let latched := bit w 4
  let mode := if latched then 0 else w % 4
  let ilim := bits w 29 24
  let mx := c.f (Lsw.ILIM_MAX n)
  let d := if mode = 3 then c else c.hwSet (Lsw.MODE n) mode
  let d := ((((d.put (Lsw.TWIN_TRIPS n) (bits w 11 8)).putB (Lsw.TWIN_LATCHED n) latched).hwSet (Lsw.RANK n) (bits w 15 12)).hwSet
    (Lsw.ILIM n) (min ilim mx))
  (if mx < ilim then d.ceilClamp 18 n 7 else d).lswEval n false

/-- A mirror word is written at a Shadow's B1 (R712, R713). -/
def Chip.mirrorApply (c : Chip) (n w : Nat) : Chip :=
  let c := c.setLsw n { c.lsw n with mirror := BitVec.ofNat 32 w, mirrorAt := c.clock + 1 }
  { c with sw.applied := some (bits w 23 16) }.mirrorTake n w

/-- Most that the channel lets through, in 1/8 A: the profile's inrush ceiling during a start (R685, R696), else ILIM (R688). -/
def Chip.lswLimit (c : Chip) (n : Nat) : Nat :=
  let e := 4 + 2 * c.f (Lsw.ILIM n)
  if !c.b (Lsw.START n) then e
  else match c.f (Lsw.PROFILE n) with
    | 0 => min (3 * e) 72
    | 1 => min (2 * e) 72
    | 2 => e
    | _ => min (3 * e / 2) 72

/-- Rise time of the present start, in µs: a short start's, else the profile's soft start (R685, R696). -/
def Chip.lswRise (c : Chip) (n : Nat) : Nat :=
  if (c.lsw n).short then 5
  else match c.f (Lsw.PROFILE n) with
    | 0 => 500
    | 1 => 10000
    | 2 => 2000
    | _ => 200

/-- Blanking of the present start, in µs (R685, R696). -/
def Chip.lswBlank (c : Chip) (n : Nat) : Nat :=
  if (c.lsw n).short then 20
  else match c.f (Lsw.PROFILE n) with
    | 0 => 20000
    | 1 => 100000
    | 2 => 5000
    | _ => 2000

/-- A channel's sample (R717). -/
def Chip.lswSample (c : Chip) (n iout tj dt : Nat) : Chip :=
  ((c.put (Lsw.IOUT n) iout).put (Lsw.TJ n) tj).put (Lsw.DT n) dt

/-- The DATA of the switch stream (R718). -/
def Chip.lswStream (c : Chip) : Nat :=
  sumN 16 (fun n => b2n (c.b (Lsw.CONDUCT n)) * 2 ^ n + b2n (c.b (Lsw.WANT n)) * 2 ^ (16 + n)
    + b2n (c.b (Lsw.LATCHED n)) * 2 ^ (32 + n) + b2n (c.b (Lsw.IN n)) * 2 ^ (48 + n))

/-- A takeover keeps every channel and clears what it held of the Primary (R716). -/
def Chip.lswTakeover (c : Chip) : Chip :=
  forN 16 (fun n c => (c.put (Lsw.TWIN_TRIPS n) 0).putB (Lsw.TWIN_LATCHED n) false) c

end Sys2Proof.Machine
end

