-- ==== Sys2Proof/Machine/Glaze.lean ====
section
/-! DEFINITION. The Glaze array as it runs: the fabric that the configuration frames describe, the four-phase
handshake of its storage elements and ports, the G-port channels, Glaze memories, VDD_G and the replica rings
(R154–R220, R838–R842, R866–R868). -/

namespace Sys2Proof.Machine

open Reg

/-- States of the array (R843). -/
def gEmpty : Nat := 0
@[inherit_doc gEmpty] def gStopped : Nat := 1
@[inherit_doc gEmpty] def gStarting : Nat := 2
@[inherit_doc gEmpty] def gRun : Nat := 3
@[inherit_doc gEmpty] def gStopping : Nat := 4

/-! ### Configuration bits -/

/-- Bit `b` of frame `fr` of column `col` (R838). -/
def Chip.frameBit (c : Chip) (col fr b : Nat) : Bool :=
  (mget 0 c.gl.frames (48 * (128 * col + fr) + b / 32)).getLsbD (b % 32)

/-- Area bit `b` of the eight frames of row `r` (R841). -/
def Chip.areaBit (c : Chip) (col r b : Nat) : Bool := c.frameBit col (8 * r + b / 1536) (b % 1536)

/-- The field of `w` bits from area bit `lo`. -/
def Chip.area (c : Chip) (col r lo w : Nat) : Nat := sumN w (fun i => if c.areaBit col r (lo + i) then 2 ^ i else 0)

/-- Some configuration word of row `r` of the column is not 0. -/
def Chip.blockUsed (c : Chip) (col r : Nat) : Bool :=
  c.gl.frames.any (fun e => e.1 / 48 / 128 == col && e.1 / 48 % 128 / 8 == r)

/-! ### Signals -/

/-- What issues tokens in the array. -/
inductive GSrc where
  /-- macrocell m of block (c, r) -/
  | mc (c r m : Nat)
  /-- spine k of column c (R176): 0–3 droop, 4–9 over-current, 10–11 HINT -/
  | spine (c k : Nat)
  /-- bit b of input channel k of port n -/
  | chan (n k b : Nat)
  | gio (g : Nat)
  /-- response drive j of memory m: RDATA bit j, and 9 the completion of a write -/
  | gmem (m j : Nat)
  deriving DecidableEq, Repr

/-- A wire into a block: its source, and the boundary-cell index it has at an edge (R842). -/
structure GWire where
  src : GSrc
  cell : Nat
  deriving DecidableEq, Repr

/-- Physical position of a column (R839, R865). -/
def posOf (c : Nat) : Nat := if c < 8 then c else if c = 16 then 8 else if c < 16 then c + 1 else c

/-- Column at a physical position. -/
def colAt (p : Nat) : Nat := if p < 8 then p else if p = 8 then 16 else if p ≤ 16 then p - 1 else p

/-- Position of a source. -/
def GSrc.pos : GSrc → Nat
  | .mc c _ _ => posOf c
  | .spine c _ => posOf c
  | .chan _ _ _ => 18
  | .gio _ => 18
  | .gmem m _ => if m < 12 then 8 else 17

/-- A drive field of 14 bits enables row track `t`, or column track `t` (R841). -/
def drivesRow (d t : Nat) : Bool := bit d 6 && d % 64 == t
@[inherit_doc drivesRow] def drivesCol (d t : Nat) : Bool := bit d 13 && bits d 12 7 == t

/-- The drive of a macrocell, of a memory response, of an input drive of column 18 (R840, R841). -/
def Chip.mcDrive (c : Chip) (col r m : Nat) : Nat := c.area col r (8064 + 14 * m) 14
@[inherit_doc Chip.mcDrive] def Chip.memDrive (c : Chip) (m j : Nat) : Nat :=
  c.area (16 + m / 12) (m % 12) (272 + 14 * j) 14
@[inherit_doc Chip.mcDrive] def Chip.inDrive (c : Chip) (i : Nat) : Nat := c.area 18 1 (16 * i) 14

/-- The sources whose row drive, and whose column drive, lies in a row, or a column (R840): with their drive. -/
def Chip.rowSources (c : Chip) (r : Nat) : List (GSrc × Nat) :=
  ((List.range 16).flatMap (fun col => if c.blockUsed col r then
      (List.range 16).map (fun m => (GSrc.mc col r m, c.mcDrive col r m)) else []))
  ++ ([r, 12 + r].flatMap (fun m => if c.blockUsed (16 + m / 12) r then
      (List.range 10).map (fun j => (GSrc.gmem m j, c.memDrive m j)) else []))
  ++ (if c.blockUsed 18 1 then
      ((List.range 96).filter (fun g => g / 8 == r)).map (fun g => (GSrc.gio g, c.inDrive g))
      ++ (if r < 8 then (List.range 4).flatMap (fun n => (List.range 16).map (fun b =>
          (GSrc.chan n r b, c.inDrive (96 + 128 * n + 16 * r + b)))) else []) else [])

@[inherit_doc Chip.rowSources] def Chip.colSources (c : Chip) (col : Nat) : List (GSrc × Nat) :=
  ((List.range 12).flatMap (fun r => if c.blockUsed col r then
      (List.range 16).map (fun m => (GSrc.mc col r m, c.mcDrive col r m)) else []))
  ++ (if c.blockUsed 18 1 then
      ((List.range 96).filter (fun g => g % 16 == col)).map (fun g => (GSrc.gio g, c.inDrive g))
      ++ [2 * (col % 4), 2 * (col % 4) + 1].flatMap (fun k => (List.range 16).map (fun b =>
          (GSrc.chan (col / 4) k b, c.inDrive (96 + 128 * (col / 4) + 16 * k + b)))) else [])

/-- The source of row track `t` of row `r`, and of column track `t` of a column. -/
def Chip.rowTrack (c : Chip) (r t : Nat) : Option GSrc :=
  ((c.rowSources r).find? (fun x => drivesRow x.2 t)).map Prod.fst
@[inherit_doc Chip.rowTrack] def Chip.colTrack (c : Chip) (col t : Nat) : Option GSrc :=
  ((c.colSources col).find? (fun x => drivesCol x.2 t)).map Prod.fst

/-- The wire a routed-input select names at block (col, r) (R166, R841). -/
def Chip.wireOf (c : Chip) (col r sel : Nat) : Option GWire :=
  if sel < 16 then (if 0 < r then some ⟨.mc col (r - 1) sel, 0⟩ else none)
  else if sel < 32 then (if col < 15 then some ⟨.mc (col + 1) r (sel - 16), 64 * r + 48 + (sel - 16)⟩ else none)
  else if sel < 48 then (if r < 11 then some ⟨.mc col (r + 1) (sel - 32), 0⟩ else none)
  else if sel < 64 then (if 0 < col then some ⟨.mc (col - 1) r (sel - 48), 64 * r + 48 + (sel - 48)⟩ else none)
  else if sel < 112 then (c.rowTrack r (sel - 64)).map (fun s => ⟨s, 64 * r + (sel - 64)⟩)
  else if sel < 160 then (c.colTrack col (sel - 112)).map (fun s => ⟨s, 0⟩)
  else if sel < 172 then some ⟨.spine col (sel - 160), 0⟩
  else if sel < 184 then (if 0 < col then some ⟨.spine (col - 1) (sel - 172), 768 + (sel - 172)⟩ else none)
  else if sel < 196 then (if col < 15 then some ⟨.spine (col + 1) (sel - 184), 768 + (sel - 184)⟩ else none)
  else if sel < 212 then (if 0 < r then some ⟨.mc col (r - 1) (sel - 196), 0⟩ else none)
  else none

/-- The wire at routed input `i` of block (col, r). -/
def Chip.routed (c : Chip) (col r i : Nat) : Option GWire := c.wireOf col r (c.area col r (7744 + 8 * i) 8)

/-! ### Overpaint regions -/

/-- The region that holds a position, if it is not IDLE (R865, R866). -/
def Chip.regionAt (c : Chip) (p : Nat) : Option Nat :=
  (List.range 8).find? (fun r => c.b (Gcfg.REGIONr_EN r) && c.f (Gcfg.REGIONr_STATE r) != 0
    && decide (c.f (Gcfg.REGIONr_FIRST r) ≤ p) && decide (p ≤ c.f (Gcfg.REGIONr_LAST r)))

/-- Storage elements and level ports at a position are held in region reset. -/
def Chip.posHeld (c : Chip) (p : Nat) : Bool :=
  match c.regionAt p with | some r => !mget false c.gl.regSr r | none => false

/-- The outputs of a position are at rest in region reset. -/
def Chip.posRest (c : Chip) (p : Nat) : Bool :=
  match c.regionAt p with | some r => !mget false c.gl.regRel r | none => false

/-- The array issues tokens: released (R853), and not in STANDBY (R901). -/
def Chip.issues (c : Chip) : Bool := c.gl.sr && c.f Power.STATE != 1

/-- Elements at a position are released to run (R853, R870, R901). -/
def Chip.running (c : Chip) (p : Nat) : Bool := c.issues && !c.posHeld p

/-- The value a boundary cell presents: frames 96 and 97 for wires from the west, 98 and 99 from the east (R840,
R842); none for EMPTY. -/
def Chip.restCell (c : Chip) (p : Nat) (west : Bool) (cell : Nat) : Option Bool :=
  let fr := if west then 96 else 98
  let b := 2 * cell
  let v := b2n (c.frameBit (colAt p) (fr + b / 1536) (b % 1536)) + 2 * b2n (c.frameBit (colAt p) (fr + (b + 1) / 1536) ((b + 1) % 1536))
  if v = 0 then some false else if v = 1 then some true else none

/-- The position nearest to consumer `q`, on the way from a source at `p`, at which a region at rest cuts the wire. -/
def Chip.cutAt (c : Chip) (p q : Nat) : Option Nat :=
  if p = q then none
  else if p < q then ((List.range (q - p)).map (fun i => q - 1 - i)).find? c.posRest
  else ((List.range (p - q)).map (fun i => q + 1 + i)).find? c.posRest

/-! ### Tokens -/

/-- The number of a macrocell. -/
def mcNo (c r m : Nat) : Nat := 16 * (12 * c + r) + m

/-- The token of a source, none for a spacer. The RDATA drives of a memory carry the read of port A or of port B: `gmemPort` never
holds both at once. -/
def Chip.token (c : Chip) : GSrc → Option Bool
  | .mc col r m => mget none c.gl.mc (mcNo col r m)
  | .spine col k => mget none c.gl.lvl (12 * col + k)
  | .chan n k b => (mget {} c.gl.inCh (8 * n + k)).out.map (fun v => bit v b)
  | .gio g => mget none c.gl.lvl (192 + g)
  | .gmem m j =>
    let h := mget {} c.gl.gport m
    if j = 9 then (match h.b with | some (_, true) => some true | _ => none)
    else match h.a, h.b with
      | some v, _ => some (bit v j)
      | none, some (v, false) => some (bit v j)
      | none, _ => none

/-- What a consumer at position `q` sees on a wire; `waiting` says that it waits for tokens, so that a boundary cell
at rest presents its value and not a spacer (R866). -/
def Chip.see (c : Chip) (q : Nat) (waiting : Bool) (w : GWire) : Option Bool :=
  match c.cutAt w.src.pos q with
  | some x => if waiting then c.restCell (if x < q then x + 1 else x - 1) (decide (x < q)) w.cell else none
  | none => c.token w.src

/-! ### Macrocells -/

/-- The USED terms steered to macrocell m, on rail 1 (false) or rail 0 (true) of the sum (R161–R163). -/
def Chip.terms (c : Chip) (col r m : Nat) (rail0 : Bool) : List Nat :=
  (List.range 56).filter (fun t =>
    let x := c.area col r (6272 + 8 * t) 6
    bit x 5 && x % 16 == m && bit x 4 == rail0)

/-- Literals of a term (R160): 0–79 rails of routed inputs, 80–111 rails of feedback. -/
def Chip.lits (c : Chip) (col r t : Nat) : List Nat := (List.range 112).filter (fun l => c.areaBit col r (112 * t + l))

/-- Input numbers: routed inputs 0–39, feedback 40–55. -/
def litInput (l : Nat) : Nat := if l < 80 then l / 2 else 40 + (l - 80) / 2

/-- The support set of a macrocell (R165). -/
def Chip.support (c : Chip) (col r m : Nat) : List Nat :=
  let ts := c.terms col r m false ++ c.terms col r m true
  (List.range 56).filter (fun i => ts.any (fun t => (c.lits col r t).any (fun l => litInput l == i))
    || c.areaBit col r (6720 + 64 * m + i))

/-- The wire of an input number. -/
def Chip.inputWire (c : Chip) (col r i : Nat) : Option GWire :=
  if i < 40 then c.routed col r i else some ⟨.mc col r (i - 40), 0⟩

/-- The token that macrocell (col, r, m) sees on an input. -/
def Chip.inputTok (c : Chip) (col r i : Nat) (waiting : Bool) : Option Bool :=
  match c.inputWire col r i with
  | some w => c.see (posOf col) waiting w
  | none => none

/-! ### Wide multiplexers (R182, R183)

The macrocells that chain wires join act as one element: they pass partial results down and the last one captures. -/

/-- The macrocell takes partial results from the chain wires (R182). -/
def Chip.chainIn (c : Chip) (col r m : Nat) : Bool := c.areaBit col r (6720 + 64 * m + 59)

/-- The chain wire, numbered as the macrocell of the block above, that input `i` of macrocell (col, r, m) takes a partial result from. -/
def Chip.chainOf (c : Chip) (col r m i : Nat) : Option Nat :=
  let s := c.area col r (7744 + 8 * i) 8
  if c.chainIn col r m && decide (i < 40) && decide (0 < r) && decide (196 ≤ s) && decide (s < 212) then some (s - 196) else none

/-- The macrocell passes its partial result to the block below and captures nothing itself. -/
def Chip.passes (c : Chip) (col r m : Nat) : Bool :=
  decide (r < 11) && (List.range 16).any (fun k => (c.support col (r + 1) k).any (fun i => c.chainOf col (r + 1) k i == some m))

/-- A sum of macrocell (col, r, m) is high, with `tok` the tokens on its inputs: some term has all its literals high. -/
def Chip.sumBy (c : Chip) (col r m : Nat) (tok : Nat → Option Bool) (rail0 : Bool) : Bool :=
  (c.terms col r m rail0).any (fun t => (c.lits col r t).all (fun l => tok (litInput l) == some (l % 2 == 0)))

/-- The partial result that macrocell m of block (col, r) passes down (R182): none while it passes none. -/
def Chip.partResult (c : Chip) (col : Nat) : Nat → Nat → Option Bool
  | 0, m => result 0 m (fun i => c.inputTok col 0 i true)
  | r + 1, m => result (r + 1) m (fun i =>
      match c.chainOf col (r + 1) m i with
      | some k => c.partResult col r k
      | none => c.inputTok col (r + 1) i true)
where
  result (r m : Nat) (tok : Nat → Option Bool) : Option Bool :=
    let h1 := c.sumBy col r m tok false
    let h0 := c.sumBy col r m tok true
    if h1 == h0 then none else some (h1 != c.areaBit col r (6720 + 64 * m + 56))

/-- The token or partial result on input `i` of macrocell (col, r, m). -/
def Chip.tokAt (c : Chip) (col r m i : Nat) (waiting : Bool) : Option Bool :=
  match c.chainOf col r m i with
  | some k => c.partResult col (r - 1) k
  | none => c.inputTok col r i waiting

/-- Is a sum of macrocell (col, r, m) high? -/
def Chip.sumHigh (c : Chip) (col r m : Nat) (rail0 : Bool) : Bool := c.sumBy col r m (fun i => c.tokAt col r m i true) rail0

/-- The macrocells of the wide multiplexer that macrocell m of block (col, r) ends, as (row, macrocell). -/
def Chip.muxCells (c : Chip) (col : Nat) : Nat → Nat → List (Nat × Nat)
  | 0, m => [(0, m)]
  | r + 1, m => (r + 1, m) :: ((c.support col (r + 1) m).filterMap (c.chainOf col (r + 1) m)).eraseDups.flatMap (c.muxCells col r)

/-- The terms of a macrocell that name no chain wire, each as the wires it names. -/
def Chip.dataTerms (c : Chip) (col r m : Nat) : List (List (Option GWire)) :=
  ((c.terms col r m false ++ c.terms col r m true).filter (fun t =>
    (c.lits col r t).all (fun l => (c.chainOf col r m (litInput l)).isNone))).map (fun t =>
      (c.lits col r t).map (fun l => c.inputWire col r (litInput l)))

/-- The select inputs of macrocell (col, r, m) of a wide multiplexer of the macrocells `ms`: the inputs added to its support set,
and those whose wire every data term of the multiplexer names (R183). -/
def Chip.muxSelects (c : Chip) (col r m : Nat) (ms : List (Nat × Nat)) : List Nat :=
  let ts := ms.flatMap (fun x => c.dataTerms col x.1 x.2)
  (c.support col r m).filter (fun i => (c.chainOf col r m i).isNone
    && (c.areaBit col r (6720 + 64 * m + i) || (!ts.isEmpty && ts.all (fun t => t.contains (c.inputWire col r i)))))

/-- Inputs that the high terms of macrocell (col, r, m) name, the chain wires apart. -/
def Chip.highInputs (c : Chip) (col r m : Nat) : List Nat :=
  let hi (t : Nat) : Bool := (c.lits col r t).all (fun l => c.tokAt col r m (litInput l) true == some (l % 2 == 0))
  let ts := (c.terms col r m false ++ c.terms col r m true).filter hi
  (c.support col r m).filter (fun i => (c.chainOf col r m i).isNone && ts.any (fun t => (c.lits col r t).any (fun l => litInput l == i)))

/-- The key of input `i` of macrocell (col, r, m) in `Glaze.sel`. -/
def inputKey (col r m i : Nat) : Nat := 56 * mcNo col r m + i

/-- The inputs that the wide multiplexer which macrocell m of block (col, r) ends waits for: its selects, in every block. -/
def Chip.muxWaits (c : Chip) (col r m : Nat) : List (Nat × Nat × Nat) :=
  let ms := c.muxCells col r m
  ms.flatMap (fun x => (c.muxSelects col x.1 x.2 ms).map (fun i => (x.1, x.2, i)))

/-- The inputs that it takes: its selects and its selected data inputs. -/
def Chip.muxTakes (c : Chip) (col r m : Nat) : List (Nat × Nat × Nat) :=
  c.muxWaits col r m ++ (c.muxCells col r m).flatMap (fun x => (c.highInputs col x.1 x.2).map (fun i => (x.1, x.2, i)))

/-- The macrocell is a part of a wide multiplexer. -/
def Chip.inMux (c : Chip) (col r m : Nat) : Bool := c.chainIn col r m || c.passes col r m

/-! ### Consumers -/

/-- The inputs of macrocell (col, r, m) that name a source: a chain wire is no consumer of the element above. -/
def Chip.inputsOf (c : Chip) (s : GSrc) (col r m : Nat) : List Nat :=
  (c.support col r m).filter (fun i => (c.chainOf col r m i).isNone && (match c.inputWire col r i with | some w => w.src == s | none => false))

/-- The wire of a source reaches a macrocell of a column: no region at rest cuts it and none holds the macrocell. -/
def Chip.reaches (c : Chip) (s : GSrc) (col : Nat) : Bool := (c.cutAt s.pos (posOf col)).isNone && !c.posHeld (posOf col)

/-- The blocks that a configuration word names. -/
def Chip.blocks (c : Chip) : List (Nat × Nat) :=
  ((List.range 16).flatMap (fun col => (List.range 12).map (fun r => (col, r)))).filter (fun b => c.blockUsed b.1 b.2)

/-- The source field of an output port: PHASE_FORCE 0–95, RAIL_CEIL 96–111, GIO 112–207, channel bits from 208 (R840). -/
def Chip.portSrc (c : Chip) (i : Nat) : Option GSrc :=
  let x := c.area 18 0 (16 * i) 16
  if bit x 15 then some (.mc (bits x 12 8) (bits x 7 4) (x % 16)) else none

/-- The sources of output channel k of port n, bit by bit. -/
def Chip.chanSrc (c : Chip) (n k : Nat) : List (Option GSrc) :=
  (List.range 16).map (fun b => c.portSrc (208 + 128 * n + 16 * k + b))

/-- The requests of Glaze memory m: port A bits 0–11, port B bits 12–33 (R840). -/
def Chip.memWire (c : Chip) (m i : Nat) : Option GWire :=
  let sel := c.area (16 + m / 12) (m % 12) (8 * i) 8
  if 64 ≤ sel ∧ sel < 112 then (c.rowTrack (m % 12) (sel - 64)).map (fun s => ⟨s, 64 * (m % 12) + (sel - 64)⟩) else none

/-- Node of port Gn. -/
def gNode (n : Nat) : Nat := natAt gNodes n

/-- The SNAPSHOT channel whose group holds channel k (R195). -/
def Chip.groupOf (c : Chip) (n k : Nat) : Option Nat :=
  (List.range (k + 1)).reverse.find? (fun j => c.f (Gport.OUT_MODE (gNode n) j) == 2 && decide (k ≤ j + c.f (Gport.GROUP (gNode n) j)))

/-- Acknowledge of macrocell (col, r, m) for a source that its inputs `is` name: it holds a token, or the wide multiplexer it is a part of
has taken all of them (R155, R183). -/
def Chip.mcAck (c : Chip) (col r m : Nat) (is : List Nat) : Bool :=
  if c.inMux col r m then is.all (fun i => c.gl.sel.any (fun e => e.2.contains (inputKey col r m i)))
  else (mget none c.gl.mc (mcNo col r m)).isSome

/-- A port of memory m reads request inputs lo to lo + w − 1 from a source. -/
def Chip.memReads (c : Chip) (s : GSrc) (m lo w : Nat) : Bool := (List.range w).any (fun i => (c.memWire m (lo + i)).map GWire.src == some s)

/-- The output port is a bit of a channel that a SNAPSHOT group holds: it looks on and acknowledges nothing (R193). -/
def Chip.lookOn (c : Chip) (i : Nat) : Bool := decide (208 ≤ i) && (c.groupOf ((i - 208) / 128) ((i - 208) / 16 % 8)).isSome

/-- Acknowledges of the consumers of a source: macrocells, output ports, channels, memory ports (R155, R167). -/
def Chip.acks (c : Chip) (s : GSrc) : List Bool :=
  (c.blocks.flatMap (fun b => if !c.reaches s b.1 then [] else (List.range 16).filterMap (fun m =>
      match c.inputsOf s b.1 b.2 m with
      | [] => none
      | i :: is => some (c.mcAck b.1 b.2 m (i :: is)))))
  ++ (if c.blockUsed 18 0 then ((List.range 720).filter (fun i => c.portSrc i == some s && !c.lookOn i)).map (fun i => mget false c.gl.ack i)
      else [])
  ++ ((List.range 24).flatMap (fun m => if c.blockUsed (16 + m / 12) (m % 12) then
        (if c.memReads s m 0 12 then [(mget {} c.gl.gport m).a.isSome] else [])
        ++ (if c.memReads s m 12 22 then [(mget {} c.gl.gport m).b.isSome] else [])
      else []))

/-- The consumers that a source has by its configuration: every storage element, output port and memory port that names it (R167). -/
def Chip.consumers (c : Chip) (s : GSrc) : Nat :=
  (c.blocks.map (fun b => ((List.range 16).filter (fun m => !(c.inputsOf s b.1 b.2 m).isEmpty)).length)).sum
  + (if c.blockUsed 18 0 then ((List.range 720).filter (fun i => c.portSrc i == some s)).length else 0)
  + ((List.range 24).map (fun m => if c.blockUsed (16 + m / 12) (m % 12) then b2n (c.memReads s m 0 12) + b2n (c.memReads s m 12 22) else 0)).sum

/-- Sources have returned to spacer: the acknowledges of the ports that they feed fall (R179). -/
def Chip.portsFall (c : Chip) (p : GSrc → Bool) : Chip :=
  { c with gl.ack := c.gl.ack.filter (fun e => match c.portSrc e.1 with | some s => !p s | none => true) }

@[inherit_doc Chip.portsFall] def Chip.portsLow (c : Chip) (s : GSrc) : Chip := c.portsFall (fun x => x == s)

/-- The event GLAZE_CODE of a macrocell, at most once in 1 ms (800,000 free beats) (R157). -/
def Chip.codeError (c : Chip) (col r m : Nat) : Chip :=
  let k := mcNo col r m
  let c := { c.hwSet Garr.CODE_ERR 1 with gl.bad := mset false c.gl.bad k true }
  let post := match mget none c.gl.codePost k with | none => true | some b => decide (800000 ≤ c.clock - b)
  if post then { c with gl.codePost := mset none c.gl.codePost k (some c.clock) }.post 10 2 2 [(8, col), (8, r), (8, m)] else c

/-- A read request holds the counter: the element that gives bit 0 of a SNAPSHOT group captures no further increment until the group is
captured (R198, R199). -/
def Chip.countHeld (c : Chip) (s : GSrc) : Bool :=
  (mkeys c.gl.snap).any (fun e => c.portSrc (208 + 16 * e) == some s)

/-- The inputs that macrocell (col, r, m) waits for and returns to spacer with: its support set, but in a wide multiplexer those of its
selects and of the data that it has taken (R155, R156, R183). -/
def Chip.waitsFor (c : Chip) (col r m : Nat) : List (Nat × Nat × Nat) :=
  if c.chainIn col r m then c.muxWaits col r m else (c.support col r m).map (fun i => (r, m, i))

/-- The next enabled transition of a storage element (R155–R157, R165, R183, R198). -/
def Chip.stage (c : Chip) (col r m : Nat) : Chip :=
  let k := mcNo col r m
  if !c.running (posOf col) || c.passes col r m then c
  else
    let acks := c.acks (.mc col r m)
    let h1 := c.sumHigh col r m false
    let h0 := c.sumHigh col r m true
    match mget none c.gl.mc k with
    | none =>
      if mget false c.gl.bad k then
        (if (c.waitsFor col r m).all (fun x => (c.inputTok col x.1 x.2.2 false).isNone) then { c with gl.bad := mset false c.gl.bad k false } else c)
      else if h1 && h0 then c.codeError col r m
      else if acks.any id || c.countHeld (.mc col r m) || (c.support col r m).isEmpty
          || !(c.waitsFor col r m).all (fun x => (c.inputTok col x.1 x.2.2 true).isSome) then c
      else if h1 || h0 then
        let v := h1 != c.areaBit col r (6720 + 64 * m + 56)
        { c with gl.mc := mset none c.gl.mc k (some v), gl.last := mset false c.gl.last k v,
                 gl.sel := if c.chainIn col r m then mset [] c.gl.sel k ((c.muxTakes col r m).map (fun x => inputKey col x.1 x.2.1 x.2.2))
                           else c.gl.sel }
      else c
    | some _ =>
      let low := if c.chainIn col r m then
          (mget [] c.gl.sel k).all (fun e => (c.inputTok col (e / 56 / 16 % 12) (e % 56) false).isNone)
        else (c.support col r m).all (fun i => (c.inputTok col r i false).isNone)
      if low && acks.all id then
        { c with gl.mc := mset none c.gl.mc k none, gl.sel := mset [] c.gl.sel k [] }.portsLow (.mc col r m)
      else c

/-! ### Level ports and input channels -/

/-- The level that a spine carries (R102, R176): spines 0–3 the droop comparators of the column's rail; the level on an over-current
wire or a HINT ball comes from outside the array, and `level` is it. -/
def Chip.spineLevel (c : Chip) (col k : Nat) (level : Bool) : Bool := if k < 4 then bit (c.f (Rail.DROOP col)) k else level

/-- The next enabled transition of a level port: a token carrying the level once every consumer has returned to
spacer, the spacer once every consumer has acknowledged (R176, R178). -/
def Chip.levelPort (c : Chip) (key : Nat) (s : GSrc) (level : Bool) : Chip :=
  let acks := c.acks s
  if !c.running s.pos || acks.isEmpty then c
  else match mget none c.gl.lvl key with
    | none => if acks.any id then c else { c with gl.lvl := mset none c.gl.lvl key (some level) }
    | some _ => if acks.all id then { c with gl.lvl := mset none c.gl.lvl key none } else c

/-- A GIO ball's level port: only a ball set to IN has one (R202). -/
def Chip.gioPort (c : Chip) (g : Nat) (level : Bool) : Chip :=
  if c.f (Garr.GIOn_KIND g) = 1 then c.levelPort (192 + g) (.gio g) level else c

def Chip.inChan (c : Chip) (n k : Nat) : InChan := mget {} c.gl.inCh (8 * n + k)
def Chip.setInChan (c : Chip) (n k : Nat) (h : InChan) : Chip := { c with gl.inCh := mset {} c.gl.inCh (8 * n + k) h }

/-- Logic column of an input channel's array side (R840), and whether a region holds it at rest. -/
def inChanRest (c : Chip) (n k : Nat) : Bool := c.posRest (posOf (4 * n + k / 2))

/-- Some source of an output channel lies in a region at rest (R867). -/
def outChanRest (c : Chip) (n k : Nat) : Bool :=
  (c.chanSrc n k).any (fun s => match s with | some s => c.posRest s.pos | none => false)

/-- FULL of a TOKEN channel (R207). -/
def Chip.setFull (c : Chip) (n k : Nat) : Chip :=
  c.put (Gport.FULL (gNode n)) (setBits (c.f (Gport.FULL (gNode n))) k k
    (b2n (c.b (Gport.IN_MODE (gNode n) k) && decide (2 ≤ (c.inChan n k).fifo.length))))

/-- The next enabled transition of an input channel's array side (R189, R190). -/
def Chip.inChanToken (c : Chip) (n k : Nat) : Chip :=
  let h := c.inChan n k
  let acks := (List.range 16).flatMap (fun b => c.acks (.chan n k b))
  let tok := c.b (Gport.IN_MODE (gNode n) k)
  if !c.issues || inChanRest c n k || acks.isEmpty || c.fenced (gNode n) then c
  else match h.out with
    | none =>
      if acks.any id then c
      else if tok then (match h.fifo with | [] => c | v :: _ => c.setInChan n k { h with out := some v })
      else c.setInChan n k { h with out := some (h.last.getD (c.f (Gport.INIT (gNode n) k))) }
    | some _ =>
      if acks.all id then
        (c.setInChan n k { h with out := none, fifo := if tok then h.fifo.drop 1 else h.fifo }).setFull n k
      else c

/-- A read request of SNAPSHOT channel `k` (R200, R201, R216). -/
def Chip.snapReq (c : Chip) (n k : Nat) : Chip :=
  let g := gNode n
  if c.f (Gport.OUT_MODE g k) ≠ 2 then c
  else if mget false c.gl.snap (8 * n + k) then c
  else if (List.range (c.f (Gport.GROUP g k) + 1)).any (fun j => c.b (Gport.OUT_PEEK_VALID g (k + j))) then
    c.hwOr (Gport.SNAP_MISS g) (2 ^ k)
  else { c with gl.snap := mset false c.gl.snap (8 * n + k) true }

/-- A value reaches an input channel (R190–R192, R200). -/
def Chip.chanWrite (c : Chip) (n k v : Nat) : Chip :=
  let g := gNode n
  let h := c.inChan n k
  if c.b (Gport.IN_MODE g k) then
    if c.f (Gport.OUT_MODE g k) = 2 then c.snapReq n k
    else if h.fifo.length < 2 then (c.setInChan n k { h with fifo := h.fifo ++ [v] }).setFull n k
    else ((c.setInChan n k { h with fifo := h.fifo.take 1 ++ [v] }).hwOr (Gport.OVF g) (2 ^ k)).post 10 2 4 [(8, n), (8, k)]
  else c.setInChan n k { h with last := some v }

/-- A best-effort write of an input channel (R211). -/
def Chip.chanWriteBe (c : Chip) (n k v : Nat) : Chip :=
  let c := c.chanWrite n k v
  c.setInChan n k { c.inChan n k with be := some c.clock }

/-- A GLZWR value reaches an input channel. With a best-effort write in the same beat it goes first: a LEVEL channel goes on to present the
best-effort value, and in a FIFO the best-effort value follows it (R211). -/
def Chip.chanWriteGlz (c : Chip) (n k v : Nat) : Chip :=
  let h := c.inChan n k
  if h.be != some c.clock || c.f (Gport.OUT_MODE (gNode n) k) == 2 then c.chanWrite n k v
  else if c.b (Gport.IN_MODE (gNode n) k) then
    match h.fifo.getLast? with
    | some b => ((c.setInChan n k { h with fifo := h.fifo.dropLast }).chanWrite n k v).chanWrite n k b
    | none => c.chanWrite n k v
  else c

/-! ### Output ports and channels -/

/-- The source of an output port is released to drive it: not in a region at rest (R180). -/
def Chip.portLive (c : Chip) (i : Nat) : Bool :=
  c.gl.rel && (match c.portSrc i with | some s => !c.posRest s.pos | none => false)

/-- The level of an output line: its rest value, low, before RELEASE_OUT, in SHUTDOWN and in a region at rest (R180), and until a token has
come from its source. -/
def Chip.outLine (c : Chip) (i : Nat) : Bool := c.portLive i && mget none c.gl.line i == some true

/-- The line of PHASE_FORCE(i), i < 96, or RAIL_CEIL(i − 96), as the clusters and the budget logic act on it: they ignore it in Shadow mode
(R181) and in STANDBY (R901). -/
def Chip.lineAt (c : Chip) (i : Nat) : Bool := c.outLine i && !c.shadow && c.f Power.STATE != 1

/-- The clusters and the budget logic see the array's lines as they are: PHASE_FORCE and RAIL_CEIL (R120, R179, R181, R901, R903 step 2). -/
def Chip.arrayLines (c : Chip) : Chip :=
  let c := forN 16 (fun r c => c.setRail r { c.rail r with ceilLine := c.lineAt (96 + r) }) c
  forN 96 (fun p c => if c.lineAt p = (c.phase p).force then c else if c.lineAt p then c.forceOn p else c.forceOff p) c

/-- A token reaches an output port: it drives its line and acknowledges at once (R179). Before RELEASE_OUT the token
is acknowledged and drives nothing (R853). -/
def Chip.outPort (c : Chip) (i : Nat) : Chip :=
  match c.portSrc i with
  | none => c
  | some s =>
    match c.token s with
    | none => c
    | some b =>
      if mget false c.gl.ack i then c
      else { c with gl.ack := mset false c.gl.ack i true,
                    gl.line := if c.portLive i then mset none c.gl.line i (some b) else c.gl.line }

/-- The output-port number of bit 0 of output channel k of port n. -/
def chanPort (n k : Nat) : Nat := 208 + 128 * n + 16 * k

/-- The bits of output channel k of port n whose sources hold tokens acknowledge them. -/
def Chip.chanAck (c : Chip) (n k : Nat) : Chip :=
  forN 16 (fun b c => match c.portSrc (chanPort n k + b) with
    | some s => if (c.token s).isSome then { c with gl.ack := mset false c.gl.ack (chanPort n k + b) true } else c
    | none => c) c

/-- The word on the sources of output channel k of port n; a bit without a source reads 0. -/
def Chip.chanWord (c : Chip) (n k : Nat) : Nat :=
  sumN 16 (fun b => match (c.portSrc (chanPort n k + b)).bind c.token with | some true => 2 ^ b | _ => 0)

/-- A token reaches an output channel's holding register (R193): all its bits hold tokens, and the previous token's acknowledges are low.
A port in node reset acknowledges and discards it (R209), and so does a channel in a region at rest (R866). -/
def Chip.outChan (c : Chip) (n k : Nat) : Chip :=
  let g := gNode n
  let srcs := (c.chanSrc n k).filterMap id
  let hold (c : Chip) : Chip := (c.put (Gport.OUT_PEEK_DATA g k) (c.chanWord n k)).putB (Gport.OUT_PEEK_VALID g k) true
  if srcs.isEmpty || (c.groupOf n k).isSome then c
  else if outChanRest c n k then c.chanAck n k
  else if (List.range 16).any (fun b => mget false c.gl.ack (chanPort n k + b)) || !(srcs.all (fun s => (c.token s).isSome)) then c
  else if c.fenced g || !c.gl.rel then c.chanAck n k
  else if c.f (Gport.OUT_MODE g k) = 0 then (if c.b (Gport.OUT_PEEK_VALID g k) then c else (hold c).chanAck n k)
  else (hold c).chanAck n k

/-- Channel k holds a valid value. -/
def Chip.chValid (c : Chip) (n k : Nat) : Bool := c.b (Gport.OUT_PEEK_VALID (gNode n) k)

/-- DATA of channel k. -/
def Chip.chData (c : Chip) (n k : Nat) : Nat := c.f (Gport.OUT_PEEK_DATA (gNode n) k)

/-- Clear VALID of a channel. -/
def Chip.chClear (c : Chip) (n k : Nat) : Chip := c.putB (Gport.OUT_PEEK_VALID (gNode n) k) false

/-- What a best-effort consuming read of channel k does to the registers (R193, R195, R200): of a SNAPSHOT group, only the read of its first
channel consumes. -/
def Chip.chPop (c : Chip) (n k : Nat) : Chip :=
  match c.groupOf n k with
  | some j => if j = k then forN (c.f (Gport.GROUP (gNode n) j) + 1) (fun i c => c.chClear n (j + i)) c else c
  | none => if c.f (Gport.OUT_MODE (gNode n) k) = 1 then c else c.chClear n k

/-- What a consuming read of channel k by the plane does: it consumes the channel that it names (R193, R195). -/
def Chip.chTake (c : Chip) (n k : Nat) : Chip :=
  if (c.groupOf n k).isNone && c.f (Gport.OUT_MODE (gNode n) k) == 1 then c else c.chClear n k

/-- A consuming pair read of the plane consumes both channels (R195). -/
def Chip.chPopPlane (c : Chip) (n k : Nat) (pair : Bool) : Chip := if pair then (c.chTake n k).chTake n (k + 1) else c.chTake n k

/-- The value of a source: its token, or through a spacer its last one. -/
def Chip.valueOf (c : Chip) (s : GSrc) : Bool :=
  match c.token s with
  | some v => v
  | none => match s with | .mc col r m => mget false c.gl.last (mcNo col r m) | _ => false

/-- The value of the bit stages that the sources of output channel k of port n name (R197). -/
def Chip.countWord (c : Chip) (n k : Nat) : Nat :=
  sumN 16 (fun b => match c.portSrc (chanPort n k + b) with | some s => b2n (c.valueOf s) * 2 ^ b | none => 0)

/-- The carries of the counter of SNAPSHOT channel k have drained and its group captures together (R197, R198, R200); then it acknowledges
increments again. -/
def Chip.capture (c : Chip) (n k : Nat) : Chip :=
  if mget false c.gl.snap (8 * n + k) then
    let g := gNode n
    let c := { c with gl.snap := mset false c.gl.snap (8 * n + k) false }
    forN (c.f (Gport.GROUP g k) + 1) (fun j c =>
      (c.put (Gport.OUT_PEEK_DATA g (k + j)) (c.countWord n (k + j))).putB (Gport.OUT_PEEK_VALID g (k + j)) true) c
  else c

/-! ### Glaze memories -/

/-- The complete request of `w` inputs from input `lo` of memory m, as a number. -/
def Chip.memReq (c : Chip) (m lo w : Nat) : Option Nat :=
  let q := if m < 12 then 8 else 17
  let ts := (List.range w).map (fun i => (c.memWire m (lo + i)).bind (c.see q true))
  if ts.all Option.isSome then some (sumN w (fun i => if (ts[i]?).getD none == some true then 2 ^ i else 0)) else none

/-- Every request input of a port is a spacer. -/
def Chip.memReqLow (c : Chip) (m lo w : Nat) : Bool :=
  let q := if m < 12 then 8 else 17
  (List.range w).all (fun i => ((c.memWire m (lo + i)).bind (c.see q false)).isNone)

/-- Acknowledges of the consumers of a memory's RDATA drives, and of its completion drive (R184). -/
def Chip.rdataAcks (c : Chip) (m : Nat) : List Bool := (List.range 9).flatMap (fun j => c.acks (.gmem m j))
@[inherit_doc Chip.rdataAcks] def Chip.doneAcks (c : Chip) (m : Nat) : List Bool := c.acks (.gmem m 9)

/-- A memory's ports, set. -/
def Chip.setGport (c : Chip) (m : Nat) (h : GmemH) : Chip := { c with gl.gport := mset {} c.gl.gport m h }

/-- The next enabled transition of port A of memory m (R184, R185): the read of port B holds the RDATA drives while its response stands. -/
def Chip.gmemA (c : Chip) (m : Nat) : Chip :=
  let h := mget {} c.gl.gport m
  match h.a with
  | none =>
    match c.memReq m 0 12 with
    | none => c
    | some a =>
      if (c.rdataAcks m).any id || h.b.any (fun x => !x.2) then c
      else c.setGport m { h with a := some (mget 0 c.gl.gmem (4096 * m + a)) }
  | some _ => if c.memReqLow m 0 12 && (c.rdataAcks m).all id then c.setGport m { h with a := none } else c

/-- The next enabled transition of port B (R184, R185, R853 ENABLE_WR): a write is answered on the completion drive, a read on the RDATA
drives. -/
def Chip.gmemB (c : Chip) (m : Nat) : Chip :=
  let h := mget {} c.gl.gport m
  match h.b with
  | none =>
    match c.memReq m 12 22 with
    | none => c
    | some x =>
      let a := x / 2 % 4096
      if x % 2 = 1 then
        if (c.doneAcks m).any id then c
        else
          let c := if c.gl.wr then { c with gl.gmem := mset 0 c.gl.gmem (4096 * m + a) (x / 8192 % 512) } else c
          c.setGport m { h with b := some (0, true) }
      else if (c.rdataAcks m).any id || h.a.isSome then c
      else c.setGport m { h with b := some (mget 0 c.gl.gmem (4096 * m + a), false) }
  | some (_, w) =>
    if c.memReqLow m 12 22 && (if w then c.doneAcks m else c.rdataAcks m).all id then c.setGport m { h with b := none } else c

/-- Position of the column of memory m (R184). -/
def gmemPos (m : Nat) : Nat := if m < 12 then 8 else 17

/-- The next enabled transition of port A or port B of memory m. -/
def Chip.gmemPort (c : Chip) (m : Nat) (portB : Bool) : Chip :=
  if !c.running (gmemPos m) then c else if portB then c.gmemB m else c.gmemA m

/-! ### Initial states, VDD_G and the rings -/

/-- Every element and port of the positions that satisfy `p` is at spacer, and the acknowledges of the output ports fed from there are low
(R866). -/
def Chip.spacer (c : Chip) (p : Nat → Bool) : Chip :=
  let inPos (k : Nat) : Bool := p (posOf (k / 192))
  { c with gl.mc := c.gl.mc.filter (fun e => !inPos e.1), gl.bad := c.gl.bad.filter (fun e => !inPos e.1),
           gl.sel := c.gl.sel.filter (fun e => !inPos e.1),
           gl.lvl := c.gl.lvl.filter (fun e => !p (if e.1 < 192 then posOf (e.1 / 12) else 18)),
           gl.gport := c.gl.gport.filter (fun e => !p (gmemPos e.1)) }.portsFall (fun s => p s.pos)

/-- Storage elements of the columns that satisfy `p` take their INIT (R158, R841), the output ports fed from there wait for a first token,
and input channels there present INIT again (R189). -/
def Chip.initElements (c : Chip) (p : Nat → Bool) : Chip :=
  let c := c.spacer p
  let c := { c with gl.line := c.gl.line.filter (fun e => match c.portSrc e.1 with | some s => !p s.pos | none => false) }
  let c := forL c.blocks (fun b c =>
    if p (posOf b.1) then
      forN 16 (fun m c =>
        let v := c.area b.1 b.2 (6720 + 64 * m + 57) 2
        let k := mcNo b.1 b.2 m
        if v = 1 ∨ v = 2 then { c with gl.mc := mset none c.gl.mc k (some (v == 2)), gl.last := mset false c.gl.last k (v == 2) } else c) c
    else c) c
  forN 32 (fun i c => if p (posOf (4 * (i / 8) + i % 8 / 2)) then
      c.setInChan (i / 8) (i % 8) { (c.inChan (i / 8) (i % 8)) with last := none, out := none } else c) c

/-- The worst handshake cycle at a VDD_G code, in ps (R59, R171). -/
def worstCycle (code : Nat) : Nat := natAt [2100, 1800, 1600, 1400, 1300, 1200, 1100] (min 6 (code / 5))

/-- The VDD_G code that limits the cycle now: the lowest of the settings since the regulator last stood (R174, R990). -/
def Chip.vddgLimit (c : Chip) : Nat := if c.gl.vddgMoving then min c.gl.vddgOld (c.f Garr.VDDG_SET) else c.f Garr.VDDG_SET

/-- A replica-ring measurement of a column, in ps (R172, R990). DESIGN CHOICE (notes/assumptions/113.md): GLAZE_SLOW carries the column. -/
def Chip.ringMeasure (c : Chip) (col ps : Nat) : Chip :=
  let c := c.put (Garr.RINGc col) ps
  let w := worstCycle c.vddgLimit
  let slow := decide (w * 105 < ps * 100)
  let was := mget 0 c.gl.ring col
  let c := { c with gl.ring := mset 0 c.gl.ring col (if slow then 2 else 1),
                    gl.locked := mset false c.gl.locked col (decide (ps ≤ w)) }
  if slow then
    let c := c.hwSet Garr.SLOW 1
    if was = 2 then c else c.post 10 2 1 [(8, col)]
  else c

/-- A write of VDDG.SET, clamped to VDDG.MIN as it stood before the write (R175, R218); the regulator begins to move (R173). -/
def Chip.vddgWrite (c : Chip) (code mn old : Nat) : Chip :=
  let v := max code mn
  let c := if code < mn then c.post 10 2 3 [(8, code)] else c
  { c.put Garr.VDDG_SET v with
    gl.vddgMoving := c.gl.vddgMoving || v != c.gl.vddg
    gl.vddgOld := if c.gl.vddgMoving then min c.gl.vddgOld old else c.gl.vddg }

/-- The regulator reaches the set code; in STANDBY it stands at 0.60 V (R901). -/
def Chip.vddgReached (c : Chip) : Chip :=
  if c.f Power.STATE = 1 then c else
  { c with gl.vddg := c.f Garr.VDDG_SET, gl.vddgMoving := false, gl.vddgOld := c.f Garr.VDDG_SET }

/-- VDD_G goes to 0.60 V whatever VDDG.SET holds (R901): it has not reached VDDG.SET again before the regulator says so (R903). -/
def Chip.vddgLow (c : Chip) : Chip := { c with gl.vddg := 0, gl.vddgMoving := c.f Garr.VDDG_SET != 0, gl.vddgOld := 0 }

/-! ### Probes -/

/-- A probe's view of a signal: its token, the value of its last token, its acknowledge (R205). -/
def probeView (view : Nat) (t : Option Bool) (last ack : Bool) : Bool :=
  match view with
  | 0 => last
  | 1 => t == some true
  | 2 => t == some false
  | _ => ack

/-- The probe's source is a memory port: its memory, port B, the response (R208). -/
def Chip.probeMem (c : Chip) (p : Nat) : Nat × Bool × Bool :=
  let x := c.f (Garr.PROBE_SRC p)
  (x / 4 % 32, bit x 1, bit x 0)

/-- The request or response of a memory port holds a token, and its acknowledge (R184, R205). -/
def Chip.memSignal (c : Chip) (m : Nat) (portB rsp : Bool) : Bool × Bool :=
  let h := mget {} c.gl.gport m
  let busy := if portB then h.b.isSome else h.a.isSome
  if rsp then
    let acks := if h.b.any (fun x => x.2) && portB then c.doneAcks m else c.rdataAcks m
    (busy, acks.all id && !acks.isEmpty)
  else (if portB then (c.memReq m 12 22).isSome else (c.memReq m 0 12).isSome, busy)

/-- The level of a probe ball (R205). A memory port's request or response has many bits and the spec does not say which of them a
single-wire view shows: the level of VALUE, and of a rail while a token stands, is a free value of the probe and the beat; both rails are
low at a spacer. -/
def Chip.probe (c : Chip) (p : Nat) : Bool :=
  let view := c.f (Garr.PROBE_VIEW p)
  if c.b (Garr.PROBE_KIND p) then
    let (m, portB, rsp) := c.probeMem p
    let (tok, ack) := c.memSignal m portB rsp
    let v := Config.probeBit (8 * c.clock + p)
    probeView view (if tok then some v else none) v ack
  else
    let x := c.f (Garr.PROBE_SRC p)
    let s := GSrc.mc (x / 256) (x / 16 % 16) (x % 16)
    probeView view (c.token s) (mget false c.gl.last (mcNo (x / 256) (x / 16 % 16) (x % 16))) ((c.acks s).all id && !(c.acks s).isEmpty)

end Sys2Proof.Machine
end

