-- ==== Sys2Proof/Machine/Tile.lean ====
section
/-! DEFINITION. Easel tiles: memories as the tile reads them, exceptions and interrupts,
region protection, the hardware loop, and the issue of one instruction (R366–R425). -/

namespace Sys2Proof.Machine

open Reg

/-! ### Memory as the tile reads it -/

/-- The byte of DMEM at a local address, with the tile's own stores that have not landed (R446, R453). -/
def Chip.dmemByte (c : Chip) (t a : Nat) : Nat :=
  let own := (c.tile t).pend.foldl (fun r p => match p.what with
    | .store b bs => if b ≤ a then (match bs[a - b]? with | some v => some v | none => r) else r
    | _ => r) none
  (own.getD (c.byte (dmemAddr t a))).toNat

/-- The `n` bytes at a local DMEM address (R443). -/
def Chip.dmem (c : Chip) (t a n : Nat) : Nat := sumN n (fun i => c.dmemByte t (a + i) * 256 ^ i)

/-- TILE.ECC_CORR or ECC_UNCORR counts, and line 10 is set (R372, R399). -/
def Chip.eccCount (c : Chip) (t : Nat) (fatal : Bool) : Chip :=
  let n := tileNode t
  let c := if fatal then c.inc (Tile.ECC_UNCORR n) else c.inc (Tile.ECC_CORR n)
  if isP t then c.raiseLine t (2 ^ 10) else c

/-! ### Region protection -/

/-- Accesses of R407: 0 read, 1 write, 2 execute. -/
def protBit (k : Nat) (user : Bool) : Nat := if user then k else 3 + k

/-- Does the region file `m` allow an access of kind `k` in a space (0 IMEM, 1 DMEM, 2 LATTICE) at an address (R406–
R408)? -/
def protOk (m : Map Nat) (user : Bool) (space a k : Nat) : Bool :=
  match (List.range 8).find? (fun n =>
      let x := mget 0 m (2 * n)
      bit x 0 && bits x 2 1 == space && decide (bits x 31 6 ≤ a / 64) && decide (a / 64 ≤ bits (mget 0 m (2 * n + 1)) 31 6)) with
  | some n => bit (mget 0 m (2 * n + 1)) (protBit k user)
  | none => !user

/-- The check of a tile's access: only P tiles have regions. -/
def Chip.prot (c : Chip) (t space a k : Nat) : Bool := !isP t || protOk (c.tile t).prot (c.tile t).user space a k

/-! ### Interrupts -/

/-- The level lines of P tile `t` (R399): LTDONE, EVRING, TENRING, MSG, NIERR. -/
def Chip.levelLines (c : Chip) (t : Nat) : Nat :=
  let x := c.tile t
  let p := t - 24
  let lt := x.tk.any (fun e => e.2.done)
  let ev := (List.range 4).any (fun r => c.b (Seq.EVRr_EN r) && c.f (Seq.EVRr_SERVER r) == p
    && c.f (Seq.EVRr_HEAD r) != c.f (Seq.EVRr_TAIL r))
  let tn := (List.range 8).any (fun r => c.b (Tenant.EN r) && c.f (Tenant.SERVER r) == p
    && c.f (Tenant.HEAD r) != c.f (Tenant.TAIL r))
  let ms := c.f (Inbox.HEAD (tileNode t)) != c.f (Inbox.TAIL (tileNode t))
  let ne := (c.reg (niBase (tileNode t) + 0x10)).toNat % 256 != 0
  b2n lt * 2 ^ 2 + b2n ev * 2 ^ 5 + b2n tn * 2 ^ 6 + b2n ms * 2 ^ 7 + b2n ne * 2 ^ 9

/-- IPEND as it reads (R400). -/
def Chip.ipendOf (c : Chip) (t : Nat) : Nat := ((c.tile t).ipend &&& edgeLines) ||| c.levelLines t

/-- Priority of a line (IPRIO). -/
def Tile.linePrio (x : Tile) (l : Nat) : Nat := if l < 16 then x.ipriolo / 4 ^ l % 4 else x.ipriohi / 4 ^ (l - 16) % 4

/-- The eligible line that an entry takes: highest IPRIO, then lowest number (R401). -/
def Chip.eligible (c : Chip) (t : Nat) : Option Nat :=
  let e := c.ipendOf t &&& (c.tile t).ienab
  (List.range 32).foldl (fun (a : Option Nat) l =>
    if bit e l then (match a with
      | none => some l
      | some m => if (c.tile t).linePrio m < (c.tile t).linePrio l then some l else some m)
    else a) none

/-! ### Exceptions -/

/-- TILE_STOPPED: cause and PC (R397, R409). With the tile's NRST_ON_STOP bit set a node reset follows. -/
def Chip.tileStopped (c : Chip) (t cause pc : Nat) : Chip :=
  let n := tileNode t
  let c := (c.put (Tile.STATE n) 3).post n 4 4 [(8, n), (8, cause), (16, pc)]
  if c.b ⟨Power.base + 0xc, t - 24, t - 24⟩ then c.setNi n { c.ni n with rstDue := true } else c

/-- LAST_EXC (R397, R398). -/
def Chip.lastExc (c : Chip) (t cause pc eval : Nat) : Chip :=
  let n := tileNode t
  ((c.put (Tile.LAST_EXC_CAUSE n) cause).put (Tile.LAST_EXC_PC n) pc).put (Tile.LAST_EXC_EVAL n) eval

/-- An exception of a tile, raised by an instruction issued at beat `now` (R395, R397, R398). -/
def Chip.exception (c : Chip) (t cause eval word now : Nat) : Chip :=
  let n := tileNode t
  let x := c.tile t
  if isP t then
    if x.exl then (c.lastExc t cause x.pc eval).tileStopped t cause x.pc
    else c.setTile t { x with
      epc := if cause = 8 ∨ cause = 9 then (x.pc + 4) % 65536 else x.pc, pmode := x.mode t, pie := x.ie, pld := x.ldepth,
      ie := false, exl := true, ldepth := 0, ecause := cause, eval := eval, user := false, pc := x.vbase,
      nextIssue := now + 3, wait := .none }
  else
    ((c.lastExc t cause x.pc eval).put (Tile.STATE n) 3).schedFault n
      { kind := 6, detA := cause, pc := x.pc, instr := word }

/-- Interrupt entry for a line, with EPC the next instruction's PC (R401, R402). -/
def Chip.interrupt (c : Chip) (t line : Nat) : Chip :=
  let x := c.tile t
  let now := max c.clock x.nextIssue
  let n := tileNode t
  (c.put (Tile.STATE n) 1).setTile t { x with
    epc := x.pc, pmode := x.mode t, pie := x.ie, pld := x.ldepth, ie := false, exl := true, ldepth := 0,
    ecause := 0x80 + line, eval := 0, user := false, pc := (x.vbase + 0x80) % 65536, nextIssue := now + 3, wait := .none }

/-! ### The issue of one instruction -/

/-- What an instruction does when it issues, but for its operand reads. -/
structure Fx where
  /-- exceptions it meets, with EVAL (R393) -/
  exc : List (Nat × Nat) := []
  /-- the schedule fault of an instruction without its TX entry (R317) -/
  noSlot : Bool := false
  /-- the ninth outstanding GLZRD (R471) -/
  ninth : Option Nat := none
  /-- results: register, value, landing beat -/
  writes : List (Nat × Nat × Nat) := []
  /-- what else lands -/
  lands : List Pend := []
  jump : Option Nat := none
  cost : Nat := 1
  /-- LOOP pushes a level: count, end address (R462) -/
  push : Option (Nat × Nat) := none
  /-- the instruction stays in D and waits -/
  wait : Wait := .none
  /-- the rest of its effect on the part -/
  after : Chip → Chip := id

/-- An instruction as its decode gives it: its word, the modes it is legal in (SCHED, SUPER, USER), whether its
encoding is illegal, the registers it reads under R382 and those it writes with their latency. -/
structure Op where
  word : Nat
  sched : Bool := true
  super : Bool := true
  usr : Bool := true
  illegal : Bool := false
  reads : List Nat := []
  dests : List (Nat × Nat) := []

/-- Latest landing beat of a register among pending results (R382). -/
def Tile.landing (x : Tile) (n : Nat) : Option Nat :=
  let p := x.pend.foldl (fun (a : Option Nat) q => match q.what with
    | .reg m _ => if m = n then some (max (a.getD 0) q.land) else a
    | _ => a) none
  x.glz.foldl (fun a g => if g.1 = n then some (max (a.getD 0) g.2) else a) p

/-- HAZARD of an instruction that would issue at beat `now`: register and beats early (R382, R383). -/
def Tile.hazard (x : Tile) (o : Op) (now : Nat) : Option (Nat × Nat) :=
  match o.reads.find? (fun n => n != 0 && (match x.landing n with | some l => decide (now < l) | none => false)) with
  | some n => some (n, (x.landing n).getD 0 - now)
  | none =>
    match o.dests.find? (fun d => d.1 != 0 && (match x.landing d.1 with | some l => decide (now + d.2 ≤ l) | none => false)) with
    | some d => some (d.1, (x.landing d.1).getD 0 - (now + d.2) + 1)
    | none => none

/-- The beat in which a P tile issues: every operand readable, its own results in order (R385). -/
def Tile.readyAt (x : Tile) (o : Op) (from_ : Nat) : Nat :=
  let r := o.reads.foldl (fun a n => if n = 0 then a else max a ((x.landing n).getD 0)) from_
  o.dests.foldl (fun a d => if d.1 = 0 then a else match x.landing d.1 with | some l => max a (l + 1 - d.2) | none => a) r

/-- Exceptions of the fetch (R393): FETCH_RANGE, PROT_X, ECC_I. -/
def Chip.fetchExc (c : Chip) (t : Nat) : List (Nat × Nat) :=
  let x := c.tile t
  (if imemSize t ≤ x.pc then [(2, x.pc)] else [])
  ++ (if isP t && !protOk x.protx x.user 0 x.pc 2 then [(3, x.pc)] else [])
  ++ (if c.eccAt (imemAddr t x.pc) = 2 then [(4, x.pc)] else [])

/-- The lowest cause (R393). -/
def lowestExc (l : List (Nat × Nat)) : Option (Nat × Nat) :=
  l.foldl (fun a e => match a with | none => some e | some b => if e.1 < b.1 then some e else some b) none

/-- Loop level `k` of a tile: count, start, end. -/
def Tile.lc (x : Tile) (k : Nat) : Nat := if k = 0 then x.lc0 else x.lc1
@[inherit_doc Tile.lc] def Tile.ls (x : Tile) (k : Nat) : Nat := if k = 0 then x.ls0 else x.ls1
@[inherit_doc Tile.lc] def Tile.le (x : Tile) (k : Nat) : Nat := if k = 0 then x.le0 else x.le1
def Tile.setLc (x : Tile) (k v : Nat) : Tile := if k = 0 then { x with lc0 := v } else { x with lc1 := v }

/-- The back-edge of a level at its end address: the tile and the next PC (R390). -/
def Tile.backEdge (x : Tile) (k next : Nat) : Tile × Nat :=
  if 1 < x.lc k then (x.setLc k (x.lc k - 1), x.ls k)
  else if x.lc k = 1 then ({ x with ldepth := k }, next)
  else (x, next)

/-- The PC after an instruction that did not jump (R390, R507): the back-edge of the innermost level, and the one
deferred to the pop of level 1. -/
def Tile.advance (x : Tile) : Tile × Nat :=
  let next := (x.pc + 4) % 65536
  if x.ldepth = 0 then (x, next)
  else
    let k := x.ldepth - 1
    if x.pc = x.le k then
      let (y, n) := x.backEdge k next
      if y.deferred && k == 1 && y.ldepth == 1 then { y with deferred := false }.backEdge 0 n else (y, n)
    else (x, next)

/-- A level pushed by LOOP (R462, R507). -/
def Tile.pushLevel (x : Tile) (count end_ : Nat) : Tile :=
  let start := (x.pc + 4) % 65536
  if x.ldepth = 0 then { x with lc0 := count, ls0 := start, le0 := end_, ldepth := 1 }
  else { x with lc1 := count, ls1 := start, le1 := end_, ldepth := 2, deferred := x.pc == x.le0 }

/-- The instruction's results go into the pipeline, and the tile moves on (R379, R381, R390, R421). -/
def Chip.retire (c : Chip) (t now : Nat) (fx : Fx) : Chip :=
  let x := c.tile t
  let pend := x.pend ++ (fx.writes.filter (fun w => w.1 != 0)).map (fun w => { land := w.2.2, what := .reg w.1 w.2.1 }) ++ fx.lands
  let x := { x with pend := pend, nextIssue := now + fx.cost, wait := .none }
  let x := match fx.push, fx.jump with
    | some (n, e), _ => { x.pushLevel n e with pc := (x.pc + 4) % 65536 }
    | none, some a => { x with pc := a % 65536 }
    | none, none => let (y, n) := x.advance; { y with pc := n }
  fx.after ((c.setTile t x).cntHit (tileNode t) 13 1)

/-- P1–P3 are gated in STANDBY (R901, R902). -/
def Chip.gated (c : Chip) (t : Nat) : Bool := decide (24 < t) && c.f Power.STATE == 1

/-- A tile that may issue now. -/
def Chip.canIssue (c : Chip) (t : Nat) : Bool :=
  let x := c.tile t
  c.f (Tile.STATE (tileNode t)) == 1 && x.wait == .none && !c.fenced (tileNode t) && !c.gated t
    && (isP t || (c.f Plane.STATE == plRun && c.pl.holds.isEmpty && x.nextIssue == c.pl.abs))

/-- Tile `t` issues an instruction: hazards, the fetch, legality, exceptions, and its effect (R366–R398, R416). -/
def Chip.issue (c : Chip) (t : Nat) (o : Op) (fx : Chip → Nat → Fx) : Chip :=
  if !c.canIssue t then c
  else
    let n := tileNode t
    let x := c.tile t
    let base := max c.clock x.nextIssue
    let now := if isP t then x.readyAt o base else c.pl.abs
    let c := if isP t then c.cntHit n 14 (now - base) else c
    let c := c.settle t now
    let x := c.tile t
    match (if isP t then none else x.hazard o now) with
    | some (r, d) =>
      (c.put (Tile.STATE n) 3).schedFault n { kind := 1, pc := x.pc, detA := r, detB := d, instr := o.word }
    | none =>
      let corr := c.eccAt (imemAddr t x.pc)
      let c := if corr = 1 then c.eccCount t false else if corr = 2 then c.eccCount t true else c
      let legal := if isP t then (if x.user then o.usr else o.super) else o.sched
      let f := fx c now
      let exc := c.fetchExc t ++ (if o.illegal then [(5, o.word)] else []) ++ (if legal then [] else [(6, o.word)])
        ++ (if o.illegal || !legal then [] else f.exc)
      match lowestExc exc with
      | some (cause, eval) =>
        let c := if cause = 17 then c.eccCount t true else c
        c.exception t cause eval o.word now
      | none =>
        if f.noSlot then (c.put (Tile.STATE n) 3).slotViolation n 1 none 0 0 x.pc
        else match f.ninth with
          | some r => (c.put (Tile.STATE n) 3).schedFault n { kind := 1, pc := x.pc, detA := r, instr := o.word }
          | none =>
            if f.wait = .none then c.retire t now f
            else f.after (c.setTile t { c.tile t with wait := f.wait, nextIssue := now })

/-- A waiting instruction completes at beat `now` (R484, R485, R490). -/
def Chip.complete (c : Chip) (t : Nat) (fx : Nat → Fx) : Chip :=
  let now := max c.clock (c.tile t).nextIssue
  (c.settle t now).retire t now (fx now)

end Sys2Proof.Machine
end

