-- ==== Sys2Proof/Machine/Slots.lean ====
section
/-! DEFINITION. The scheduled plane: plane beats and rounds, slot tables, scheduled packets, holds, the decoupling
queues and the trace memory's commands (R301–R334, R345–R348). -/

namespace Sys2Proof.Machine

open Reg

/-! ### Beats and entries -/

/-- ROUND_LEN, at least 256 and at most 4,096 (R302, R983). -/
def Chip.roundLen (c : Chip) : Nat := clampN 256 4096 (c.f Plane.ROUND_LEN)

/-- STALL_MAX, at least 1 and at most 64 (R325, R983). -/
def Chip.stallMax (c : Chip) : Nat := clampN 1 64 (c.f Plane.STALL_MAX)

/-- The plane is running and not held. -/
def Chip.planeGoes (c : Chip) : Bool := c.f Plane.STATE == plRun && c.pl.holds.isEmpty

/-- A plane beat number `k` beats from beat `b` on, in the round. -/
def Chip.beatPlus (c : Chip) (b k : Nat) : Nat := (b + k) % c.roundLen

/-- Plane beats from PBEAT to the next plane beat numbered `b`: 0 if it is the present one. -/
def Chip.beatsTo (c : Chip) (b : Nat) : Nat := (b + c.roundLen - c.f Plane.PBEAT) % c.roundLen

/-- A TX or RX entry with a selector. -/
def Chip.isTx (c : Chip) (n i : Nat) : Bool := c.f (Slot.KIND n i) == 1
@[inherit_doc Chip.isTx] def Chip.isRx (c : Chip) (n i : Nat) : Bool := c.f (Slot.KIND n i) == 2

/-- The TX entry of a selector at a plane beat (R317). -/
def Chip.txEntry (c : Chip) (n b sel : Nat) : Option Nat :=
  (List.range 64).find? (fun i => c.isTx n i && c.f (Slot.SEL n i) == sel && c.f (Slot.BEAT n i) == b)

/-- The RX entry for a source and channel, unique in a round (R314). -/
def Chip.rxEntry (c : Chip) (n peer chan : Nat) : Option Nat :=
  (List.range 64).find? (fun i => c.isRx n i && c.f (Slot.PEER n i) == peer && c.f (Slot.CHAN n i) == chan)

/-- The plane beat at which the RX RESULT entry that answers a GLZRD under TX entry `i` is delivered (R470), as the
slot tables fix it; a full round on where the tables hold no such chain. -/
def Chip.glzLanding (c : Chip) (n i : Nat) : Nat :=
  let g := c.f (Slot.PEER n i)
  let chain : Option Nat := do
    let j ← c.rxEntry g n (c.f (Slot.CHAN n i))
    let k ← (List.range 64).find? (fun k => c.isTx g k && c.f (Slot.SEL g k) == 4 && c.f (Slot.LINK g k) == j)
    let e ← c.rxEntry n g (c.f (Slot.CHAN g k))
    let d := c.beatsTo (c.beatPlus (c.f (Slot.BEAT n e)) (c.f (Slot.LEN2 n e)))
    return if d = 0 then c.roundLen else d
  c.pl.abs + chain.getD c.roundLen

/-- The instruction word at the PC of a tile. -/
def Chip.wordAtPc (c : Chip) (t : Nat) : Nat := c.bytesAt (imemAddr t (c.tile t).pc) 4

/-- E tiles leave one state for another. -/
def Chip.eStates (c : Chip) (from_ st : Nat) : Chip :=
  forL eNodes (fun n c => if c.f (Tile.STATE n) = from_ then c.put (Tile.STATE n) st else c) c

/-! ### Decoupling queues -/

def Chip.dq (c : Chip) (t : Nat) : DqH := mget {} c.pl.dq t

/-- Store a queue pair, with IN_CNT and OUT_FREE (R334). -/
def Chip.setDq (c : Chip) (t : Nat) (h : DqH) : Chip :=
  ({ c with pl.dq := mset {} c.pl.dq t h }.put (Dq.IN_CNT (tileNode t)) h.inq.length).put (Dq.OUT_FREE (tileNode t)) (16 - h.out.length)

/-- DQPUSH (R327). -/
def Chip.dqPush (c : Chip) (t v : Nat) : Chip :=
  let h := c.dq t
  if h.out.length < 16 then c.setDq t { h with out := h.out ++ [v] } else c.hwSet (Dq.FULL_PUSH (tileNode t)) 1

/-- Inbound entries that DQX has written in the present beat: a DQPOP and the end of a DQWAIT do not see them (R363). -/
def Chip.dqNew (c : Chip) (t : Nat) : Nat := if (c.dq t).newAt = c.clock then (c.dq t).newN else 0

/-- Inbound entries as they were at the start of the beat (R363). -/
def Chip.dqSeen (c : Chip) (t : Nat) : Nat := (c.dq t).inq.length - c.dqNew t

/-- DQPOP: the entry, 0 from an empty queue (R328). -/
def Chip.dqFront (c : Chip) (t : Nat) : Nat := if c.dqSeen t = 0 then 0 else (c.dq t).inq.head?.getD 0

@[inherit_doc Chip.dqFront] def Chip.dqPop (c : Chip) (t : Nat) : Chip :=
  let h := c.dq t
  if c.dqSeen t = 0 then c.hwSet (Dq.EMPTY_POP (tileNode t)) 1 else c.setDq t { h with inq := h.inq.drop 1 }

/-- The end of a DQWAIT (R329). -/
def Chip.dqAbsent (c : Chip) (t k : Nat) : Chip := c.putB (Dq.ABSENT (tileNode t)) (decide (c.dqSeen t < k))

/-- An 8-byte word of the trace memory. -/
def Chip.xword (c : Chip) (a : Nat) : Nat := ofBytes ((List.range 8).map (fun i => mget 0 c.xmem (a + i)))

/-- Store bytes in the trace memory. -/
def Chip.setX (c : Chip) (a : Nat) : List Byte → Chip
  | [] => c
  | b :: bs => { c with xmem := mset 0 c.xmem a b }.setX (a + 1) bs

/-- DQX moves outbound entries of a tile, in push order, into its own buffer of 16 for the tile (R330, R333). -/
def DqH.taken (h : DqH) : DqH := { h with buf := h.buf ++ h.out.take (16 - h.buf.length), out := h.out.drop (16 - h.buf.length) }

/-- The command at the front of DQX's buffer can be performed: the READ before it has placed its data, and a WRITE's data entries have
come (R330, R332). -/
def DqH.due (h : DqH) : Bool :=
  match h.buf with
  | [] => false
  | e :: rest => h.rdata.isEmpty && !(bits e 63 62 == 3 && decide (rest.length < bits e 58 56 + 1))

/-- DQX has something to do with a tile's outbound entries. -/
def DqH.works (h : DqH) : Bool := h.taken.due || (!h.out.isEmpty && decide (h.buf.length < 16))

/-- DQX can place a word of READ data within the credit of the tile's inbound queue (R333). -/
def DqH.places (h : DqH) : Bool := !h.rdata.isEmpty && decide (h.inq.length < 16)

/-- The tile that DQX serves next in round-robin order after tile `p` (R332). -/
def Chip.dqTurn (c : Chip) (p : Nat) (ready : DqH → Bool) : Option Nat :=
  ((List.range 24).map (fun i => (p + 1 + i) % 24)).find? (fun t => ready (c.dq t))

/-- DQX performs the command at the front of its buffer for a tile, or refuses it (R330, R331). WINLOG acts within 3–31 (R983). -/
def Chip.dqxPerform (c : Chip) (t : Nat) : Chip :=
  let h := c.dq t
  match h.buf with
  | [] => c
  | e :: rest =>
    let op := bits e 63 62
    let k := bits e 58 56 + 1
    let a := e % 2 ^ 32
    let lo := c.f (Dqx.WINBASE t)
    let bad := op < 2 || a % 8 != 0 || a < lo || lo + 2 ^ clampN 3 31 (c.f (Dqx.WINLOG t)) < a + 8 * k
    let h := { h with buf := if op = 3 then rest.drop k else rest }
    if bad then (c.setDq t h).hwSet (Dq.CMD_ERR (tileNode t)) 1
    else if op = 3 then (c.setX a ((rest.take k).flatMap (toBytes 8))).setDq t h
    else c.setDq t { h with rdata := (List.range k).map (fun i => c.xword (a + 8 * i)) }

/-- DQX takes a tile's outbound entries, and performs the command at the front of its buffer, in the tile's turn (R330–R333). -/
def Chip.dqxCommand (c : Chip) (t : Nat) : Chip :=
  if c.fenced 48 || c.dqTurn c.pl.dqCmd DqH.works != some t then c
  else
    let c := { c.setDq t (c.dq t).taken with pl.dqCmd := t }
    if (c.dq t).due then c.dqxPerform t else c

/-- DQX places one word of READ data in a tile's inbound queue, in the tile's turn (R332, R333). -/
def Chip.dqxData (c : Chip) (t : Nat) : Chip :=
  let h := c.dq t
  if c.fenced 48 || c.dqTurn c.pl.dqDat DqH.places != some t then c
  else match h.rdata with
    | [] => c
    | v :: rest =>
      { c.setDq t { h with inq := h.inq ++ [v], rdata := rest, newAt := c.clock, newN := c.dqNew t + 1 } with pl.dqDat := t }

/-! ### Beats and rounds -/

/-- The E tiles that have not issued HALT. -/
def Chip.unhalted (c : Chip) : List Nat := (List.range 24).filter (fun t => c.f (Tile.STATE (tileNode t)) == 1 && !(c.tile t).halted)

/-- Every E tile that has not issued HALT by the end of the round raises ROUND_OVERRUN (R305). -/
def Chip.overruns (c : Chip) : Chip :=
  forL c.unhalted (fun t c =>
    (c.put (Tile.STATE (tileNode t)) 3).schedFault (tileNode t) { kind := 5, pc := (c.tile t).pc, instr := c.wordAtPc t }) c

/-- The second flit of a scheduled packet enters its router one plane beat after the first (R306, R309, R315, R321). -/
def Chip.seconds (c : Chip) : Chip :=
  forL c.pl.second (fun e c => match e.2 with
    | some (b, f) =>
      if b ≤ c.pl.abs then ({ c with pl.second := mset none c.pl.second e.1 none }.setOut e.1 0 (c.outFlits e.1 0 ++ [f])).feed e.1 0
      else c
    | none => c) c

/-- What happens as a plane beat begins: second flits are injected (R315), values reach their input channels (R316), DQWAITs end (R329), counters of
plane beats count (R746). -/
def Chip.beatStart (c : Chip) : Chip :=
  let due := c.pl.inPend.filter (fun p => decide (p.2.2.2 ≤ c.pl.abs))
  let c := { c with pl.inPend := c.pl.inPend.filter (fun p => !decide (p.2.2.2 ≤ c.pl.abs)) }
  let c := c.seconds
  let c := forL due (fun p c => if inChanRest c p.1 p.2.1 then c else c.chanWriteGlz p.1 p.2.1 p.2.2.1) c
  let c := forN 24 (fun t c =>
    match (c.tile t).dqw with
    | some (k, b) => if b ≤ c.pl.abs then (c.dqAbsent t k).setTile t { c.tile t with dqw := none } else c
    | none => c) c
  forN 49 (fun n c => c.cntHit n 2 1) c

/-- A plane beat begins (R301, R305, R318, R347, R901 step 1): `late` is a padded crossing whose handshake has not completed, with
its node and row. -/
def Chip.planeBeat (c : Chip) (late : Option (Nat × Nat)) : Chip :=
  if !c.planeGoes then c
  else match late with
    | some (n, k) => c.schedFault n { kind := 2, cause := 5, detA := k + 1 }
    | none =>
      let p := c.f Plane.PBEAT
      if p + 1 < c.roundLen then ({ c.put Plane.PBEAT (p + 1) with pl.abs := c.pl.abs + 1 }).beatStart
      else
        let c := c.overruns
        if c.f Plane.STATE ≠ plRun then c
        else if c.pw.standby then { c.put Plane.STATE plStopped with pw.planeWas := plRun }
        else if c.pl.switchTo.isSome then (c.put Plane.STATE plSwitching).groupsHold
        else ({ (c.put Plane.PBEAT 0).put Plane.ROUND (c.f Plane.ROUND + 1) with
                pl.abs := c.pl.abs + 1, pl.started := false }).beatStart

/-- Every SCHED tile begins at its entry address (R303, R464). -/
def Chip.roundStart (c : Chip) : Chip :=
  if !c.planeGoes || c.f Plane.PBEAT != 0 || c.pl.started then c
  else
    let c := { c with pl.started := true }
    forN 24 (fun t c =>
      let n := tileNode t
      if c.fenced n then c
      else (c.put (Tile.STATE n) 1).setTile t { c.tile t with
        pc := c.f (Tile.ENTRY n) % imemSize t, ldepth := 0, deferred := false, halted := false, nextIssue := c.pl.abs }) c

/-! ### Streams -/

/-- Key of a slot entry of a node. -/
def slotKey (n i : Nat) : Nat := 64 * n + i

/-- DATA of the stream that LINK selects at a bridge (R311). -/
def Chip.stream (c : Chip) (b1 : Bool) (link : Nat) : Nat :=
  let q := b2n b1
  if link < 8 then
    let r := 8 * q + link
    c.f (Rail.VSENSE r) + c.f (Rail.IRAIL r) * 2 ^ 16 + low 12 (c.target r) * 2 ^ 32
  else if link < 20 then sumN 4 (fun i => c.f (Phase.IPH (48 * q + 4 * (link - 8) + i)) * 2 ^ (16 * i))
  else if link < 24 then
    sumN 4 (fun i => low 16 (c.fi (Tmon.TEMP (16 * q + 4 * (link - 20) + i))) * 2 ^ (16 * i))
  else if link = 24 then c.f Board.VBUS12 + c.f Board.VBUS48 * 2 ^ 16 + c.f Board.IBUS * 2 ^ 32
  else c.lswStream

/-- A bridge latches a stream at its capture point (R312). -/
def Chip.streamCapture (c : Chip) (b1 : Bool) (i : Nat) : Chip :=
  let n := if b1 then 18 else 16
  if c.planeGoes && !c.fenced n && c.isTx n i && c.f (Slot.SEL n i) == 3 && c.beatsTo (c.f (Slot.BEAT n i)) == 6 then
    { c with pl.capture := mset 0 c.pl.capture (slotKey n i) (c.stream b1 (c.f (Slot.LINK n i)) + 1) }
  else c

/-! ### Injection -/

/-- Inject the scheduled packet of TX entry `i` with DATA `d` (R309): its first flit now, a second one in the next plane beat. -/
def Chip.injectSlot (c : Chip) (n i d : Nat) : Chip :=
  match c.route n (c.f (Slot.RTE n i)) with
  | none => c.dropErr n { src := n, dst := c.f (Slot.PEER n i), tag := c.f (Slot.CHAN n i) } (c.f (Slot.PEER n i))
  | some r =>
    let h : Hdr := { route := r, src := n, dst := c.f (Slot.PEER n i), tag := c.f (Slot.CHAN n i) }
    let len2 := c.b (Slot.LEN2 n i)
    let f : Flit := { head := true, tail := !len2, hdr := h, words := toWords 2 d }
    let c := if len2 then
        { c with pl.second := mset none c.pl.second n (some (c.pl.abs + 1, { tail := true, hdr := h, words := toWords 4 (d / 2 ^ 64) })) }
      else c
    (c.setOut n 0 (c.outFlits n 0 ++ [f])).feed n 0

/-- A TX entry reaches its beat (R309, R317, R318, R337). -/
def Chip.slotTx (c : Chip) (n i : Nat) : Chip :=
  if !c.planeGoes || c.fenced n || !c.isTx n i || c.f (Slot.BEAT n i) != c.f Plane.PBEAT then c
  else
    let sel := c.f (Slot.SEL n i)
    let peer := c.f (Slot.PEER n i)
    let chan := c.f (Slot.CHAN n i)
    if sel ≤ 2 then
      let t := tileAt n
      match mget 0 (c.tile t).stage i with
      | 0 => c.slotViolation n 2 (some i) peer chan 0
      | d + 1 => (c.setTile t { c.tile t with stage := mset 0 (c.tile t).stage i 0 }).injectSlot n i d
    else if sel = 3 then
      match mget 0 c.pl.capture (slotKey n i) with
      | 0 => c.schedFault n { kind := 2, cause := 5, entry := some i, peer := peer, chan := chan, detA := 1 }
      | d + 1 => ({ c with pl.capture := mset 0 c.pl.capture (slotKey n i) 0 }).injectSlot n i d
    else
      match mget 0 c.pl.reply (slotKey n i) with
      | 0 => c
      | d + 1 => ({ c with pl.reply := mset 0 c.pl.reply (slotKey n i) 0 }).injectSlot n i d

/-! ### Arrival and delivery -/

def Chip.ejectBuf (c : Chip) (n : Nat) : List Flit := mget [] c.pl.eject n
def Chip.setEject (c : Chip) (n : Nat) (l : List Flit) : Chip := { c with pl.eject := mset [] c.pl.eject n l }

/-- A VC0 flit at the destination NI enters the ejection buffer, or raises its cause (R322, R337, R340): it may come from plane beat
BEAT − 4 − 3h of its entry up to the delivery beat, a second flit as the first; one of another type than SCHED
is discarded (R231), and one for another node is a misroute (R986). -/
def Chip.vc0Arrival (c : Chip) (n : Nat) : Chip :=
  match (c.ni n).in0 with
  | [] => c
  | f :: rest =>
    let c := c.setNi n { c.ni n with in0 := rest }
    if c.f Plane.STATE ≠ plRun then c.dropErr n f.hdr f.hdr.src
    else if f.hdr.typ ≠ 0 then c.niErr n 4 f.hdr f.hdr.src
    else if f.poison then c.slotViolation n 7 none f.hdr.src f.hdr.tag 0
    else if 16 ≤ (c.ejectBuf n).length then c.slotViolation n 6 none f.hdr.src f.hdr.tag 0
    else if f.hdr.dst ≠ n then (c.niErr n 7 f.hdr f.hdr.src).slotViolation n 3 none f.hdr.src f.hdr.tag 0
    else match c.rxEntry n f.hdr.src f.hdr.tag with
      | none => c.slotViolation n 3 none f.hdr.src f.hdr.tag 0
      | some i =>
        let len2 := c.f (Slot.LEN2 n i)
        if c.beatsTo (c.beatPlus (c.f (Slot.BEAT n i)) len2) ≤ 4 + 3 * c.f (Slot.HOPS n i) + len2 then c.setEject n (c.ejectBuf n ++ [f])
        else c.slotViolation n 3 (some i) f.hdr.src f.hdr.tag 0

/-- Take the first `k` flits of a source and channel out of a buffer. -/
def takeFlits (src chan : Nat) : Nat → List Flit → List Flit × List Flit
  | _, [] => ([], [])
  | 0, l => ([], l)
  | k + 1, f :: fs =>
    if f.hdr.src = src ∧ f.hdr.tag = chan then
      let y := takeFlits src chan k fs
      (f :: y.1, y.2)
    else
      let y := takeFlits src chan (k + 1) fs
      (y.1, f :: y.2)

/-- A duty value accepted for a phase at this free beat (R88): TON keeps it and the phase takes it from 4 beats on. A
Shadow's clusters discard it (R41, the **Mode activity** table). -/
def Chip.dutyWrite (c : Chip) (p ton : Nat) : Chip :=
  if c.shadow then c else
  let c := c.takeDuty p
  (c.put (Phase.TON p) ton).setPhase p { c.phase p with duty := (c.phase p).duty ++ [(c.clock, ton % 2 ^ 17)] }

/-- The DATA of a DUTY packet is delivered at cluster `w` (R310, R346); a delivery in the beat of a schedule fault ends no HOLD (R364). -/
def Chip.dutyDeliver (c : Chip) (w d : Nat) : Chip :=
  let first := d % 16
  let k := bits d 7 4 + 1
  forN k (fun j c =>
    let p := 16 * w + (first + j) % 16
    let c := if c.f (Phase.STATE p) = 0 || c.shadow || c.f Plane.STATE != plRun then c else c.leaveHold (c.f (Phase.RAIL p))
    c.dutyWrite p (bits d (8 + 18 * j + 16) (8 + 18 * j))) c

/-- An RX entry's data is delivered by its selector (R308, R310, R313, R469). -/
def Chip.slotData (c : Chip) (n i d : Nat) : Chip :=
  let sel := c.f (Slot.SEL n i)
  let peer := c.f (Slot.PEER n i)
  let chan := c.f (Slot.CHAN n i)
  let t := tileAt n
  if sel = 0 then
    let x := c.tile t
    let rx := mset 0 x.rx chan (d % 2 ^ 64)
    let rx := if c.b (Slot.LEN2 n i) then mset 0 (mset 0 rx (chan + 1) (bits d 127 64)) (chan + 2) (bits d 191 128) else rx
    c.setTile t { x with rx := rx }
  else if sel = 1 then
    let c := c.settled t
    let x := c.tile t
    match x.glz with
    | [] => c.slotViolation n 3 (some i) peer chan 0
    | (rd, _) :: gs => c.setTile t ({ x with glz := gs }.setReg rd (d % 2 ^ 32))
  else if sel = 2 then { c with pl.req := mset 0 c.pl.req (slotKey n i) (d % 2 ^ 32 + 1) }
  else if sel = 3 then
    { c with pl.inPend := c.pl.inPend ++ [(gNodes.idxOf n, chan % 8, d % 65536, c.pl.abs + 2)] }
  else c.dutyDeliver (pwmIndex n) d
where
  /-- Cluster at a node. -/
  pwmIndex (n : Nat) : Nat := ((List.range 6).map clusterNode).idxOf n

/-- The present beat is the one in which the plane's first fault was detected: a DUTY packet due in it is still applied (R364). -/
def Chip.faultBeat (c : Chip) : Bool := c.f Plane.STATE == plFaulted && c.pl.firstBeat == c.clock

/-- An RX entry reaches its delivery beat (R313, R337, R364): its flits are in the ejection buffer, or RX_MISSING. -/
def Chip.slotDelivery (c : Chip) (n i : Nat) : Chip :=
  let len2 := c.f (Slot.LEN2 n i)
  if !(c.planeGoes || (c.faultBeat && c.f (Slot.SEL n i) == 4)) || c.fenced n || !c.isRx n i || c.beatsTo (c.beatPlus (c.f (Slot.BEAT n i)) len2) != 0 then c
  else
    let peer := c.f (Slot.PEER n i)
    let chan := c.f (Slot.CHAN n i)
    let (fs, rest) := takeFlits peer chan (1 + len2) (c.ejectBuf n)
    if fs.length < 1 + len2 then c.slotViolation n 4 (some i) peer chan 0
    else (c.setEject n rest).slotData n i (ofWords (fs.flatMap Flit.words))

/-- A receive channel as a SLOTRX of the present plane beat sees it: a delivery due in that beat comes first (R313, R362). -/
def Chip.rxNow (c : Chip) (t ch : Nat) : Nat :=
  let n := tileNode t
  let due := (List.range 64).findSome? (fun i =>
    let len2 := c.f (Slot.LEN2 n i)
    let chan := c.f (Slot.CHAN n i)
    if c.planeGoes && c.isRx n i && c.f (Slot.SEL n i) == 0 && decide (chan ≤ ch) && decide (ch ≤ chan + 2 * len2)
        && c.beatsTo (c.beatPlus (c.f (Slot.BEAT n i)) len2) == 0 then
      let fs := (takeFlits (c.f (Slot.PEER n i)) chan (1 + len2) (c.ejectBuf n)).1
      if fs.length < 1 + len2 then none else some (ofWords (fs.flatMap Flit.words) / 2 ^ (64 * (ch - chan)) % 2 ^ 64)
    else none)
  due.getD (mget 0 (c.tile t).rx ch)

/-! ### Replies and holds -/

/-- What a sample of a request's channels finds (R319): the value for the reply, or that a VALID bit is clear. -/
def Chip.replyValue (c : Chip) (g d : Nat) : Option Nat :=
  let k := d % 8
  let pair := bit d 3
  if !c.chValid g k || (pair && !c.chValid g (k + 1)) then none
  else some (c.chData g k + if pair then c.chData g (k + 1) * 2 ^ 16 else 0)

/-- GLAZE_LATE of a port's REPLY entry `i` for request data `d` (R324, R338, R359). -/
def Chip.glazeLate (c : Chip) (g i d held : Nat) : Chip :=
  let n := gNode g
  let e := c.f (Slot.LINK n i)
  let c := { c with pl.req := mset 0 c.pl.req (slotKey n e) 0 }
  c.schedFault n { kind := 4, peer := c.f (Slot.PEER n e), chan := d % 8, pc := bits d 31 16, entry := some i,
                   detA := b2n (bit d 3), detB := held }

/-- The port takes the value, pops the channels and will inject the reply (R319). -/
def Chip.replyTake (c : Chip) (g i d v : Nat) : Chip :=
  let n := gNode g
  let e := c.f (Slot.LINK n i)
  { c.chPopPlane g (d % 8) (bit d 3) with
    pl.req := mset 0 c.pl.req (slotKey n e) 0, pl.reply := mset 0 c.pl.reply (slotKey n i) (v + 1) }

/-- Channel `k` of port `g`, or its pair partner, lies in a region at rest (R359). -/
def Chip.replyRest (c : Chip) (g d : Nat) : Bool := outChanRest c g (d % 8) || (bit d 3 && outChanRest c g (d % 8 + 1))

/-- A G port samples at the end of the beat before its REPLY entry (R319, R320, R359). -/
def Chip.replySample (c : Chip) (g i : Nat) : Chip :=
  let n := gNode g
  if c.f Plane.STATE != plRun || c.fenced n || !c.isTx n i || c.f (Slot.SEL n i) != 4
      || c.beatsTo (c.f (Slot.BEAT n i)) != 1 || (mget none c.pl.holds g).isSome then c
  else match mget 0 c.pl.req (slotKey n (c.f (Slot.LINK n i))) with
    | 0 => c
    | d + 1 =>
      if c.replyRest g d then c.glazeLate g i d 0
      else match c.replyValue g d with
        | some v => c.replyTake g i d v
        | none => ({ c with pl.holds := mset none c.pl.holds g (some { entry := i }) }).eStates 1 2

/-- The hold of port `g` ends; with the last hold the plane goes on (R320, R355, R411). -/
def Chip.endHold (c : Chip) (g : Nat) : Chip :=
  let c := { c with pl.holds := mset none c.pl.holds g none }
  if c.pl.holds.isEmpty then { c with pl.holdLen := 0 }.eStates 2 1 else c

/-- The G port samples again at the end of a held free beat (R320, R323). STALL_TOTAL and STALL_PEAK count the free
beats of the lowest holding port. -/
def Chip.holdSample (c : Chip) (g : Nat) : Chip :=
  match mget none c.pl.holds g with
  | none => c
  | some h =>
    if c.f Plane.STATE != plRun || h.late then c
    else
      let c := { c with pl.holds := mset none c.pl.holds g (some { h with beats := h.beats + 1 }) }
      let c := if (mkeys c.pl.holds).head? = some g then
          let c := { c with pl.holdLen := c.pl.holdLen + 1 }
          (c.inc Plane.STALL_TOTAL).put Plane.STALL_PEAK (max (c.f Plane.STALL_PEAK) (min 127 c.pl.holdLen))
        else c
      match mget 0 c.pl.req (slotKey (gNode g) (c.f (Slot.LINK (gNode g) h.entry))) with
      | 0 => c.endHold g
      | d + 1 => match c.replyValue g d with
        | some v => (c.replyTake g h.entry d v).endHold g
        | none =>
          if c.stallMax ≤ h.beats + 1 then
            { c with pl.holds := mset none c.pl.holds g (some { h with beats := h.beats + 1, late := true }) }
          else c

/-- A G port has held the plane for STALL_MAX free beats and its last sample found VALID clear (R324). -/
def Chip.holdLate (c : Chip) (g : Nat) : Chip :=
  match mget none c.pl.holds g with
  | none => c
  | some h =>
    match mget 0 c.pl.req (slotKey (gNode g) (c.f (Slot.LINK (gNode g) h.entry))) with
    | 0 => c
    | d + 1 =>
      if c.f Plane.STATE = plRun ∧ h.late then c.glazeLate g h.entry d h.beats
      else c

/-! ### Restart and switch -/

/-- CTL.RESTART (R345): only while FAULTED. -/
def Chip.planeRestart (c : Chip) : Chip :=
  if c.f Plane.STATE ≠ plFaulted then c
  else
    let c := c.setRegs (Plane.base + 0x60) (List.replicate 8 0)
    let c := forN 24 (fun t c => c.setTile t { c.tile t with rx := [], glz := [], stage := [], dqw := none }) c
    { c with pl.restart := true, pl.eject := [], pl.req := [], pl.reply := [], pl.capture := [], pl.inPend := [], pl.second := [] }

/-- No VC0 flit is under way when the plane starts: the outputs that a packet without its second flit still owned are free (R306). -/
def Chip.vc0Free (c : Chip) : Chip := forN 49 (fun r c => forN 5 (fun p c => c.setOwn r p 0 0) c) c

/-- 64 free beats later the plane starts PBEAT 0 of the next round (R345). -/
def Chip.restartDone (c : Chip) : Chip :=
  if c.pl.restart && c.f Plane.STATE == plFaulted then
    { ((c.vc0Free.put Plane.STATE plRun).put Plane.PBEAT 0).put Plane.ROUND (c.f Plane.ROUND + 1) with
      pl.restart := false, pl.abs := c.pl.abs + 1, pl.started := false }
  else c

/-- The plane starts at PBEAT 0 (R306, R347). -/
def Chip.planeStart (c : Chip) (round : Nat) : Chip :=
  { ((c.vc0Free.put Plane.STATE plRun).put Plane.PBEAT 0).put Plane.ROUND round with
    pl.abs := c.pl.abs + 1, pl.started := false, pl.switchTo := none, pl.second := [] }

/-- CTL.SWITCH with a SEL that the image holds or not (R347, R348, R360). Answers whether the write is DENIED. -/
def Chip.planeSwitch (c : Chip) (sel : Nat) (held : Bool) : Bool × Chip :=
  if !held then (true, c.post 31 4 3 [(8, sel), (8, 0)])
  else
    let st := c.f Plane.STATE
    if st = plFaulted ∨ st = plSwitching then (false, c)
    else if st = plRun then (false, { c with pl.switchTo := some sel })
    else (false, { (c.put Plane.STATE plSwitching).groupsHold with pl.switchTo := some sel })

/-- An NI detects a schedule fault (R337). -/
def Chip.reportFault (c : Chip) (n : Nat) (r : FaultRec) : Chip :=
  let k := r.kind.toNat
  if k = 0 ∨ 7 < k then c
  else
    let t := tileAt n
    c.schedFault n { kind := k, cause := if k = 2 then r.cause.toNat else 0, peer := r.peer.toNat, chan := r.chan.toNat,
                     pc := r.pc.toNat, entry := r.entry.map BitVec.toNat, detA := r.detA.toNat, detB := r.detB.toNat,
                     instr := if k = 1 ∨ k = 5 ∨ k = 6 then c.bytesAt (imemAddr t r.pc.toNat) 4 else 0 }

end Sys2Proof.Machine
end

