-- ==== Sys2Proof/Machine/Gcfg.lean ====
section
/-! DEFINITION. Glaze Personality: frames, configuration commands, the fabric check, the copy from a slot, the start-up
order, the scrubber and Overpaint regions (R838–R882). -/

namespace Sys2Proof.Machine

open Reg

/-- G0 posts an event of class 9. -/
def Chip.postGcfg (c : Chip) (idx : Nat) (fs : List (Nat × Nat)) : Chip := c.post 10 9 idx fs

/-! ### States -/

/-- The array's state. -/
def Chip.gState (c : Chip) : Nat := c.f Gcfg.STATE

/-- A command is illegal (R844). -/
def Chip.cmdErr (c : Chip) : Chip := c.hwSet Gcfg.CMD_ERR 1

/-- Region `r` is OPEN. -/
def Chip.regionOpen (c : Chip) (r : Nat) : Bool := c.b (Gcfg.REGIONr_EN r) && c.f (Gcfg.REGIONr_STATE r) == 1

/-- Position `p` lies in region `r`. -/
def Chip.inRegion (c : Chip) (r p : Nat) : Bool :=
  decide (c.f (Gcfg.REGIONr_FIRST r) ≤ p) && decide (p ≤ c.f (Gcfg.REGIONr_LAST r))

/-- The OPEN region that holds a column. -/
def Chip.openRegion (c : Chip) (col : Nat) : Option Nat :=
  if col < 18 then (List.range 8).find? (fun r => c.regionOpen r && c.inRegion r (posOf col)) else none

/-! ### Frames -/

/-- Frame number 128 × column + frame of a frame address (R839). -/
def frameNo (far : Nat) : Nat := far / 16 % 4096

/-- Frames of the array. -/
def frameCount : Nat := 2432

/-- The next frame address (R845). -/
def nextFar (far : Nat) : Nat := (far / 16 + 1) % 4096 * 16

/-- FDATA word `w` of a frame. -/
def Chip.frameWord (c : Chip) (fr w : Nat) : Word := mget 0 c.gl.frames (48 * fr + w)

/-- The 48 words of a frame. -/
def Chip.frameWords (c : Chip) (fr : Nat) : List Word := (List.range 48).map (c.frameWord fr)

/-- The signature of a frame's present contents (R848). -/
def Chip.frameCrc (c : Chip) (fr : Nat) : Nat := crc32 (wordBytes (c.frameWords fr))

/-- The frame signature; a frame that nothing has written reads zeros. -/
def Chip.signature (c : Chip) (fr : Nat) : Nat :=
  match mget 0 c.gl.sig fr with
  | 0 => crc32 (List.replicate 192 0)
  | s + 1 => s

/-- Write the words of a frame. -/
def Chip.setFrame (c : Chip) (fr : Nat) (ws : List Word) : Chip :=
  { c with gl.frames := forN 48 (fun i m => mset 0 m (48 * fr + i) ((ws[i]?).getD 0)) c.gl.frames }

/-- A frame is written whole: its signature and its mark (R848). -/
def Chip.writeFrame (c : Chip) (fr : Nat) (ws : List Word) (nv : Bool) : Chip :=
  let c := c.setFrame fr ws
  { c with gl.sig := mset 0 c.gl.sig fr (c.frameCrc fr + 1), gl.nvMark := mset false c.gl.nvMark fr nv }

/-- A write of FDATA (R845): its status. -/
def Chip.fdata (c : Chip) (w : Word) : Nat × Chip :=
  match c.gl.wcfg with
  | none => (0, c)
  | some ws =>
    let ws := ws ++ [w]
    if ws.length < 48 then (0, { c with gl.wcfg := some ws })
    else
      let far := c.f Gcfg.FAR
      let fr := frameNo far
      let reg := c.openRegion (fr / 128)
      if c.gState = gRun ∧ reg = none then (11, { c.hwSet Gcfg.WR_REFUSED 1 with gl.wcfg := none })
      else
        let c := { c.put Gcfg.FAR (nextFar far) with gl.wcfg := some [] }
        if frameCount ≤ fr then (0, c)
        else
          let c := { c.writeFrame fr ws false with gl.byWcfg := true }
          let c := match reg with
            | some r => { c with gl.written := mset false c.gl.written fr true,
                                 gl.regWords := mset [] c.gl.regWords r (mget [] c.gl.regWords r ++ ws) }
            | none => c
          (0, if c.gState == 0 then c.put Gcfg.STATE gStopped else c)

/-- A read of FDOUT (R846): its value. -/
def Chip.fdout (c : Chip) : Word × Chip :=
  match c.gl.rcfg with
  | none => (0, c)
  | some i =>
    let far := c.f Gcfg.FAR
    let v := if c.gState = 0 ∨ frameCount ≤ frameNo far then 0 else c.frameWord (frameNo far) i
    (v, if i = 47 then { c.put Gcfg.FAR (nextFar far) with gl.rcfg := some 0 } else { c with gl.rcfg := some (i + 1) })

/-- A write of PL_DATA (R847): its status. The word is the memory's, and its preload at the next START (R186). -/
def Chip.plData (c : Chip) (v : Nat) : Nat × Chip :=
  let m := c.f Gcfg.PL_ADDR_MEM
  let w := c.f Gcfg.PL_ADDR_WORD
  if c.gState ≤ 1 || (decide (m < 24) && (c.openRegion (16 + m / 12)).isSome) then
    let c := c.put Gcfg.PL_ADDR_WORD (w + 1)
    (0, if m < 24 then { c with gl.gmem := mset 0 c.gl.gmem (4096 * m + w) (v % 512),
                                gl.preload := mset 0 c.gl.preload (4096 * m + w) (v % 512) } else c)
  else (11, c)

/-! ### The fabric check -/

/-- Where a fabric check fails: code, column, row, macrocell; `openLoc` for a part of the location that is no column, block row or
macrocell. -/
abbrev FabricFail := Nat × Nat × Nat × Nat

/-- A part of a location that the spec does not state (R849): it is a free value when the refusal is recorded. -/
def openLoc : Nat := 255

/-- The first failure over the macrocells of the examined blocks. -/
def Chip.overMcs (cols : Nat → Bool) (code : Nat) (bad : Nat → Nat → Nat → Bool) : Option FabricFail :=
  ((List.range 16).filter cols).findSome? (fun col => (List.range 12).findSome? (fun r =>
    ((List.range 16).find? (bad col r)).map (fun m => (code, col, r, m))))

/-- The steering byte of a term (R841). -/
def Chip.steer (c : Chip) (col r t : Nat) : Nat := c.area col r (6272 + 8 * t) 8

/-- The terms steered to macrocell m. -/
def Chip.steeredTo (c : Chip) (col r m : Nat) : List Nat :=
  (List.range 56).filter (fun t => let x := c.steer col r t; bit x 5 && x % 16 == m)

/-- TERMS (R161–R163). -/
def Chip.badTerms (c : Chip) (col r m : Nat) : Bool :=
  let ts := c.steeredTo col r m
  decide (8 < ts.length) || ts.any (fun t => decide (t < 48) && !(decide (t / 3 ≤ m + 1) && decide (m ≤ t / 3 + 1)))

/-- POOL (R161). -/
def Chip.badPool (c : Chip) (col r m : Nat) : Bool :=
  (c.steeredTo col r m).any (fun t => decide (48 ≤ t) && m / 2 != t - 48)

/-- The drives of a column in their order: row, column of the tracks, drive bits, the location reported. -/
def Chip.drives (c : Chip) (col : Nat) : List (Nat × Nat × Nat × Nat × Nat) :=
  if col < 16 then (List.range 12).flatMap (fun r => (List.range 16).map (fun m => (r, col, c.mcDrive col r m, r, m)))
  else if col < 18 then (List.range 12).flatMap (fun m => (List.range 10).map (fun j => (m, col, c.area col m (272 + 14 * j) 7, m, openLoc)))
  else (List.range 608).map (fun e =>
    let d := c.area 18 1 (16 * e) 14
    if e < 96 then (e / 8, e % 16, d, openLoc, openLoc)
    else ((e - 96) / 16 % 8, 4 * ((e - 96) / 128) + (e - 96) / 16 % 8 / 2, d, openLoc, openLoc))

/-- The tracks that a drive enables. -/
def driveKeys (r col d : Nat) : List Nat :=
  (if bit d 6 then [64 * r + d % 64] else []) ++ (if bit d 13 then [1024 + 64 * col + bits d 12 7] else [])

/-- The first drive whose track an earlier drive has. -/
def firstClash : List Nat → List (Nat × Nat × Nat × Nat × Nat × Nat) → Option FabricFail
  | _, [] => none
  | seen, (col, r, tc, d, row, m) :: ds =>
    let ks := driveKeys r tc d
    if ks.any seen.contains then some (3, col, row, m) else firstClash (ks ++ seen) ds

/-- TRACKS. -/
def Chip.badTracks (c : Chip) (cols : Nat → Bool) : Option FabricFail :=
  firstClash [] (((List.range 19).filter cols).flatMap (fun col => (c.drives col).map (fun d => (col, d))))

/-- CHAIN: block r of a column takes partial results. -/
def Chip.chainBlock (c : Chip) (col r : Nat) : Bool := (List.range 16).any (c.chainIn col r)

/-- CHAIN. -/
def Chip.badChain (c : Chip) (col r m : Nat) : Bool :=
  c.chainIn col r m && (r == 0 || (decide (4 ≤ r) && (List.range 4).all (fun i => c.chainBlock col (r - i))))

/-- A reserved routed-input select, or one beyond the array's edge (R166, R841). -/
def badSelect (col r s : Nat) : Bool :=
  if s < 16 then r == 0
  else if s < 32 then col == 15
  else if s < 48 then r == 11
  else if s < 64 then col == 0
  else if 172 ≤ s && s < 184 then col == 0
  else if 184 ≤ s && s < 196 then col == 15
  else decide (212 ≤ s) && s != 255

/-- A drive names a reserved track. -/
def badDrive (d : Nat) : Bool := decide (48 ≤ d % 64) || decide (48 ≤ bits d 12 7)

/-- Some bit of frames lo to hi − 1 of a column is set. -/
def Chip.anyFrame (c : Chip) (col lo hi : Nat) : Bool :=
  c.gl.frames.any (fun e => e.1 / 48 / 128 == col && decide (lo ≤ e.1 / 48 % 128) && decide (e.1 / 48 % 128 < hi))

/-- Some bit at or above area bit `lo` of the eight frames of row `r` is set. -/
def Chip.anyArea (c : Chip) (col r lo : Nat) : Bool :=
  (List.range (12288 - lo)).any (fun i => c.areaBit col r (lo + i))

/-- A boundary cell of a column holds code 3, or a bit of frames 96–99 that no boundary cell has is set (R840, R842): an edge has the cells
0 to 779, which take frame 96 or 98 and 24 bits of frame 97 or 99. -/
def Chip.badCells (c : Chip) (col : Nat) : Bool :=
  c.gl.frames.any (fun e =>
    let fr := e.1 / 48 % 128
    e.1 / 48 / 128 == col && decide (96 ≤ fr) && decide (fr < 100)
    && ((List.range 16).any (fun i => bits e.2.toNat (2 * i + 1) (2 * i) == 3)
      || (fr % 2 == 1 && decide (2 ^ (if e.1 % 48 = 0 then 24 else 0) ≤ e.2.toNat))))

/-- RESERVED in one column (R840, R841). -/
def Chip.badReserved (c : Chip) (col : Nat) : Option FabricFail :=
  if col < 16 then
    match (List.range 12).findSome? (fun r =>
      match (List.range 16).find? (fun m => let x := c.area col r (6720 + 64 * m) 64
          bits x 58 57 == 3 || decide (bits x 63 60 ≠ 0) || badDrive (c.mcDrive col r m)) with
      | some m => some (6, col, r, m)
      | none =>
        if (List.range 56).any (fun t => decide (64 ≤ c.steer col r t))
          || (List.range 40).any (fun i => badSelect col r (c.area col r (7744 + 8 * i) 8)) || c.anyArea col r 8288
        then some (6, col, r, openLoc) else none) with
    | some f => some f
    | none => if c.badCells col || c.anyFrame col 100 128 then some (6, col, openLoc, openLoc) else none
  else if col < 18 then
    match (List.range 12).findSome? (fun m =>
      if (List.range 34).any (fun i => let s := c.area col m (8 * i) 8; !(decide (64 ≤ s) && decide (s < 112)) && s != 255)
        || (List.range 10).any (fun j => let d := c.area col m (272 + 14 * j) 14; decide (48 ≤ d % 64) || decide (128 ≤ d))
        || c.anyArea col m 412 then some (6, col, m, openLoc) else none) with
    | some f => some f
    | none => if c.badCells col || c.anyFrame col 100 128 then some (6, col, openLoc, openLoc) else none
  else if c.anyArea 18 0 11520 || (List.range 720).any (fun i => decide (c.area 18 0 (16 * i + 13) 2 ≠ 0))
      || c.anyArea 18 1 9728 || (List.range 608).any (fun i => let d := c.area 18 1 (16 * i) 16; decide (2 ^ 14 ≤ d) || badDrive d)
      || c.anyFrame 18 16 128 then some (6, 18, openLoc, openLoc)
  else none

/-- SOURCE. -/
def Chip.badSource (c : Chip) (cols : Nat → Bool) : Option FabricFail :=
  if cols 18 && (List.range 720).any (fun i => let x := c.area 18 0 (16 * i) 16
      bit x 15 && (decide (15 < bits x 12 8) || decide (11 < bits x 7 4))) then some (7, 18, openLoc, openLoc) else none

/-- The fabric check of the columns that satisfy `cols` (R849): the lowest code of the **Fabric checks** table that fails,
at its first place in ascending column, then row. -/
def Chip.fabric (c : Chip) (cols : Nat → Bool) : Option FabricFail :=
  Chip.overMcs cols 1 c.badTerms
  <|> Chip.overMcs cols 2 c.badPool
  <|> c.badTracks cols
  <|> Chip.overMcs cols 4 (fun col r m => decide (24 < c.consumers (.mc col r m)))
  <|> Chip.overMcs cols 5 c.badChain
  <|> ((List.range 19).filter cols).findSome? c.badReserved
  <|> c.badSource cols

/-! ### Starting and stopping -/

/-- WAIT_LOCK is complete (R853, R990). -/
def Chip.locked (c : Chip) : Bool :=
  !c.gl.vddgMoving && c.gl.vddg == c.f Garr.VDDG_SET && (List.range 16).all (fun col => mget false c.gl.locked col)

/-- Step code `i` of ORDER. -/
def Chip.orderStep (c : Chip) (i : Nat) : Nat := c.f Gcfg.STARTUP_ORDER / 4 ^ i % 4

/-- The place of a step in ORDER. -/
def Chip.orderPos (c : Chip) (code : Nat) : Nat := ((List.range 4).find? (fun i => c.orderStep i == code)).getD 4

/-- A start-up step of the whole array takes effect (R853). -/
def Chip.startEffect (c : Chip) (code : Nat) : Chip :=
  match code with
  | 0 => { c with gl.locked := [] }
  | 1 => { c with gl.rel := true }
  | 2 => { c with gl.sr := true }
  | _ => { c with gl.wr := true }

/-- The array enters RUN (R854 step 5, R860). -/
def Chip.gEnterRun (c : Chip) : Chip :=
  ({ c.put Gcfg.STATE gRun with gl.scrub := 0 }).postGcfg 5 [(8, if c.gl.byWcfg then 2 else c.f Gcfg.SLOT)]

/-- Begin step number `gl.step` of the start-up order; the last step that completes at once leads to RUN (R854). -/
def Chip.startStep (c : Chip) : Chip :=
  let code := c.orderStep c.gl.step
  let c : Chip := { c.startEffect code with gl.step := c.gl.step + 1 }
  if c.gl.step == 4 && code != 0 then c.gEnterRun else c

/-- DLY after the previous step, the next one begins (R854): not while WAIT_LOCK waits. -/
def Chip.startupStep (c : Chip) : Chip :=
  if c.gState ≠ gStarting || c.gl.checking then c
  else if c.gl.step ≠ 0 && c.orderStep (c.gl.step - 1) == 0 && !c.locked then c
  else if c.gl.step = 4 then c.gEnterRun
  else c.startStep

/-- LATEST channels have had no token yet (R193). -/
def Chip.latestClear (c : Chip) : Chip :=
  forN 32 (fun i c => if c.f (Gport.OUT_MODE (gNode (i / 8)) (i % 8)) = 1 then c.chClear (i / 8) (i % 8) else c) c

/-- START (R853–R855). The ring measurements that count are those after it (R990). -/
def Chip.gStart (c : Chip) : Chip :=
  if c.gState ≠ gStopped then c.cmdErr
  else
    let p := c.orderPos
    if (List.range 4).any (fun s => p s == 4) then c.cmdErr
    else
      let fl := b2n (decide (p 1 < p 0)) + 2 * b2n (decide (p 1 < p 2)) + 4 * b2n (decide (p 2 < p 3))
      let c := { (c.put Gcfg.STATE gStarting).put Gcfg.ORDER_FLAGS fl with gl.checking := true, gl.step := 0, gl.wcfg := none, gl.ring := [] }
      if fl = 0 then c else c.postGcfg 3 [(8, fl)]

/-- A refusal with its whole location is recorded. -/
def Chip.gRefuseAt (c : Chip) (x : FabricFail) : Chip :=
  ((((c.put Gcfg.REFUSE_CODE x.1).put Gcfg.REFUSE_COLUMN x.2.1).put Gcfg.REFUSE_ROW x.2.2.1).put Gcfg.REFUSE_MC x.2.2.2).postGcfg 2
    [(8, x.1), (8, x.2.1), (8, x.2.2.1), (8, x.2.2.2)]

/-- A part of a location of `w` bits: free where the spec does not state it. -/
def Chip.locPart (c : Chip) (w v : Nat) : Nat × Chip := if v = openLoc then (c.freeWord.1.toNat % 2 ^ w, c.freeWord.2) else (v, c)

/-- A refusal is recorded (R849, R854). -/
def Chip.gRefuse (c : Chip) (x : FabricFail) : Chip :=
  let col := c.locPart 5 x.2.1
  let row := col.2.locPart 4 x.2.2.1
  let mc := row.2.locPart 4 x.2.2.2
  mc.2.gRefuseAt (x.1, col.1, row.1, mc.1)

/-- CRC-32 over every frame in ascending frame address (R854 step 2). -/
def Chip.arrayCrc (c : Chip) : Nat := crc32 ((List.range frameCount).flatMap (fun fr => wordBytes (c.frameWords fr)))

/-- The fabric check of START ends (R849, R854): a refusal returns the array to STOPPED; else the elements take their INIT, the memories their
preload (R186), and the first step begins. -/
def Chip.fabricDone (c : Chip) : Chip :=
  if c.gState ≠ gStarting || !c.gl.checking then c
  else
    let c := { c with gl.checking := false }
    match c.fabric (fun _ => true) with
    | some x => (c.put Gcfg.STATE gStopped).gRefuse x
    | none =>
      if c.b Gcfg.CTL_CRC_CHK && c.arrayCrc != c.f Gcfg.CRC_EXP then (c.put Gcfg.STATE gStopped).gRefuse (8, openLoc, openLoc, openLoc)
      else (({ c with gl.gmem := c.gl.preload } : Chip).initElements (fun _ => true)).latestClear.startStep

/-- Every Overpaint region is IDLE. -/
def Chip.regionsIdle (c : Chip) : Chip :=
  forN 8 (fun r c => c.put (Gcfg.REGIONr_STATE r) 0) { c with gl.regCheck := [], gl.regStep := [], gl.regSr := [], gl.regRel := [] }

/-- The array stops: outputs at rest, memory writes off, elements held at their initial states (R857). -/
def Chip.gHold (c : Chip) : Chip :=
  ({ c.put Gcfg.STATE gStopped with gl.rel := false, gl.wr := false, gl.sr := false, gl.checking := false, gl.step := 0 }).initElements
    (fun _ => true)

/-- SHUTDOWN with a cause (R857). -/
def Chip.gShutdown (c : Chip) (cause : Nat) : Chip := (c.gHold.regionsIdle).postGcfg 6 [(8, cause)]

/-- WAIT_LOCK has not completed within 1 ms (R856). -/
def Chip.gLockTmo (c : Chip) : Chip :=
  if c.gState = gStarting ∧ c.gl.checking = false ∧ c.gl.step ≠ 0 ∧ c.orderStep (c.gl.step - 1) = 0 ∧ c.locked = false then
    ((c.gHold).hwSet Gcfg.LOCK_TMO 1).postGcfg 4 [(8, c.f Garr.VDDG_SET)]
  else c

/-! ### Slots -/

/-- Cell address of slot A or B, and of its Stencil copy (R791). -/
def slotBase (b : Bool) : Nat := if b then 0x100000 else 0
@[inherit_doc slotBase] def stencilBase (b : Bool) : Nat := if b then 0x208000 else 0x200000

/-- A word of a slot. -/
def Chip.slotWord (c : Chip) (b : Bool) (off : Nat) : Nat := c.cellsAt (slotBase b + off) 4

/-- CRC-32 of `n` cell bytes. -/
def Chip.cellCrc (c : Chip) (a n : Nat) : Nat := crc32 ((List.range n).map (fun i => (c.cell (a + i)).toNat))

/-- The slot's header is correct (R850, R851). -/
def Chip.slotHeader (c : Chip) (b : Bool) : Bool :=
  c.slotWord b 0 == 0x315A4C47 && c.slotWord b 4 % 65536 == 1 && c.slotWord b 0xC == 466944
    && (c.slotWord b 0x14 == 0 || c.slotWord b 0x14 == 196608)
    && !c.cellBad (slotBase b) 256 && c.slotWord b 0xFC == c.cellCrc (slotBase b) 252

/-- The slot is valid (R851, R859). -/
def Chip.slotValid (c : Chip) (b : Bool) : Bool :=
  let a := slotBase b
  let s := stencilBase b
  let plen := c.slotWord b 0x14
  c.slotHeader b
    && c.cellsAt (s + 0x7200) 4 == 0x314E5453 && c.cellsAt (s + 0x7204) 4 == c.slotWord b 8
    && c.cellCrc s 0x7208 == c.cellsAt (s + 0x7208) 4
    && c.cellCrc (a + 0x100) 466944 == c.slotWord b 0x10
    && (plen == 0 || c.cellCrc (a + 0x72100) 196608 == c.slotWord b 0x18)
    && !c.cellBad (a + 0x100) 466944 && !c.cellBad (a + 0x72100) plen && !c.cellBad s 0x720C

/-- GIO_REST, STARTUP, SCRUB, DESIGN_ID and the regions of a slot; overlapping or reversed regions are disabled (R865). -/
def Chip.slotFields (c : Chip) (b : Bool) : Chip :=
  let w := c.slotWord b
  let c := (((((c.put Gcfg.DESIGN_ID (w 0x1C)).put Gcfg.STARTUP_ORDER (w 0x20 % 256)).put Gcfg.STARTUP_DLY (bits (w 0x20) 15 8)).put
    Gcfg.SCRUB_PER (w 0x24 % 256)).put Gcfg.SCRUB_CRIT_ACT (bits (w 0x24) 9 8)).putB Gcfg.SLOT b
  let c := forN 8 (fun r c =>
    let x := w (0x28 + 4 * r)
    ((c.put (Gcfg.REGIONr_FIRST r) (x % 32)).put (Gcfg.REGIONr_LAST r) (bits x 12 8)).put (Gcfg.REGIONr_EN r) (bits x 16 16)) c
  let c := forN 6 (fun i c => c.put (Gcfg.GIO_REST i) (w (0x48 + 4 * i))) c
  let en (r : Nat) : Bool := c.b (Gcfg.REGIONr_EN r)
  let bad (r : Nat) : Bool := en r && (decide (c.f (Gcfg.REGIONr_LAST r) < c.f (Gcfg.REGIONr_FIRST r))
    || (List.range 8).any (fun q => q != r && en q && (List.range 32).any (fun p => c.inRegion r p && c.inRegion q p)))
  let out := (List.range 8).filter bad
  forL out (fun r c => (c.putB (Gcfg.REGIONr_EN r) false).cmdErr) c

/-- CFG copies a valid slot into the array (R851). -/
def Chip.slotCopy (c : Chip) (b : Bool) : Chip :=
  let a := slotBase b
  let c := forN frameCount (fun fr c =>
    c.writeFrame fr ((List.range 48).map (fun i => BitVec.ofNat 32 (c.cellsAt (a + 0x100 + 192 * fr + 4 * i) 4))) true) c
  let mem := if c.slotWord b 0x14 = 0 then [] else
    (List.range 98304).foldl (fun m i => mset 0 m i (c.cellsAt (a + 0x72100 + 2 * i) 2 % 512)) []
  let st := (List.range 0x7200).foldl (fun m i => mset 0 m i (c.cell (stencilBase b + i)).toNat) []
  let c := { c with gl.gmem := mem, gl.preload := mem, gl.stencil := st, gl.byWcfg := false }
  ((c.slotFields b).putB Nvc.ACTIVE_SLOT b).put Gcfg.STATE gStopped

/-- Every field whose Reset entry is NV reads 0 (R852). -/
def Chip.noSlot (c : Chip) : Chip :=
  let c := (((((c.put Gcfg.DESIGN_ID 0).put Gcfg.STARTUP_ORDER 0).put Gcfg.STARTUP_DLY 0).put Gcfg.SCRUB_PER 0).put Gcfg.SCRUB_CRIT_ACT 0).putB
    Gcfg.SLOT false
  let c := forN 8 (fun r c => ((c.put (Gcfg.REGIONr_FIRST r) 0).put (Gcfg.REGIONr_LAST r) 0).put (Gcfg.REGIONr_EN r) 0) c
  forN 6 (fun i c => c.put (Gcfg.GIO_REST i) 0) c

/-- The slot copy of step S5 (R851, R852). -/
def Chip.slotLoad (c : Chip) : Chip :=
  let first := decide (c.slotWord false 8 < c.slotWord true 8) && c.slotHeader true || !c.slotHeader false
  let read (c : Chip) (b : Bool) : Chip :=
    if c.slotHeader b then (c.cellRead (slotBase b) (0x72100 + c.slotWord b 0x14)).cellRead (stencilBase b) 0x720C
    else c.cellRead (slotBase b) 256
  let c' := read c first
  if c.slotValid first then c'.slotCopy first
  else
    let c' := read c' (!first)
    if c.slotValid (!first) then c'.slotCopy (!first)
    else (((c'.noSlot.put Gcfg.STATE gEmpty).hwSet Gcfg.BOOT_FAIL 1).put Gcfg.STARTUP_ORDER 0x6C).post cfgNode 9 1 []

/-! ### Configuration commands -/

/-- A write of CMD that is no region command (R844). -/
def Chip.gWcfg (c : Chip) : Chip :=
  if c.gState ≤ 1 || (c.gState == gRun && (List.range 8).any c.regionOpen) then { c with gl.wcfg := some [] } else c.cmdErr
@[inherit_doc Chip.gWcfg] def Chip.gRcfg (c : Chip) : Chip := { c with gl.rcfg := some 0 }
@[inherit_doc Chip.gWcfg] def Chip.gShutdownCmd (c : Chip) : Chip :=
  if c.gState = gStarting ∨ c.gState = gRun then c.gShutdown 0 else c.cmdErr
@[inherit_doc Chip.gWcfg] def Chip.gRestore (c : Chip) : Chip :=
  if c.gState = gStopped then c.initElements (fun _ => true) else c.cmdErr

/-! ### Overpaint regions -/

/-- Channel a parked request or a capture belongs to lies in a region at rest: of port n, channel k. -/
def Chip.chanRest (c : Chip) (n k : Nat) : Bool := outChanRest c n k || inChanRest c n k

/-- What the G ports do when a region enters reset (R867): parked requests are answered REGION_BUSY, holds end in
GLAZE_LATE, captures are abandoned, VALID bits and FIFOs clear. -/
def Chip.portsAtReset (c : Chip) : Chip :=
  let c := forN 4 (fun n c =>
    let g := gNode n
    let ch (p : Pkt) : Nat := (p.hdr.offset - 0x1000000) % 0x20 / 4
    let rest := (c.ni g).parked.filter (fun p => outChanRest c n (ch p))
    let c := c.setNi g { c.ni g with parked := (c.ni g).parked.filter (fun p => !outChanRest c n (ch p)) }
    let c := forL rest (fun p c => c.respond g { hdr := rspHdr p.hdr (if p.hdr.typ = 1 then 6 else 7) 6 }) c
    forN 8 (fun k c =>
      let c := if outChanRest c n k && c.f (Gport.OUT_MODE g k) != 1 then
          { c.chClear n k with gl.snap := mset false c.gl.snap (8 * n + k) false } else c
      if inChanRest c n k then (c.setInChan n k { c.inChan n k with fifo := [], out := none }).setFull n k else c) c) c
  forN 4 (fun g c =>
    match mget none c.pl.holds g with
    | none => c
    | some h => match mget 0 c.pl.req (slotKey (gNode g) (c.f (Slot.LINK (gNode g) h.entry))) with
      | 0 => c
      | d + 1 => if c.replyRest g d then c.glazeLate g h.entry d h.beats else c) c

/-- Frames of region `r`. -/
def Chip.regionFrames (c : Chip) (r : Nat) : List Nat :=
  (List.range frameCount).filter (fun fr => decide (fr / 128 < 18) && c.inRegion r (posOf (fr / 128)))

/-- OVERPAINT_BEGIN (R866, R867). The event G returns the region's ERR, which does not survive it, to 0 (R14, R872). -/
def Chip.overBegin (c : Chip) (r : Nat) : Chip :=
  if c.gState ≠ gRun || !c.b (Gcfg.REGIONr_EN r) || c.f (Gcfg.REGIONr_STATE r) != 0 then c.cmdErr
  else
    let c := { ((c.put (Gcfg.REGIONr_STATE r) 1).put (Gcfg.REGIONr_ERR r) 0).spacer (c.inRegion r) with
      gl.regSr := mset false c.gl.regSr r false, gl.regRel := mset false c.gl.regRel r false, gl.regStep := mset 0 c.gl.regStep r 0,
      gl.regWords := mset [] c.gl.regWords r [],
      gl.written := c.gl.written.filter (fun e => !(decide (e.1 / 128 < 18) && c.inRegion r (posOf (e.1 / 128)))) }
    ((c.portsAtReset.postGcfg 9 [(8, r)]).skbAdd 832 1)

/-- OVERPAINT_END (R869). -/
def Chip.overEnd (c : Chip) (r : Nat) : Chip :=
  if c.gState ≠ gRun || !c.regionOpen r then c.cmdErr
  else { c.put (Gcfg.REGIONr_STATE r) 2 with gl.regCheck := mset false c.gl.regCheck r true }

/-- A start-up step of a region takes effect (R870). -/
def Chip.regionEffect (c : Chip) (r code : Nat) : Chip :=
  match code with
  | 1 => { c with gl.regRel := mset false c.gl.regRel r true }
  | 2 => { c with gl.regSr := mset false c.gl.regSr r true }
  | _ => c

/-- Begin a region's next start-up step; after the fourth the region is IDLE (R870). -/
def Chip.regionStep (c : Chip) (r : Nat) : Chip :=
  match mget 0 c.gl.regStep r with
  | 0 => c
  | k + 1 =>
    let c := { c.regionEffect r (c.orderStep k) with gl.regStep := mset 0 c.gl.regStep r (if k = 3 then 0 else k + 2) }
    if k = 3 then (c.put (Gcfg.REGIONr_STATE r) 0).postGcfg 10 [(8, r)] else c

/-- The cause that the check of a region finds (R869, R871). -/
def Chip.regionCause (c : Chip) (r : Nat) : Nat :=
  if (c.regionFrames r).any (fun fr => !mget false c.gl.written fr) then 1
  else if crc32 (wordBytes (mget [] c.gl.regWords r)) ≠ c.f (Gcfg.REGIONr_CRC_EXP r) then 2
  else match c.fabric (fun col => decide (col < 18) && c.inRegion r (posOf col)) with
    | some x => 8 + x.1
    | none => 0

/-- The check of a region ends (R869–R871). -/
def Chip.regionDone (c : Chip) (r : Nat) : Chip :=
  if c.f (Gcfg.REGIONr_STATE r) ≠ 2 || !mget false c.gl.regCheck r then c
  else
    let c := { c with gl.regCheck := mset false c.gl.regCheck r false }
    match c.regionCause r with
    | 0 => ({ (c.initElements (c.inRegion r)) with gl.regStep := mset 0 c.gl.regStep r 1 }).regionStep r
    | e => ((c.put (Gcfg.REGIONr_STATE r) 1).put (Gcfg.REGIONr_ERR r) e).postGcfg 11 [(8, r), (8, e)]

/-! ### The scrubber -/

/-- Configuration word `w` of a list of frame words (R845). -/
def cfgWord (ws : List Word) (w : Nat) : Nat := wordAt ws (w / 2) / 65536 ^ (w % 2) % 65536

/-- The word's Stencil bit (R859). -/
def Chip.marked (c : Chip) (fr w : Nat) : Bool := bit (mget 0 c.gl.stencil ((96 * fr + w) / 8)) ((96 * fr + w) % 8)

/-- Upsets reach configuration words of a frame: each is exclusive-ored. -/
def Chip.upset (c : Chip) (fr : Nat) (l : List (Fin 96 × BitVec 16)) : Chip :=
  forL l (fun e c =>
    let k := 48 * fr + e.1.val / 2
    { c with gl.frames := mset 0 c.gl.frames k (mget 0 c.gl.frames k ^^^ BitVec.ofNat 32 (e.2.toNat * 65536 ^ (e.1.val % 2))) }) c

/-- GLAZE_REPAIRED, at most once in 1 s (800,000,000 free beats) (R864). -/
def Chip.repairPost (c : Chip) : Chip :=
  if c.gl.repairs ≠ 0 && (match c.gl.repPost with | none => true | some b => decide (800000000 ≤ c.clock - b)) then
    { c.postGcfg 8 [(32, c.gl.repairs)] with gl.repairs := 0, gl.repPost := some c.clock }
  else c

/-- A visit finds critical words: the first, and how many (R863). -/
def Chip.critical (c : Chip) (fr first n : Nat) : Chip :=
  let act := c.f Gcfg.SCRUB_CRIT_ACT
  let c := ((((c.hwSet Gcfg.CRIT 1).put Gcfg.LAST_UPSET_FRAME (16 * fr)).put Gcfg.LAST_UPSET_WORD first).incBy Gcfg.CRIT_CNT n).postGcfg 7
    [(8, fr / 128), (16, 16 * fr), (8, first), (8, n), (8, act)]
  match act with
  | 0 => c
  | 1 => ((c.gShutdown 1).gRestore).gStart
  | _ => c.gShutdown 1

/-- The scrubber visits its next frame (R860–R864): `l` are the upsets that the frame has taken since its last visit. -/
def Chip.scrubVisit (c : Chip) (l : List (Fin 96 × BitVec 16)) : Chip :=
  if c.gState ≠ gRun || c.f Power.STATE == 1 then c
  else
    let fr := c.gl.scrub
    let c := { c with gl.scrub := (fr + 1) % frameCount }
    let c := if fr + 1 = frameCount then c.inc Gcfg.SCRUB_PASSES else c
    if (c.openRegion (fr / 128)).isSome then c.repairPost
    else
      let c := c.upset fr l
      if c.frameCrc fr = c.signature fr then c.repairPost
      else
        let a := slotBase (c.b Nvc.ACTIVE_SLOT) + 0x100 + 192 * fr
        if mget false c.gl.nvMark fr && !c.cellBad a 192 then
          let src := (List.range 48).map (fun i => BitVec.ofNat 32 (c.cellsAt (a + 4 * i) 4))
          let now := c.frameWords fr
          let diff := (List.range 96).filter (fun w => cfgWord src w != cfgWord now w)
          let crit := diff.filter (c.marked fr)
          let reps := diff.length - crit.length
          let c := (c.cellRead a 192).writeFrame fr src true
          let c := { (c.incBy Gcfg.REPAIR_CNT reps).skbAdd 825 reps with gl.repairs := c.gl.repairs + reps }.repairPost
          match crit with
          | [] => c
          | w :: _ => c.critical fr w crit.length
        else
          let c := if mget false c.gl.nvMark fr then c.cellRead a 192 else c
          ({ c with gl.sig := mset 0 c.gl.sig fr (c.frameCrc fr + 1) }.repairPost).critical fr 127 1

/-- The bits of FAULT_N that the array drives (R858). -/
def Chip.glazeFault (c : Chip) : Bool := c.b Gcfg.CRIT || c.b Gcfg.BOOT_FAIL

end Sys2Proof.Machine
end

