-- ==== Sys2Proof/Machine/Lock.lean ====
section
/-! DEFINITION. Queued locks: requests, queues, priority inheritance, timeouts, abandonment and takeover (R513–
R566). The unit is a value of its own; `lockApply` is the one way it changes. -/

namespace Sys2Proof.Machine

/-! ### Records and waits -/

def LockUnit.lockRec (u : LockUnit) (n : Nat) : LockRec := mget {} u.lk n
def LockUnit.setRec (u : LockUnit) (n : Nat) (r : LockRec) : LockUnit := { u with lk := mset {} u.lk n r }

/-- The queue of a lock, head first (R529). -/
def LockUnit.queue (u : LockUnit) (n : Nat) : List LockWait := u.waits.filter (fun w => w.lock == n)

/-- The wait of a requester, at most one (R531). -/
def LockUnit.waitOf (u : LockUnit) (q : Nat) : Option LockWait := u.waits.find? (fun w => w.req == q)

/-- The recorded effective priority of a requester. -/
def LockUnit.epOf (u : LockUnit) (q : Nat) : Nat := mget 0 u.ep q

/-- Locks that a requester holds, ascending. -/
def LockUnit.holds (u : LockUnit) (q : Nat) : List Nat :=
  (List.range 256).filter (fun n => (u.lockRec n).holder == some q)

/-- A requester neither holds nor waits. -/
def LockUnit.idle (u : LockUnit) (q : Nat) : Bool := (u.holds q).isEmpty && (u.waitOf q).isNone

/-- The effective priority of a requester: the greatest of its wait's PRIO, the BASE of each lock it holds and the
EP of each waiter on those locks. A requester that neither holds nor waits has the PRIO it last asked with. -/
def LockUnit.calc (u : LockUnit) (q : Nat) : Nat :=
  if u.idle q then mget 0 u.own q
  else max (((u.waitOf q).map LockWait.prio).getD 0)
    ((u.holds q).foldl (fun a n => max a ((u.queue n).foldl (fun b w => max b (u.epOf w.req)) (u.lockRec n).base)) 0)

/-- Insert a wait at the tail of its priority level (R529): before the first wait on the same lock with a lower
effective priority. -/
def insertWait (ep : Nat → Nat) (w : LockWait) : List LockWait → List LockWait
  | [] => [w]
  | x :: xs => if x.lock = w.lock && decide (ep x.req < ep w.req) then w :: x :: xs else x :: insertWait ep w xs

/-- The waits without those of a requester. -/
def dropWait (q : Nat) (ws : List LockWait) : List LockWait := ws.filter (fun w => w.req != q)

/-- Number of waiters before a requester in its queue (R520 AHEAD). -/
def LockUnit.ahead (u : LockUnit) (q n : Nat) : Nat := min 255 ((u.queue n).findIdx (fun w => w.req == q))

/-- A waiter moves to the tail of its new level (R540). -/
def LockUnit.moveTail (u : LockUnit) (w : LockWait) : LockUnit :=
  { u with waits := insertWait u.epOf w (dropWait w.req u.waits) }

/-! ### One operation -/

/-- What LOCK sends out. -/
inductive LockOut where
  /-- an LKRSP: the request's header, lock, result, EPRIO, AHEAD (R520) -/
  | rsp (h : Hdr) (lock result eprio ahead : Nat)
  /-- STATUS BUSY (R530) -/
  | busy (h : Hdr)
  /-- a GRANT packet: requester and Notice words (R522) -/
  | notice (req w0 w1 : Nat)
  /-- an event of class LOCK: index and payload fields (R558) -/
  | event (idx : Nat) (fields : List (Nat × Nat))
  deriving DecidableEq, Repr

/-- The unit in the middle of an operation: free entries of the NI's VC3 send queue, and what goes out. -/
structure LockRun where
  u : LockUnit
  room : Nat
  outs : List LockOut := []
  deriving DecidableEq, Repr

def LockRun.out (x : LockRun) (o : LockOut) : LockRun := { x with outs := x.outs ++ [o] }
def LockRun.set (x : LockRun) (u : LockUnit) : LockRun := { x with u := u }

/-- The two fields of a requester in an event payload (R514, R734). -/
def reqFields (q : Nat) : List (Nat × Nat) := [(8, q / 128), (8, q % 128)]

/-- Send a notice with the EPRIO of this moment and the next SEQ (R522). -/
def LockRun.sendNotice (x : LockRun) (n : LockNotice) : LockRun :=
  let s := mget 0 x.u.seq n.req
  let s' := if s = 65535 then 1 else s + 1
  let base := if n.kind = 0 || (n.kind == 2 && n.result == 3) then (x.u.lockRec n.lock).base else 0
  { x with u := { x.u with seq := mset 0 x.u.seq n.req s' }, room := x.room - 1,
           outs := x.outs ++ [.notice n.req
             (n.lock + n.kind * 2 ^ 8 + x.u.epOf n.req * 2 ^ 12 + n.result * 2 ^ 16 + base * 2 ^ 24) s'] }

/-- Keep a notice that cannot be sent: of INHERIT notices to one requester only the latest is kept (R534). -/
def keepNotice (n : LockNotice) (l : List LockNotice) : List LockNotice :=
  if n.kind = 1 && l.any (fun m => m.req == n.req && m.kind == 1) then
    l.map (fun m => if m.req = n.req && m.kind == 1 then n else m)
  else l ++ [n]

/-- A notice arises: it is sent, or held as lock state (R534). -/
def LockRun.notice (x : LockRun) (n : LockNotice) : LockRun :=
  if x.u.held.isEmpty && decide (0 < x.room) then x.sendNotice n
  else x.set { x.u with held := keepNotice n x.u.held }

/-- Send held notices while there is space (R534). -/
def LockRun.flushHeld : List LockNotice → LockRun → LockRun
  | [], x => x.set { x.u with held := [] }
  | n :: ns, x => if x.room = 0 then x.set { x.u with held := n :: ns } else LockRun.flushHeld ns (x.sendNotice n)

/-- Recompute a requester's effective priority, and walk on through at most `k` holders (R536, R538, R540). `n` is
the lock that caused the change. Answers the steps left. -/
def LockRun.walk : Nat → Nat → Nat → LockRun → LockRun
  | k, q, n, x =>
    let e := x.u.calc q
    if e = x.u.epOf q then x
    else
      let x := (x.set { x.u with ep := mset 0 x.u.ep q e }).notice { req := q, kind := 1, lock := n }
      match x.u.waitOf q with
      | none => x
      | some w =>
        let x := x.set (x.u.moveTail w)
        match k, (x.u.lockRec w.lock).holder with
        | k + 1, some h => LockRun.walk k h w.lock x
        | _, _ => x

/-- Recompute the requesters an operation touched. -/
def LockRun.touch (x : LockRun) (qs : List Nat) (n : Nat) : LockRun := forL qs (fun q x => x.walk 8 q n) x

/-- A requester that neither holds nor waits asks with a PRIO: it has no effective priority that could change. -/
def LockRun.asks (x : LockRun) (q p : Nat) : LockRun :=
  x.set { x.u with own := mset 0 x.u.own q p, ep := if x.u.idle q then mset 0 x.u.ep q p else x.u.ep }

/-- A lock is granted to a requester with BASE (R523, R526, R535): its timer starts, its ABANDONED flag clears. -/
def LockRun.grant (x : LockRun) (n q base : Nat) : LockRun :=
  x.set (x.u.setRec n { holder := some q, base := base, abandoned := false, timer := true })

/-- The result of a grant of lock `n` (R521). -/
def LockRun.grantCode (x : LockRun) (n : Nat) : Nat := if (x.u.lockRec n).abandoned then 12 else 1

/-- Lock `n` is released by its holder (R526): the head waiter is granted in the same operation. -/
def LockRun.release (x : LockRun) (n : Nat) : LockRun :=
  match (x.u.lockRec n).holder with
  | none => x
  | some q =>
    match x.u.queue n with
    | [] => (x.set (x.u.setRec n { holder := none, base := 0, abandoned := (x.u.lockRec n).abandoned, timer := false })).touch [q] n
    | w :: _ =>
      let code := x.grantCode n
      (((x.set { x.u with waits := dropWait w.req x.u.waits }).grant n w.req w.prio).notice
        { req := w.req, kind := 0, lock := n, result := code }).touch [q, w.req] n

/-- A wait is removed (R527): the holder's effective priority may fall. -/
def LockRun.unwait (x : LockRun) (w : LockWait) : LockRun :=
  (x.set { x.u with waits := dropWait w.req x.u.waits }).touch (w.req :: ((x.u.lockRec w.lock).holder.toList)) w.lock

/-- The walk of R537 from a holder: some holder closes a cycle back to the requester; the walk still goes on after
its steps; or it ends. -/
inductive ChainEnd where
  | ends | long
  | cycle (holder : Nat)
  deriving DecidableEq, Repr

@[inherit_doc ChainEnd] def LockUnit.chain (u : LockUnit) (q : Nat) : Nat → Nat → ChainEnd
  | k, h =>
    match u.waitOf h with
    | none => .ends
    | some w =>
      match k, (u.lockRec w.lock).holder with
      | _, none => .ends
      | 0, some _ => .long
      | k + 1, some g => if g = q then .cycle h else LockUnit.chain u q k g

/-- A reset requester (R545); for a tenant reset of T7, every requester on the twin (R667). -/
def resetReq (t : Nat) (node : Option Nat) (q : Nat) : Bool :=
  match node with
  | some n => q / 128 == t && n == q % 128
  | none => if t = 7 then decide (64 ≤ q % 128) else q / 128 == t

/-- The requester is quarantined (R548). -/
def LockUnit.quarantined (u : LockUnit) (q : Nat) : Bool := u.quar.any (fun p => resetReq p.1 p.2 q)

/-- Answer an operation: EPRIO is the requester's effective priority after it (R520). -/
def LockRun.answer (x : LockRun) (h : Hdr) (q n result ahead : Nat) : LockRun :=
  x.out (.rsp h n result (x.u.epOf q) ahead)

/-- A new wait enters its queue and takes a slot (R524, R529, R530). -/
def LockRun.enqueue (x : LockRun) (q n p holder : Nat) : LockRun :=
  let u := x.u
  let u := { u with waits := u.waits ++ [LockWait.mk q n p] }
  let u := { u with peak := max u.peak u.waits.length }
  let e := u.calc q
  let y := x.set (LockUnit.moveTail { u with ep := mset 0 u.ep q e } ⟨q, n, p⟩)
  (if e = x.u.epOf q then y else y.notice { req := q, kind := 1, lock := n }).walk 7 holder n

/-- ACQUIRE (R523, R524, R539, R540). -/
def LockRun.acquire (x : LockRun) (h : Hdr) (q n p : Nat) : LockRun :=
  match (x.u.lockRec n).holder with
  | none =>
    let code := x.grantCode n
    (((x.asks q p).grant n q p).touch [q] n).answer h q n code 0
  | some g =>
    if g = q then
      let y := x.asks q p
      ((y.set (y.u.setRec n { y.u.lockRec n with base := p })).touch [q] n).answer h q n 3 0
    else
      match x.u.waitOf q with
      | some w =>
        if w.lock = n then
          let y := x.asks q p
          let y := (y.set { y.u with waits := y.u.waits.map (fun v => if v.req = q then { v with prio := p } else v) }).touch [q] n
          y.answer h q n 4 (y.u.ahead q n)
        else x.answer h q n 9 0
      | none =>
        match x.u.chain q 8 g with
        | .cycle met => (x.out (.event 1 ([(8, n)] ++ reqFields q ++ reqFields met))).answer h q n 10 0
        | c =>
          if 512 ≤ x.u.waits.length then x.out (.busy h)
          else
            let y := ((x.asks q p).enqueue q n p g)
            let y := if c = .long then y.out (.event 2 ([(8, n)] ++ reqFields q)) else y
            y.answer h q n 2 (y.u.ahead q n)

/-- TRY (R525): the free lock as ACQUIRE does, the held lock HELD or REFUSED. -/
def LockRun.tryOp (x : LockRun) (h : Hdr) (q n p : Nat) : LockRun :=
  match (x.u.lockRec n).holder with
  | none => x.acquire h q n p
  | some g => if g = q then x.acquire h q n p else x.answer h q n 8 0

/-- RELEASE (R526, R527). -/
def LockRun.releaseOp (x : LockRun) (h : Hdr) (q n : Nat) : LockRun :=
  if (x.u.lockRec n).holder = some q then (x.release n).answer h q n 5 0
  else match x.u.waitOf q with
    | some w => if w.lock = n then (x.unwait w).answer h q n 6 0 else x.answer h q n 7 0
    | none => x.answer h q n 7 0

/-- A judged request (R517, R528, R548, R550). -/
def LockRun.request (x : LockRun) (h : Hdr) (q op n p : Nat) (shadow : Bool) : LockRun :=
  if shadow then x.answer h q n 14 0
  else if x.u.quarantined q then x.answer h q n 11 0
  else if op = 0 then x.acquire h q n p
  else if op = 2 then x.tryOp h q n p
  else x.releaseOp h q n

/-- A hold ends without a release: the flag is set and the lock released (R543, R546), with its event. -/
def LockRun.abandon (x : LockRun) (n cause : Nat) : LockRun :=
  match (x.u.lockRec n).holder with
  | none => x
  | some q => ((x.set (x.u.setRec n { x.u.lockRec n with abandoned := true })).out
      (.event 4 ([(8, n)] ++ reqFields q ++ [(8, cause)]))).release n

/-- A forced release: the holder is told REVOKED (R543, R544). -/
def LockRun.revoke (x : LockRun) (n cause : Nat) : LockRun :=
  match (x.u.lockRec n).holder with
  | none => x
  | some q => (x.notice { req := q, kind := 3, lock := n, result := 13 }).abandon n cause

/-- A hold times out (R543). -/
def LockRun.holdTmo (x : LockRun) (n : Nat) (force : Bool) : LockRun :=
  let r := x.u.lockRec n
  match r.holder with
  | none => x
  | some q =>
    if r.timer then
      let y := (x.set (x.u.setRec n { r with timer := false })).out (.event 3 ([(8, n)] ++ reqFields q ++ [(8, b2n force)]))
      if force then y.revoke n 2 else y
    else x

/-- Every wait and hold of the requesters `p` ends (R546), each for its cause; their held GRANT notices are discarded (R562). -/
def LockRun.abandonAll (x : LockRun) (p : Nat → Bool) (cause : Nat → Nat) : LockRun :=
  let gone := x.u.waits.filter (fun w => p w.req)
  let x := x.set { x.u with waits := x.u.waits.filter (fun w => !p w.req),
                            held := x.u.held.filter (fun n => !(p n.req && n.kind == 0)) }
  let x := forL gone (fun w x => x.touch (w.req :: ((x.u.lockRec w.lock).holder.toList)) w.lock) x
  forN 256 (fun n x => match (x.u.lockRec n).holder with
    | some q => if p q then x.abandon n (cause q) else x
    | none => x) x

/-- The requester of a committed copy at the new Primary (R551); 1024 is added to one that was a node of the failed
part. -/
def translateReq (q : Nat) : Nat :=
  let t := q / 128
  let s := q % 128
  if 64 ≤ s then t * 128 + (s - 64) else if s = 0 then q else q + 1024

/-- A quarantine of a committed copy at the new Primary (R551, R553): that of a node of the failed part has no requester any more. -/
def translateQuar (p : Nat × Option Nat) : Option (Nat × Option Nat) :=
  match p.2 with
  | some n => if 64 ≤ n then some (p.1, some (n - 64)) else if n = 0 then some p else none
  | none => some p

/-- Take over one wait of the copy: on a lock that is held, by a requester that waits nowhere yet (R552), while a
slot is free. A wait left out is answered CANCELLED if its requester has a wait. -/
def LockRun.takeWait (x : LockRun × List (Nat × Nat)) (w : LockWait) : LockRun × List (Nat × Nat) :=
  let (r, cut) := x
  if (r.u.waitOf w.req).isNone && (r.u.lockRec w.lock).holder.isSome && decide (r.u.waits.length < 512) then
    (r.set { r.u with waits := r.u.waits ++ [w] }, cut)
  else (r, cut ++ [(w.req, w.lock)])

/-- Takeover (R551–R553): the copy's records translated, the failed part's requesters abandoned, timers and
quarantines at full length, and the RESYNC series of every surviving requester. -/
def LockRun.restore (x : LockRun) (s : LockUnit) : LockRun :=
  let tr (r : LockRec) : LockRec := { r with holder := r.holder.map translateReq, timer := r.holder.isSome }
  let u : LockUnit :=
    { lk := s.lk.map (fun e => (e.1, tr e.2)), waits := [], ep := [], own := [], seq := [],
      held := s.held.map (fun n => { n with req := translateReq n.req }), quar := s.quar.filterMap translateQuar, peak := x.u.peak }
  let ws := (List.range 256).flatMap (fun n => (s.queue n).map (fun w => { w with req := translateReq w.req }))
  let (x, cut) := ws.foldl LockRun.takeWait (x.set u, [])
  let reqs := ((List.range 256).filterMap (fun n => (x.u.lockRec n).holder) ++ x.u.waits.map LockWait.req).eraseDups
  let x := x.set { x.u with peak := max x.u.peak x.u.waits.length }
  let x := forN 9 (fun _ x => forL reqs (fun q x => x.set { x.u with ep := mset 0 x.u.ep q (x.u.calc q) }) x) x
  let x := x.abandonAll (fun q => decide (1024 ≤ q)) (fun _ => 4)
  let x := x.set { x.u with held := x.u.held.filter (fun n => decide (n.req < 1024)) }
  let live := (reqs ++ cut.map Prod.fst).eraseDups.filter (fun q => decide (q < 1024))
  forL live (fun q x =>
    let x := forL (x.u.holds q) (fun n x => x.notice { req := q, kind := 2, lock := n, result := 3 }) x
    let x := match x.u.waitOf q with
      | some w => x.notice { req := q, kind := 2, lock := w.lock, result := 4 }
      | none => x
    let x := forL (cut.filter (fun c => c.1 == q)) (fun c x => x.notice { req := q, kind := 2, lock := c.2, result := 6 }) x
    x.notice { req := q, kind := 2, lock := 0, result := 15 }) x

/-- What every LOCK holds: one wait of each requester (R531), at most 512 (R530), each on a lock that is held (R523). -/
def LockUnit.sound (u : LockUnit) : Bool :=
  decide (u.waits.map LockWait.req).Nodup && decide (u.waits.length ≤ 512)
    && u.waits.all (fun w => (u.lockRec w.lock).holder.isSome)

/-- The one way LOCK's state changes: an act, with the free entries of its NI's VC3 send queue. -/
def lockApply (u : LockUnit) (room : Nat) : LockAct → LockRun
  | .request h q op n p sh => LockRun.request ⟨u, room, []⟩ h q op n p sh
  | .holdTmo n f => LockRun.holdTmo ⟨u, room, []⟩ n f
  | .force n => LockRun.revoke ⟨u, room, []⟩ n 3
  | .reset l =>
    let told := l.map (fun r => (r.1, r.2.1))
    LockRun.abandonAll ⟨{ u with quar := u.quar.filter (fun p => !told.contains p) ++ told }, room, []⟩
      (fun q => l.any (fun r => resetReq r.1 r.2.1 q))
      (fun q => ((l.find? (fun r => resetReq r.1 r.2.1 q)).map (fun r => r.2.2)).getD 0)
  | .quarEnd t node => ⟨{ u with quar := u.quar.filter (fun p => p != (t, node)) }, room, []⟩
  | .flush => LockRun.flushHeld u.held ⟨u, room, []⟩
  | .restore s => LockRun.restore ⟨u, room, []⟩ s
  -- DESIGN CHOICE: a copy that no LOCK can hold, which no Primary sends, is not taken (notes/assumptions)
  | .copy s => ⟨if s.sound then { s with peak := u.peak } else u, room, []⟩
  | .clear => ⟨{}, room, []⟩

/-! ### What registers show -/

/-- The words of the Lock state of lock `n` (R557). -/
def LockUnit.stateWord (u : LockUnit) (n : Nat) : Nat :=
  let r := u.lockRec n
  let q := r.holder.getD 0
  b2n r.holder.isSome + b2n r.abandoned * 2 + q / 128 * 2 ^ 2 + q % 128 * 2 ^ 5 + r.base * 2 ^ 12
    + (if r.holder.isSome then u.epOf q else 0) * 2 ^ 16 + (u.queue n).length * 2 ^ 20

/-- SLOTS_FREE and SLOTS_LOW (R556). -/
def LockUnit.slotsWord (u : LockUnit) : Nat := (512 - u.waits.length) + (512 - u.peak) * 2 ^ 16

/-! ### LOCK and the part around it -/

/-- A GRANT packet (R522). -/
def grantPkt (req w0 w1 : Nat) : Pkt :=
  { hdr := { vc := 3, typ := 9, src := 24, dst := req % 128, tenant := req / 128, len := 3 },
    words := [BitVec.ofNat 32 w0, BitVec.ofNat 32 w1, 0, 0] }

/-- Free entries of the VC3 send queue of LOCK's NI (R282); none while it is fenced. -/
def Chip.lockRoom (c : Chip) : Nat := if c.fenced 24 then 0 else 8 - (c.ni 24).send3.length

/-- Send out what an operation of LOCK produced. -/
def Chip.lockOut (c : Chip) : LockOut → Chip
  | .rsp h n result eprio ahead => c.respond 24
      { hdr := rspHdr h 8 0,
        words := [BitVec.ofNat 32 (n + result * 2 ^ 8 + eprio * 2 ^ 16 + ahead * 2 ^ 24), 0, 0, 0] }
  | .busy h => c.respond 24 { hdr := rspHdr h 8 13 }
  | .notice q w0 w1 => c.send3 24 (grantPkt q w0 w1)
  | .event idx fs =>
    let c := if idx = 1 then c.inc (Reg.Lunit.DEADLOCK_CNT) else if idx = 4 then c.inc (Reg.Lunit.ABANDON_CNT) else c
    c.post 24 5 idx fs

/-- LOCK performs one act, and what it sends leaves through its NI. -/
def lockDo (x : LockUnit × Chip) (a : LockAct) : LockUnit × Chip :=
  let y := lockApply x.1 x.2.lockRoom a
  (y.u, y.outs.foldl Chip.lockOut x.2)

/-- Address of DEADLOCK_CNT and ABANDON_CNT. -/
def lockCnt : Nat := Reg.Lunit.ABANDON_CNT.addr

/-- Resets or hold timeouts are performed, and kept with what they found (R560, R563). Where the NI's send queue is full, or the NI fenced,
an event may be lost, and nothing is kept. -/
def lockLate (x : LockUnit × Chip) (as : List LockAct) : LockUnit × Chip :=
  let y := as.foldl lockDo x
  let was : LockWas := { beat := x.2.clock, acts := as, unit := x.1, ni := x.2.ni 24, cnt := x.2.reg lockCnt,
                         unitAfter := y.1, niAfter := y.2.ni 24, cntAfter := y.2.reg lockCnt }
  (y.1, { y.2 with lockWas := if y.2.full3 24 then none else some was })

/-- LOCK and the part without the resets or timeouts of this beat, and these; none where there are none, or something came after them. -/
def lockBack (l : LockUnit) (c : Chip) : Option ((LockUnit × Chip) × List LockAct) :=
  match c.lockWas with
  | none => none
  | some w =>
    if w.beat = c.clock && w.unitAfter == l && w.niAfter == c.ni 24 && w.cntAfter == c.reg lockCnt then
      some ((w.unit, (c.setNi 24 w.ni).setReg lockCnt w.cnt), w.acts)
    else none

/-- The lock that a hold timeout names. -/
def LockAct.timed : LockAct → Option Nat
  | .holdTmo n _ => some n
  | _ => none

/-- A hold timeout ends with the hold that it timed (R560). -/
def stillHeld (before after : LockUnit) (a : LockAct) : Bool :=
  match a.timed with
  | some n => (before.lockRec n).holder == (after.lockRec n).holder
  | none => true

/-- LOCK in a Shadow performs nothing of its own and sends no notice (R550). -/
def LockAct.own : LockAct → Bool
  | .holdTmo _ _ => true
  | .force _ => true
  | .reset _ => true
  | .flush => true
  | _ => false

/-- One act, in its place among the others of its beat: an operation before a timeout of the same lock, resets together (R560, R563). -/
def lockStep (l : LockUnit) (c : Chip) (a : LockAct) : LockUnit × Chip :=
  if c.role == 3 && a.own then (l, c)
  else
    match a, lockBack l c with
    | .holdTmo n f, some (b, as) => if as.all (fun a => a.timed.isSome) then lockLate b (as ++ [.holdTmo n f]) else lockLate (l, c) [.holdTmo n f]
    | .holdTmo n f, none => lockLate (l, c) [.holdTmo n f]
    | .reset rs, some (b, [.reset qs]) => lockLate b [.reset (qs ++ rs)]
    | .reset rs, _ => lockLate (l, c) [.reset rs]
    | .request h q op n p sh, some (b, as) =>
      if as.all (fun a => a.timed.isSome) && as.any (fun a => a.timed == some n) then
        let y := lockDo b (.request h q op n p sh)
        lockLate y (as.filter (stillHeld b.1 y.1))
      else lockDo (l, c) (.request h q op n p sh)
    | a, _ => lockDo (l, c) a

/-- Perform the acts that a command has left for LOCK, in order. -/
def drainLock (l : LockUnit) (c : Chip) : List LockAct → LockUnit × Chip
  | [] => (l, c)
  | a :: as => let x := lockStep l c a; drainLock x.1 x.2 as

end Sys2Proof.Machine
end

