-- ==== Sys2Proof/Machine/Run.lean ====
section
/-! DEFINITION. How every command runs: its effect on the part, which may look at LOCK, and then what it asked of
LOCK. The queue of waiting commands is not touched. -/

namespace Sys2Proof.Machine

/-- Run a command's effect `f`. -/
def State.run (s : State) (f : LockUnit → Chip → Chip) : Host.Outcome State Fault Refusal :=
  let c := f s.lock s.chip
  let x := drainLock s.lock { c with lockActs := [] } c.lockActs
  .next { s with lock := x.1, chip := x.2 }

/-- Run an effect that does not look at LOCK. -/
def State.runC (s : State) (f : Chip → Chip) : Host.Outcome State Fault Refusal := s.run (fun _ c => f c)

/-- A command leaves an act for LOCK. -/
def Chip.lockAct (c : Chip) (a : LockAct) : Chip := { c with lockActs := c.lockActs ++ [a] }

/-- LOCK is told of reset requesters (R545). Their quarantine lasts until its end is sent (R548). -/
def Chip.lockReset (c : Chip) (t : Nat) (node : Option Nat) (cause : Nat) : Chip :=
  c.lockAct (.reset [(t, node, cause)])

end Sys2Proof.Machine
end

