-- ==== Sys2Proof/Machine/HubCore.lean ====
section
/-! DEFINITION. The HUB's own work: which ports are served, tenant faults and alerts, the retry cache and the ingress
queues, receive rings, outboxes, notices and tenant resets (R567–R634). -/

namespace Sys2Proof.Machine

open Reg

/-! ### Records -/

def Chip.ten (c : Chip) (t : Nat) : TenH := mget {} c.hub.ten t
def Chip.setTen (c : Chip) (t : Nat) (h : TenH) : Chip := { c with hub.ten := mset {} c.hub.ten t h }
def Chip.portH (c : Chip) (q : Nat) : PortH := mget {} c.hub.port q
def Chip.setPortH (c : Chip) (q : Nat) (h : PortH) : Chip := { c with hub.port := mset {} c.hub.port q h }
def Chip.avs (c : Chip) (p : Nat) : AvsH := mget {} c.hub.avs p
def Chip.setAvs (c : Chip) (p : Nat) (h : AvsH) : Chip := { c with hub.avs := mset {} c.hub.avs p h }

/-- The HUB island runs: from the end of S4, outside DORMANT_FAULT and DEEP (R885, R904). -/
def Chip.hubRuns (c : Chip) : Bool :=
  match c.pw.mode with
  | .wake => decide (5 ≤ c.pw.step)
  | .run => true
  | .halt => true
  | .deepRamp => true
  | .deepPersist => true
  | _ => false

/-- Step S8 has ended (R568). -/
def Chip.pastS8 (c : Chip) : Bool :=
  match c.pw.mode with
  | .wake => decide (9 ≤ c.pw.step)
  | .halt => false
  | m => m != .reset

/-- Does port `q` answer its tenant over I3C (`i3c`) or PMBus (R568, R569, R893)? -/
def Chip.portServes (c : Chip) (q : Nat) (i3c : Bool) : Bool :=
  c.hubRuns && (if c.pw.mode = .halt then q == 0 && !i3c
    else if c.pastS8 then c.f (Tenant.PORT (q + 1)) == (if i3c then 2 else 1) else !i3c)

/-- The tenant's rights; in IMAGE_HALT, T1 has TELEM and REG_RD only (R573, R893). -/
def Chip.hasRight (c : Chip) (t b : Nat) : Bool :=
  bit (if c.pw.mode = .halt then (if t = 1 then 33 else 0) else c.f (Tenant.RIGHTS t)) b

/-! ### Causes, alerts, faults -/

/-- A bit is set in both TENFAULT and ALERT_MASK (R612). -/
def Chip.pendingFault (c : Chip) (t : Nat) : Bool :=
  ((c.reg (Tenant.TENFAULT t).addr).toNat &&& c.f (Tenant.ALERT_MASK t) &&& 0xFFF) != 0

/-- A pending cause of T1 or T2 (R612, R621). -/
def Chip.pendingCause (c : Chip) (t : Nat) : Bool :=
  let h := c.ten t
  !h.notices.isEmpty || !h.outbox.isEmpty || h.pendTwin || c.pendingFault t

/-- A new pending cause arises (R612): the PMBus alert asserts, or an I3C in-band interrupt with byte `b` waits. -/
def Chip.newCause (c : Chip) (t b : Nat) : Chip :=
  if t = 1 ∨ t = 2 then
    let h := c.portH (t - 1)
    if c.portServes (t - 1) false then c.setPortH (t - 1) { h with alert := true, answered := false }
    else if c.portServes (t - 1) true && h.ibiEn then c.setPortH (t - 1) { h with ibi := some (h.ibi.getD b) }
    else c
  else c

/-- Set a bit of TENFAULT (R613). -/
def Chip.tenFault (c : Chip) (t b : Nat) : Chip :=
  let x : Fld := ⟨(Tenant.TENFAULT t).addr, b, b⟩
  let new := !c.b x && bit (c.f (Tenant.ALERT_MASK t)) b
  let c := c.hwSet x 1
  if new then c.newCause t 3 else c

/-- Set a bit of STATUS_CML for a tenant's port and page (R579). -/
def Chip.cml (c : Chip) (t page b : Nat) : Chip :=
  if t = 1 ∨ t = 2 then c.setLatched (t - 1) page (c.latched (t - 1) page ||| 2 ^ (8 + b)) else c

/-- A Lattice response other than OK to a command of a tenant (R580). -/
def Chip.latErr (c : Chip) (t page code status : Nat) : Chip :=
  if code = 0x21 && status == stNotOwner then (c.cml t page 6).tenFault t 4
  else ((c.cml t page 1).put ⟨(Tenant.TENFAULT t).addr, 15, 12⟩ status).tenFault t 5

/-- The page of a tenant's port (R577); 0 for a tenant without one. -/
def Chip.pageOf (c : Chip) (t : Nat) : Nat := if t = 1 ∨ t = 2 then c.f (PortQ.PAGE (t - 1)) else 0

/-- What the last transaction of a tenant answered. -/
def Chip.hostOut (c : Chip) (t : Nat) (ack : Bool) (bs : List Byte) : Chip :=
  c.setTen t { c.ten t with ack := ack, out := bs, await := none }

/-! ### The retry cache and the ingress queue -/

/-- The cache entry that a command finds (R593, R596). -/
def TenH.hit (h : TenH) (code page : Nat) (seq : Option Nat) : Option RetryEntry :=
  h.cache.filter (fun e => e.code == code && e.page == page && e.seq == seq && (code != 0xD2 || e.committed))

/-- A command that is no cached one clears the entry (R593). -/
def Chip.dropCache (c : Chip) (t : Nat) : Chip := c.setTen t { c.ten t with cache := none }

/-- A new operation enters the ingress queue, with its cache entry, and sends its first request (R571, R592). -/
def Chip.hostOp (c : Chip) (t : Nat) (op : HostOp) (isRead : Bool) (p : Pkt) (o : Nat → Owner) : Chip :=
  let h := c.ten t
  let id := h.nextId
  let c := c.setTen t { h with ops := h.ops ++ [{ op with id := id }], nextId := id + 1,
                               cache := some { code := op.code, page := op.page, seq := op.seq },
                               ack := true, out := [], await := if isRead then some id else none }
  c.request 0 p (o (8 * id + t))

/-- A VC2 request of the HUB for tenant `t` (R567, R571). -/
def Chip.hubPkt (c : Chip) (t typ dst off : Nat) (ws : List Word) (len : Nat) : Pkt :=
  { hdr := { vc := 2, typ := typ, src := 0, dst := dst, tenant := t, prio := c.f (Tenant.PRIO t), offset := off, len := len, be := 15 },
    words := ws }

/-- An operation leaves the queue with its outcome (R571, R592, R597): its cache entry, the read that waits for it. -/
def Chip.finishOp (c : Chip) (t : Nat) (op : HostOp) (status : Nat) (bs : List Byte) : Chip :=
  let h := c.ten t
  let mine : Bool := match h.cache with
    | some e => e.code == op.code && e.page == op.page && e.seq == op.seq && !e.done
    | none => false
  let h : TenH := { h with ops := h.ops.filter (fun o => o.id != op.id)
                           cache := if mine then h.cache.map (fun e => { e with done := true, status := status, bytes := bs }) else h.cache }
  let h := if h.await == some op.id then { h with ack := true, out := bs, await := none } else h
  c.setTen t h

/-- Bytes of a forwarding slot: their count, PENDING, and the bytes from word 1 on (R621). -/
def Chip.fillSlot (c : Chip) (t : Nat) (bs : List Byte) : Chip :=
  let pend := (c.ten t).outbox.isEmpty
  let w0 := BitVec.ofNat 32 (bs.length % 256 + b2n (!pend) * 256)
  let c := { c with hub.slot := mset 0 c.hub.slot (16 * t) w0 }
  forN 15 (fun i c => { c with hub.slot := mset 0 c.hub.slot (16 * t + 1 + i) (BitVec.ofNat 32 (ofBytes ((bs.drop (4 * i)).take 4))) }) c

/-- A forwarded command is complete: its slot is filled and the WRRSP of the last WR sent (R621). -/
def Chip.fwdDone (c : Chip) (t : Nat) (fwd : Option Hdr) (status : Nat) (bs : List Byte) : Chip :=
  match fwd with
  | none => c
  | some h => (c.fillSlot t bs).respond 0 { hdr := rspHdr h 7 status }

/-- Bytes that a command's Lattice outcome returns (R589, R590). `seq` is the SEQ byte. -/
def opBytes (code : Nat) (seq : Option Nat) (status : Nat) (vals : List Nat) : List Byte :=
  let w := vals.headD 0
  match code with
  | 0xD0 => (BitVec.ofNat 8 (seq.getD 0)) :: BitVec.ofNat 8 status ::
      (if status = stOk then [BitVec.ofNat 8 (w / 2 ^ 8), BitVec.ofNat 8 (w / 2 ^ 16 % 16), BitVec.ofNat 8 (w / 2 ^ 24)] else [0, 0, 0])
  | 0xD4 => BitVec.ofNat 8 status :: toBytes 6 (if status = stOk then w else 0)
  | 0xD5 => BitVec.ofNat 8 status :: toBytes 4 (if status = stOk then w else 0)
  | _ => []

/-- The 48-bit value that the reads HI, LO, HI (and LO) of R749 give; none while a further read is needed. -/
def cntValue : List Nat → Option Nat
  | [h1, l1, h2] => if h1 = h2 then some (l1 + h1 % 2 ^ 16 * 2 ^ 32) else none
  | [_, _, h2, l2] => some (l2 + h2 % 2 ^ 16 * 2 ^ 32)
  | _ => none

/-- An operation of a tenant's queue changes. -/
def Chip.setOp (c : Chip) (t : Nat) (op : HostOp) : Chip :=
  let h := c.ten t
  c.setTen t { h with ops := h.ops.map (fun o => if o.id = op.id then op else o) }

/-- A response reaches operation `id` of tenant `t`, which leaves the queue with the last of its responses (R571, R580, R749). -/
def Chip.opAnswer (c : Chip) (t id status : Nat) (ws : List Word) : Chip :=
  match (c.ten t).ops.find? (fun o => o.id == id) with
  | none => c
  | some op =>
    let st := if op.status = stOk then status else op.status
    let c := if status = stOk then c else c.latErr t op.page op.code status
    let done (c : Chip) (vals : List Nat) : Chip :=
      let bs := opBytes op.code op.seq st vals
      (c.finishOp t op st bs).fwdDone t op.fwd st bs
    if 1 < op.left then c.setOp t { op with left := op.left - 1, status := st }
    else if st ≠ stOk then done c []
    else if op.code = 0xD4 then
      let vals := op.vals ++ [wordAt ws 0]
      match cntValue vals with
      | some v => done c [v]
      | none =>
        let c := c.setOp t { op with vals := vals }
        let a := if vals.length % 2 = 0 then op.addr + 4 else op.addr
        c.request 0 (c.hubPkt t 1 (a / 2 ^ 25) (a % 2 ^ 25) [] 0) (.host (8 * id + t))
    else done c (ws.map BitVec.toNat)

/-- A response reaches a command that a Shadow has forwarded (R620, R621): after the last WRRSP, bytes that the
command returns are read from the twin's slot. -/
def Chip.fwdAnswer (c : Chip) (t id status : Nat) (ws : List Word) : Chip :=
  match (c.ten t).ops.find? (fun o => o.id == id) with
  | none => c
  | some op =>
    let st := if op.status = stOk then status else op.status
    if op.slotRd then
      let n := wordAt ws 0
      let bs := (toBytes 60 (ofWords (ws.drop 1))).take (n % 256)
      let c := if st = stOk then c else c.latErr t op.page op.code st
      let was := (c.ten t).pendTwin
      let pend := if st = stOk then bit n 8 && !(op.code == 0xD3 && bs.isEmpty) else was
      let c := c.finishOp t op st bs
      let c := c.setTen t { c.ten t with pendTwin := pend }
      if pend && !was then c.newCause t 2 else c
    else if 1 < op.left then c.setOp t { op with left := op.left - 1, status := st }
    else if st = stOk && op.reads then
      let c := c.setOp t { op with slotRd := true }
      c.request 0 (c.hubPkt t 1 64 (0x1000800 + 0x40 * t) [] 15) (.fwd (8 * id + t))
    else
      let c := if st = stOk then c else c.latErr t op.page op.code st
      c.finishOp t op st []

/-- One answer that the HUB's NI holds for the HUB's own logic. -/
def Chip.hubAnswer (c : Chip) (a : Owner × Nat × List Word) : Chip :=
  match a.1 with
  | .host k => c.opAnswer (k % 8) (k / 8) a.2.1 a.2.2
  | .fwd k => c.fwdAnswer (k % 8) (k / 8) a.2.1 a.2.2
  | _ => c

/-- The HUB takes up the answers that have reached it; an answer at once to a further request is taken up too. -/
def Chip.hubTake : Nat → Chip → Chip
  | 0, c => c
  | k + 1, c =>
    match (c.ni 0).ans with
    | [] => c
    | a :: as => Chip.hubTake k (({ c with lat.ni := (c.setNi 0 { c.ni 0 with ans := as }).lat.ni } : Chip).hubAnswer a)

@[inherit_doc Chip.hubTake] def Chip.hubTakeAll (c : Chip) : Chip := Chip.hubTake ((c.ni 0).ans.length + 8) c

/-! ### Receive rings -/

/-- NBUF within its range (R600, R983). -/
def Chip.nbuf (c : Chip) (t : Nat) : Nat := clampN 8 128 (c.f (Tenant.NBUF t))

/-- Buffers of a ring that are free (R602); none while EN is clear. -/
def Chip.ringFree (c : Chip) (t : Nat) : Nat :=
  if c.b (Tenant.EN t) then c.nbuf t - (c.f (Tenant.HEAD t) + 256 - c.f (Tenant.TAIL t)) % 256 else 0

/-- Write a buffer of ring `ring`: `i` buffers beyond HEAD, its frame bytes, FIRST and LAST (R601, R604). -/
def Chip.ringBuf (c : Chip) (ring i tenant seq : Nat) (first last : Bool) (bs : List Byte) : Chip :=
  let a := nodeBase 17 + c.f (Tenant.RBASE ring) / 64 * 64 + 64 * ((c.f (Tenant.HEAD ring) + i) % 256 % c.nbuf ring)
  let w := bs.length + b2n first * 2 ^ 8 + b2n last * 2 ^ 9 + seq % 256 * 2 ^ 16 + tenant * 2 ^ 24
  (c.storeBytes a (toBytes 4 w)).storeBytes (a + 4) bs

/-- The buffers of a frame: up to `k` of them, `i` already written. -/
def Chip.ringBufs : Nat → Chip → Nat → Nat → Nat → Nat → List Byte → Chip
  | 0, c, _, _, _, _, _ => c
  | k + 1, c, ring, i, tenant, seq, bs =>
    let c := c.ringBuf ring i tenant seq (i == 0) (decide (bs.length ≤ 60)) (bs.take 60)
    if bs.length ≤ 60 then c else Chip.ringBufs k c ring (i + 1) tenant seq (bs.drop 60)

/-- Buffers of a frame of `b` body bytes (R601). -/
def frameBufs (b : Nat) : Nat := max 1 ((b + 59) / 60)

/-- A frame is dropped and its buffers reclaimed (R605). -/
def Chip.frameDrop (c : Chip) (t : Nat) : Chip := c.inc (Tenant.DROP_FRAMES t)

/-- The tenant's transaction ends before its frame is complete: the frame that was being filled is dropped (R605). -/
def Chip.fillDrop (c : Chip) (t : Nat) : Chip :=
  let h := c.ten t
  if h.filling then (c.setTen t { h with filling := false }).frameDrop t else c

/-- What a tenant's block shows before it loses something in this beat. -/
def Chip.losing (c : Chip) (t : Nat) : Lost :=
  { beat := c.clock, fault := c.reg (Tenant.TENFAULT t).addr, count := c.reg (Tenant.DROP_FRAMES t).addr }

/-- A loss is taken back in its own beat: the bits `m` of TENFAULT and the word of counts are as they were. -/
def Chip.regain (c : Chip) (t m : Nat) (l : Lost) : Chip :=
  let f := (c.reg (Tenant.TENFAULT t).addr).toNat
  let f := f - (f &&& m) + (l.fault.toNat &&& m)
  let c := ((c.setReg (Tenant.TENFAULT t).addr (BitVec.ofNat 32 f)).setReg (Tenant.DROP_FRAMES t).addr l.count).setTen t { c.ten t with lost := none }
  if (t = 1 ∨ t = 2) && !c.pendingCause t then c.setPortH (t - 1) { c.portH (t - 1) with alert := false, ibi := none } else c

/-- The bytes of a frame arrive for ring `ring` (R604, R605): answers whether the frame found its buffers. The
sender's tenant stands in the buffer headers. -/
def Chip.frameFill (c : Chip) (ring tenant seq : Nat) (body : List Byte) : Bool × Chip :=
  let need := frameBufs body.length
  let free := c.ringFree ring
  if need ≤ free then (true, c.ringBufs need ring 0 tenant seq body)
  else (false, ((c.ringBufs free ring 0 tenant seq body).frameDrop ring).tenFault ring 6)

/-- Buffers that the HUB has published in ring `t` in this beat (R626). -/
def Chip.published (c : Chip) (t : Nat) : Nat := if (c.ten t).pub.1 = c.clock then (c.ten t).pub.2 else 0

/-- The frame's commit (R604). -/
def Chip.frameCommit (c : Chip) (ring : Nat) (n : Nat) : Chip :=
  (c.setTen ring { c.ten ring with pub := (c.clock, c.published ring + n) }).put (Tenant.HEAD ring) (c.f (Tenant.HEAD ring) + n)

/-- Firmware writes TAIL (R603): a frame published in the same beat comes after (R626). -/
def Chip.ringTail (c : Chip) (t v : Nat) : Chip :=
  if c.nbuf t < (c.f (Tenant.HEAD t) + 512 - c.published t - v % 256) % 256 then c.tenFault t 7 else c.put (Tenant.TAIL t) v

/-! ### Answers -/

/-- A command ends: on this part's port, or in the twin's forwarding slot. -/
def Chip.reply (c : Chip) (t : Nat) (fwd : Option Hdr) (status : Nat) (bs : List Byte) : Chip :=
  match fwd with
  | none => c.hostOut t true bs
  | some _ => c.fwdDone t fwd status bs

/-- A command is refused. -/
def Chip.refuse (c : Chip) (t : Nat) (fwd : Option Hdr) (status : Nat) : Chip :=
  match fwd with
  | none => c.hostOut t false []
  | some _ => c.fwdDone t fwd status []

/-- A host's SMBus byte that the device cannot NACK on I3C is discarded (R584). -/
def Chip.i3cDiscard (c : Chip) (t : Nat) (i3c : Bool) : Chip := if i3c then c.tenFault t 3 else c

/-- MFR_MSG_SEND (R596, R604, R605, R621): the frame goes into ring `ring`; `good` says that its PEC lets it be committed. -/
def Chip.msgSend (c : Chip) (t page ring : Nat) (bytes : List Byte) (fwd : Option Hdr) (i3c good : Bool) : Chip :=
  let seq := (bytes.headD 0).toNat
  let x := c.frameFill ring t seq (bytes.drop 1)
  if !x.1 then
    let d := (x.2.i3cDiscard t i3c).refuse t fwd stBusy
    if fwd.isSome then d else d.setTen t { d.ten t with lost := some { c.losing t with frame := some (page, bytes, i3c) } }
  else if !good then (x.2.frameDrop ring).refuse t fwd stOk
  else
    let c := x.2.frameCommit ring (frameBufs (bytes.length - 1))
    (c.setTen t { c.ten t with cache := some { code := 0xD2, page := page, seq := some seq, done := true, committed := true } }).reply t fwd stOk []

/-- Firmware's write of TAIL, as B1's HUB node takes it: a frame that found no buffer in this beat takes one that TAIL has freed (R603, R627). -/
def Chip.tailWrite (c : Chip) (t v : Nat) : Chip :=
  let c := c.ringTail t v
  match (c.ten t).lost with
  | some l =>
    match l.frame with
    | some (page, bytes, i3c) =>
      if l.beat = c.clock && decide (frameBufs (bytes.length - 1) ≤ c.ringFree t) then (c.regain t 0x48 l).msgSend t page t bytes none i3c true
      else c
    | none => c
  | none => c

/-! ### Messages and notices -/

/-- Take the oldest VC3 packet of node `n` if it has type `typ`. -/
def Chip.take3 (c : Chip) (n typ : Nat) : Option (Pkt × Chip) :=
  match (c.ni n).in3 with
  | [] => none
  | p :: ps => if p.hdr.typ = typ then some (p, c.setNi n { c.ni n with in3 := ps }) else none

/-- A MSG packet at the HUB (R608). -/
def Chip.msgOutbox (c : Chip) : Chip :=
  match c.take3 0 5 with
  | none => c
  | some (p, c) =>
    let t := p.hdr.offset % 8
    let h := c.ten t
    if t = 0 || (decide (3 ≤ t) && decide (t ≤ 6)) || decide (4 ≤ h.outbox.length) then c.dropErr 0 p.hdr p.hdr.src
    else
      (c.setTen t { h with outbox := h.outbox ++ [p.words] }).newCause t 2

/-- MFR_NOTICE_READ takes the oldest notice; one that found the queue full in the same beat joins it (R630). -/
def Chip.noticeTaken (c : Chip) (t : Nat) : Chip :=
  let h := c.ten t
  let c := c.setTen t { h with notices := h.notices.drop 1 }
  match h.lost with
  | some l =>
    match l.notice with
    | some w =>
      if l.beat = c.clock then
        let c := c.regain t 0x100 l
        c.setTen t { c.ten t with notices := (c.ten t).notices ++ [w] }
      else c
    | none => c
  | none => c

/-- A lock notice at the HUB (R611). -/
def Chip.hubNotice (c : Chip) : Chip :=
  match c.take3 0 9 with
  | none => c
  | some (p, c) =>
    let t := p.hdr.tenant
    let h := c.ten t
    if t = 1 ∨ t = 2 then
      let w := ((p.words[0]?).getD 0, (p.words[1]?).getD 0)
      if 16 ≤ h.notices.length then
        let l := { c.losing t with notice := some w }
        ((c.inc (Tenant.NOTICE_LOST t)).tenFault t 8).setTen t { h with lost := some l }
      else (c.setTen t { h with notices := h.notices ++ [w] }).newCause t 1
    else c.dropErr 0 p.hdr p.hdr.src

/-- Base of the DMEM of P tile `p` in the address space. -/
def pDmem (p : Nat) : Nat := nodeBase (natAt pNodes p) + 0x100000

/-- A MSG packet at a P tile (R609). -/
def Chip.msgInbox (c : Chip) (p : Nat) : Chip :=
  let n := natAt pNodes p
  match c.take3 n 5 with
  | none => c
  | some (k, c) =>
    let hd := c.f (Inbox.HEAD n)
    if (hd + 256 - c.f (Inbox.TAIL n)) % 256 = 8 then c.dropErr n k.hdr k.hdr.src
    else
      ((c.settled (24 + p)).storeBytes (pDmem p + (131072 - 640) + 64 * (hd % 8)) (toBytes (4 * k.words.length) (ofWords k.words))).put (Inbox.HEAD n) (hd + 1)

/-- A GRANT packet at a P tile: the lock mailbox, and line 4 for an INHERIT, line 3 for any other kind (R532, R533). -/
def Chip.noticeDeliver (c : Chip) (p : Nat) : Chip :=
  let n := natAt pNodes p
  match c.take3 n 9 with
  | none => c
  | some (k, c) =>
    let w0 := wordAt k.words 0
    let w1 := wordAt k.words 1
    let c := (c.settled (24 + p)).storeBytes (pDmem p + (131072 - 128) + 8 * (w1 % 65536 % 8)) (toBytes 8 (w0 + w1 * 2 ^ 32))
    let line := if bits w0 9 8 = 1 then 4 else 3
    c.raiseLine (24 + p) (2 ^ line)

/-! ### Tenant resets -/

/-- A tenant reset begins (R615–R618, R545): the tenant's work at the HUB ends, the fields without T that belong to
the tenant return to reset, and LOCK is told. -/
def Chip.tenantReset (c : Chip) (t : Nat) : Chip :=
  let x := c.ni 0
  let mine (o : Owner) : Bool := match o with | .host k => k % 8 == t | .fwd k => k % 8 == t | _ => false
  let c := c.setNi 0 { x with asks := x.asks.filter (fun a => !mine a.owner), ans := x.ans.filter (fun a => !mine a.1) }
  let c := forN 64 (fun k c =>
    let g := c.tag 0 k
    if g.busy && mine g.owner then c.setTag 0 k { gen := (g.gen + 1) % 4, held := g.held ++ [g.gen] } else c) c
  let h := c.ten t
  let c := forL h.ops (fun o c => c.fwdDone t o.fwd stBusy []) c
  let c := c.setTen t { nextId := h.nextId, ack := if h.await.isSome || h.filling then false else h.ack }
  let c := if t = 1 ∨ t = 2 then c.setPortH (t - 1) { c.portH (t - 1) with alert := false, answered := false, ibi := none } else c
  let c := if 3 ≤ t && t ≤ 6 then (c.setAvs (2 * (t - 3)) {}).setAvs (2 * (t - 3) + 1) {} else c
  let hb := Tenant.base 0
  let c := c.resetRegs svT (fun a =>
    (decide (Tenant.base t ≤ a) && decide (a < Tenant.base t + 0x40)) ||
    ((t == 1 || t == 2) && decide (PortQ.base (t - 1) ≤ a) && decide (a < PortQ.base (t - 1) + 0x10)) ||
    (decide (3 ≤ t) && decide (t ≤ 6) && decide (Avs.base (2 * (t - 3)) ≤ a) && decide (a < Avs.base (2 * (t - 3)) + 0x20)) ||
    (decide (hb ≤ a) && a == (Ni.SIEVEt_TOKENS 0 t).addr))
  let c := c.putB (Tenant.RESETTING t) true
  let c := if h.filling then c.frameDrop t else c
  (c.lockReset t none 0).skbAdd 830 1

/-- RESETTING ends (R617). -/
def Chip.tenantResetEnd (c : Chip) (t : Nat) : Chip :=
  if c.b (Tenant.RESETTING t) then (c.putB (Tenant.RESETTING t) false).tenFault t 9 else c

end Sys2Proof.Machine
end

