-- ==== Sys2Proof/Machine/Crypto.lean ====
section
/-! DEFINITION. SHA-384 (FIPS 180-4) and the verification of an ECDSA signature on P-384 (FIPS 186-5, SEC 1), as R820 uses
them. -/

namespace Sys2Proof.Machine

/-! ### SHA-384 -/

/-- The greatest `r + (a number below 2 ^ k)` whose `e`-th power is at most `x`, found from the top bit down. -/
def rootFrom (e x : Nat) : Nat → Nat → Nat
  | 0, r => r
  | k + 1, r => rootFrom e x k (if (r + 2 ^ k) ^ e ≤ x then r + 2 ^ k else r)

/-- The first 64 bits of the fractional part of the `e`-th root of `p`: how FIPS 180-4 defines its constants. -/
def rootBits (e p : Nat) : Nat := rootFrom e (p * 2 ^ (64 * e)) 69 0 % 2 ^ 64

/-- The primes below 410, the first 80, rising: the multiples of each prime found are struck out. -/
def shaPrimes : List Nat :=
  ((List.range 408).foldl (fun (found : List Nat) i => if found.all (fun q => (i + 2) % q ≠ 0) then (i + 2) :: found else found) []).reverse

/-- A 64-bit word. -/
abbrev W64 := BitVec 64

/-- The constant of round `t`: from the cube root of the prime number `t`. -/
def shaConst (t : Nat) : W64 := BitVec.ofNat 64 (rootBits 3 (shaPrimes.getD t 2))

/-- The eight chaining words, or the eight working words of a round. -/
structure ShaState where
  a : W64
  b : W64
  c : W64
  d : W64
  e : W64
  f : W64
  g : W64
  h : W64
  deriving DecidableEq, Repr

/-- Before the first block of SHA-384: from the square roots of the ninth to the sixteenth prime. -/
def shaStart : ShaState :=
  let w (i : Nat) : W64 := BitVec.ofNat 64 (rootBits 2 (shaPrimes.getD (8 + i) 2))
  { a := w 0, b := w 1, c := w 2, d := w 3, e := w 4, f := w 5, g := w 6, h := w 7 }

/-- Exclusive or of a word rotated right by `i` and by `j`. -/
def rotPair (x : W64) (i j : Nat) : W64 := x.rotateRight i ^^^ x.rotateRight j

/-- The state after one block's rounds is added to the state before them. -/
def ShaState.add (x y : ShaState) : ShaState :=
  { a := x.a + y.a, b := x.b + y.b, c := x.c + y.c, d := x.d + y.d, e := x.e + y.e, f := x.f + y.f, g := x.g + y.g, h := x.h + y.h }

/-- One round, with the sum `k` of its constant and its message word. -/
def ShaState.round (s : ShaState) (k : W64) : ShaState :=
  let mix := s.h + k + (rotPair s.e 14 18 ^^^ s.e.rotateRight 41) + (s.g ^^^ (s.e &&& (s.f ^^^ s.g)))
  let most := (s.a &&& (s.b ||| s.c)) ||| (s.b &&& s.c)
  { s with a := mix + (rotPair s.a 28 34 ^^^ s.a.rotateRight 39) + most, b := s.a, c := s.b, d := s.c, e := s.d + mix, f := s.e, g := s.f, h := s.g }

/-- The window of sixteen message words, oldest first, moves on by one word. -/
def shaSlide (w : List W64) : List W64 :=
  let old := w.getD 1 0
  let young := w.getD 14 0
  w.drop 1 ++ [w.getD 0 0 + (rotPair old 1 8 ^^^ (old >>> 7)) + w.getD 9 0 + (rotPair young 19 61 ^^^ (young >>> 6))]

/-- The rounds from number `t` on, `n` of them, each on the oldest word of the window. -/
def shaRounds : Nat → Nat → List W64 → ShaState → ShaState
  | 0, _, _, s => s
  | n + 1, t, w, s => shaRounds n (t + 1) (shaSlide w) (s.round (shaConst t + w.getD 0 0))

/-- Big-endian value of bytes. -/
def beNat (bs : List Byte) : Nat := bs.foldl (fun a b => 256 * a + b.toNat) 0

/-- One block of 128 bytes. -/
def ShaState.block (s : ShaState) (bs : List Byte) : ShaState :=
  s.add (shaRounds 80 0 ((List.range 16).map (fun i => BitVec.ofNat 64 (beNat ((bs.drop (8 * i)).take 8)))) s)

/-- The SHA-384 digest of a message, as a big-endian number: a bit 1, zeros and the length in 128 bits fill the last block. -/
def sha384 (bs : List Byte) : Nat :=
  let tail := List.replicate (127 - (bs.length + 16) % 128) 0#8 ++ (toBytes 16 (8 * bs.length)).reverse
  let msg := bs ++ 0x80#8 :: tail
  let s := forN (msg.length / 128) (fun i s => s.block ((msg.drop (128 * i)).take 128)) shaStart
  [s.a, s.b, s.c, s.d, s.e, s.f].foldl (fun n w => n * 2 ^ 64 + w.toNat) 0

/-! ### P-384 -/

/-- The field prime, the order of the group, the coefficient b and the base point. -/
def p384P : Nat := 2 ^ 384 - 2 ^ 128 - 2 ^ 96 + 2 ^ 32 - 1
@[inherit_doc p384P] def p384N : Nat :=
  0xffffffffffffffffffffffffffffffffffffffffffffffffc7634d81f4372ddf581a0db248b0a77aecec196accc52973
@[inherit_doc p384P] def p384B : Nat :=
  0xb3312fa7e23ee7e4988e056be3f82d19181d9c6efe8141120314088f5013875ac656398d8a2ed19d2a85c8edd3ec2aef
@[inherit_doc p384P] def p384G : Nat × Nat :=
  (0xaa87ca22be8b05378eb1c71ef320ad746e1d3b628ba79b9859f741e082542a385502f25dbf55296c3a545e3872760ab7,
   0x3617de4a96262c6f5d9e98bf9292dc29f8f41dbd289a147ce9da3113b5f0b8c00a60b1ce1d7e819d7a431d7c90ea0e5f)

/-- `b` ^ `e` mod `m`, over the low `k` bits of `e`. -/
def powMod (m : Nat) : Nat → Nat → Nat → Nat
  | 0, _, _ => 1 % m
  | k + 1, b, e => (powMod m k (b * b % m) (e / 2)) * (if e % 2 = 1 then b else 1) % m

/-- Inverse modulo a prime. -/
def invMod (m a : Nat) : Nat := powMod m 384 (a % m) (m - 2)

/-- `a − b` modulo `m`. -/
def subMod (m a b : Nat) : Nat := (a + (m - b % m)) % m

/-- Sum of two points of the curve; none is the point at infinity. -/
def ecAdd : Option (Nat × Nat) → Option (Nat × Nat) → Option (Nat × Nat)
  | none, q => q
  | p, none => p
  | some (x1, y1), some (x2, y2) =>
    let m := p384P
    if x1 = x2 ∧ (y1 + y2) % m = 0 then none
    else
      let s := if x1 = x2 then (subMod m (3 * x1 * x1) 3) * invMod m (2 * y1) % m
               else subMod m y2 y1 * invMod m (subMod m x2 x1) % m
      let x := subMod m (s * s) (x1 + x2)
      some (x, subMod m (s * subMod m x1 x) y1)

/-- `e` times a point, over the low `k` bits of `e`. -/
def ecMul : Nat → Nat → Option (Nat × Nat) → Option (Nat × Nat)
  | 0, _, _ => none
  | k + 1, e, p => ecAdd (if e % 2 = 1 then p else none) (ecMul k (e / 2) (ecAdd p p))

/-- A point of the curve. -/
def onCurve (x y : Nat) : Bool :=
  decide (x < p384P) && decide (y < p384P) && (y * y) % p384P == subMod p384P (x * x * x + p384B) (3 * x)

/-- Verification of an ECDSA signature (r, s) of a digest `e` under the public key (x, y). -/
def ecdsaVerify (e x y r s : Nat) : Bool :=
  let n := p384N
  onCurve x y && decide (0 < r) && decide (r < n) && decide (0 < s) && decide (s < n) &&
    (let w := invMod n s
     match ecAdd (ecMul 384 (e * w % n) (some p384G)) (ecMul 384 (r * w % n) (some (x, y))) with
     | none => false
     | some (v, _) => v % n == r)

end Sys2Proof.Machine
end

