-- ==== Sys2Proof/Machine/Image.lean ====
section
/-! DEFINITION. Reading a Xozha image: its header, section table, records, schedules and epoch lists, where the
register blocks stand, and the image checks (R813–R821, R963, R972). -/

namespace Sys2Proof.Machine

/-! ### Register blocks by offset -/

/-- A register block of a node (R972 **Register blocks**), with its number where it repeats. -/
inductive Blk where
  | tenant (t : Nat) | avs (p : Nat) | port (q : Nat) | fslot (t : Nat)
  | tile | dq | phase (p : Nat) | sense (p : Nat)
  | rail (r : Nat) | board | tmon (t : Nat) | lsw (n : Nat) | sw | mirror (n : Nat)
  | gport (g : Nat) | garr | gcfg | dip
  | lgrp (g : Nat) | lunit | lst (n : Nat)
  | seq | ident | img | plane | power | skb | nvc | dqx (e : Nat) | trc (k : Nat) | ni
  deriving DecidableEq, Repr

/-- One extent of a node: base, bytes, stride of its repetition, and the block. -/
structure Extent where
  base : Nat
  size : Nat
  stride : Nat
  blk : Nat → Blk

/-- The extents of a node's register space but for its NI block. -/
def extents (n : Nat) : List Extent :=
  if n = 0 then [⟨0x1000000, 0x200, 0x40, .tenant⟩, ⟨0x1000400, 0x80, 0x10, .avs⟩, ⟨0x1000600, 0x20, 0x10, .port⟩,
    ⟨0x1000800, 0x200, 0x40, .fslot⟩]
  else if eNodes.contains n then [⟨0x1000000, 0x80, 0x80, fun _ => .tile⟩, ⟨0x1000800, 0x10, 0x10, fun _ => .dq⟩]
  else if pNodes.contains n then [⟨0x1000000, 0x80, 0x80, fun _ => .tile⟩]
  else if wNodes.contains n then [⟨0x1000000, 0x100, 0x10, fun k => .phase (16 * wNodes.idxOf n + k)⟩]
  else if n = 16 then [⟨0x1001000, 0x180, 8, .sense⟩]
  else if n = 18 then [⟨0x1000000, 0x400, 0x40, .rail⟩, ⟨0x1000400, 0x40, 0x40, fun _ => .board⟩, ⟨0x1000800, 0x200, 0x10, .tmon⟩,
    ⟨0x1001000, 0x180, 8, fun k => .sense (48 + k)⟩, ⟨0x1002000, 0x200, 0x20, .lsw⟩, ⟨0x1002400, 0x80, 0x80, fun _ => .sw⟩,
    ⟨0x1002480, 0x40, 4, .mirror⟩]
  else if gNodes.contains n then ⟨0x1000000, 0x100, 0x100, fun _ => .gport (gNodes.idxOf n)⟩ ::
    (if n = 10 then [⟨0x1000400, 0x580, 0x580, fun _ => .garr⟩, ⟨0x1001000, 0x200, 0x200, fun _ => .gcfg⟩] else [])
  else if n = 6 then [⟨0x1000000, 0x40, 0x40, fun _ => .dip⟩]
  else if n = 24 then [⟨0x1000000, 0x100, 0x10, .lgrp⟩, ⟨0x1000800, 0x10, 0x10, fun _ => .lunit⟩, ⟨0x1001000, 0x800, 8, .lst⟩]
  else if n = 30 then [⟨0x1000000, 0x600, 0x600, fun _ => .seq⟩]
  else if n = 31 then [⟨0x1000000, 0x10, 0x10, fun _ => .ident⟩, ⟨0x1001000, 0x50, 0x50, fun _ => .img⟩,
    ⟨0x1002000, 0x80, 0x80, fun _ => .plane⟩, ⟨0x1003000, 0x40, 0x40, fun _ => .power⟩]
  else if n = 32 then [⟨0x1000000, 0x3400, 0x3400, fun _ => .skb⟩]
  else if n = 42 then [⟨0x1000000, 0x200, 0x200, fun _ => .nvc⟩]
  else if n = 48 then [⟨0x1000000, 0x180, 0x10, .dqx⟩, ⟨0x1001000, 0x100, 0x20, .trc⟩]
  else []

/-- The block that holds a register offset of node `n`, and the offset inside the block (R963). -/
def blkOf (n off : Nat) : Option (Blk × Nat) :=
  if 0x1F00000 ≤ off && off < 0x1F00800 then some (.ni, off - 0x1F00000)
  else ((extents n).find? (fun e => decide (e.base ≤ off) && decide (off < e.base + e.size))).map
    (fun e => (e.blk ((off - e.base) / e.stride), (off - e.base) % e.stride))

/-! ### Header and sections -/

/-- `n` bytes of the image from an offset, little-endian (R7). -/
def imgAt (b : List Byte) (off n : Nat) : Nat := ofBytes ((b.drop off).take n)

/-- CRC-32 of `n` bytes of the image. -/
def imgCrc (b : List Byte) (off n : Nat) : Nat := crc32 (((b.drop off).take n).map BitVec.toNat)

/-- A section entry (R814). -/
structure Sec where
  typ : Nat := 0
  idx : Nat := 0
  off : Nat := 0
  len : Nat := 0
  crc : Nat := 0
  deriving DecidableEq, Repr

/-- The section table. -/
def imgSecs (b : List Byte) : List Sec :=
  (List.range (imgAt b 24 2)).map (fun i =>
    let a := 64 + 16 * i
    { typ := imgAt b a 2, idx := imgAt b (a + 2) 2, off := imgAt b (a + 4) 4, len := imgAt b (a + 8) 4, crc := imgAt b (a + 12) 4 })

/-- The section of a type and index. -/
def imgSec (b : List Byte) (typ idx : Nat) : Option Sec := (imgSecs b).find? (fun s => s.typ == typ && s.idx == idx)

/-- Section-table index of the first section of a type and index; 0 where there is none. -/
def secNo (b : List Byte) (typ idx : Nat) : Nat :=
  let i := (imgSecs b).findIdx (fun s => s.typ == typ && s.idx == idx)
  if i < (imgSecs b).length then i else 0

/-- The image holds schedule `n` (R347, check 6). -/
def schedHeld (b : List Byte) (n : Nat) : Bool := (imgSec b 2 n).isSome

/-- TYPE and INDEX are legal (R814). -/
def Sec.legal (s : Sec) : Bool :=
  match s.typ with
  | 1 => decide (s.idx < 4) || s.idx == 8
  | 2 => decide (s.idx < 4)
  | 8 => decide (s.idx < 4)
  | t => decide (3 ≤ t) && decide (t ≤ 9) && s.idx == 0

/-- Check 5 (TABLE): the first section that breaks it; no section (`some none`) for the table itself. -/
def tableBad (b : List Byte) : Option (Option Nat) :=
  let n := imgAt b 24 2
  let ss := imgSecs b
  if n < 7 || 40 < n || imgAt b 28 4 ≠ 64 || imgAt b (64 + 16 * n) 4 ≠ imgCrc b 64 (16 * n) then some none
  else
    let bad (i : Nat) (s : Sec) : Bool :=
      !s.legal || s.off % 64 != 0 || decide (s.off < 64 + 16 * n + 4) || decide (imgAt b 8 4 < s.off + s.len)
        || ss.zipIdx.any (fun p => p.2 != i && decide (max s.off p.1.off < min (s.off + s.len) (p.1.off + p.1.len)))
    (ss.zipIdx.find? (fun p => bad p.2 p.1)).map (fun p => some p.2)

/-- Check 6 (SET): the first section that breaks it; no section (`some none`) where one is missing. A repeated INDEX names its second
section, an unpaired SCHED or RELOC itself, a misplaced end SIG. -/
def setBad (b : List Byte) : Option (Option Nat) :=
  let ss := imgSecs b
  let same (s t : Sec) : Bool := t.typ == s.typ && t.idx == s.idx
  if !(([3, 4, 5, 6, 7, 9] : List Nat).all (fun t => (imgSec b t 0).isSome)) || !schedHeld b 0 then some none
  else
    let bad (i : Nat) (s : Sec) : Bool :=
      (ss.take i).any (same s) || (s.typ == 2 && (imgSec b 8 s.idx).isNone) || (s.typ == 8 && !schedHeld b s.idx)
        || (s.typ == 9 && s.off + s.len != imgAt b 8 4)
    (ss.zipIdx.find? (fun p => bad p.2 p.1)).map (fun p => some p.2)

/-! ### Records -/

/-- The register records of a section: address, mask, value (R815). -/
def regRecs (b : List Byte) (s : Sec) : List (Nat × Nat × Nat) :=
  (List.range (s.len / 12)).map (fun i => (imgAt b (s.off + 12 * i) 4, imgAt b (s.off + 12 * i + 4) 4, imgAt b (s.off + 12 * i + 8) 4))

/-- The route records: node, entry, ROUTE[31:0], the word of +0x104 + 8e (R816). -/
def routeRecs (b : List Byte) (s : Sec) : List (Nat × Nat × Nat × Nat) :=
  (List.range (s.len / 12)).map (fun i =>
    let a := s.off + 12 * i
    (imgAt b a 1, imgAt b (a + 1) 1, imgAt b (a + 4) 4, imgAt b (a + 8) 4))

/-- May a section of a type address a register (R815 **Section targets**, check 12)? -/
def targetOk (typ a : Nat) : Bool :=
  let n := a / 0x2000000
  let off := a % 0x2000000
  a % 4 == 0 && decide (n ≤ 48) && match blkOf n off with
    | none => false
    | some (k, o) =>
      match typ with
      | 4 =>
        n == 16 || wNodes.contains n || (match k with
          | .gport _ => true | .garr => true
          | .lsw _ => false | .sw => false | .mirror _ => false
          | _ => n == 18)
      | 5 => match k with | .lsw _ => true | .sw => true | _ => false
      | 6 => match k with | .lgrp _ => true | .lunit => true | _ => false
      | 7 => match k with
        | .ni => decide (o < 0x100) || (decide (0x300 ≤ o) && decide (o < 0x400)) || (decide (0x600 ≤ o) && decide (o < 0x700)) || decide (0x740 ≤ o)
        | .power => o == 0xC || o == 0x1C
        | _ => n == 0 || n == 30 || n == 32 || n == 6 || n == 48 || n == 42
      | _ => match k with
        | .plane => true
        | .tile => eNodes.contains n && (o == 4 || decide (0x40 ≤ o && o < 0x60))
        | .dqx _ => true
        | _ => false

/-! ### Schedules -/

/-- A chunk of a SCHED section (R819). -/
structure Chunk where
  vnode : Nat := 0
  space : Nat := 0
  frag : Nat := 0
  off : Nat := 0
  data : List Byte := []
  deriving DecidableEq, Repr

/-- Chunks from position `p` of a section's bytes, whole chunks padded to 8 bytes; a chunk that runs past the section ends the list
with a `space` of 4, which no chunk has. -/
def chunksFrom : Nat → List Byte → List Chunk
  | 0, _ => []
  | k + 1, b =>
    let len := imgAt b 8 4
    if b.length < 12 + len then [{ space := 4 }]
    else { vnode := imgAt b 0 1, space := imgAt b 1 1, frag := imgAt b 2 1, off := imgAt b 4 4, data := (b.drop 12).take len } ::
      chunksFrom k (b.drop ((12 + len + 7) / 8 * 8))

/-- Bytes of a section. -/
def secBytes (b : List Byte) (s : Sec) : List Byte := (b.drop s.off).take s.len

/-- VMAP of a SCHED section (R819). -/
def vmapOf (d : List Byte) (v : Nat) : Nat := if v < 49 then imgAt d (4 + v) 1 else 255

/-- FRAG_BASE of a fragment. -/
def fragBase (d : List Byte) (f : Nat) : Nat := imgAt d (56 + 2 * f) 2

/-- The chunks of a SCHED section. The count is limited by what its bytes can hold. -/
def schedChunks (d : List Byte) : List Chunk := chunksFrom (min (imgAt d 88 4) (d.length + 1)) (d.drop 96)

/-- Register records of a chunk of SPACE 3. -/
def chunkRecs (x : Chunk) : List (Nat × Nat × Nat) := regRecs x.data { len := x.data.length }

/-- A relocation record (R351). -/
structure Reloc where
  kind : Nat := 0
  frag : Nat := 0
  lsb : Nat := 0
  vnode : Nat := 0
  space : Nat := 0
  off : Nat := 0
  deriving DecidableEq, Repr

/-- The records of a RELOC section (R819). -/
def relocs (d : List Byte) : List Reloc :=
  (List.range (min (imgAt d 0 4) (d.length / 8))).map (fun i =>
    let w := imgAt d (8 + 8 * i) 8
    { kind := bits w 3 0, frag := bits w 7 4, lsb := bits w 12 8, vnode := bits w 22 16, space := bits w 27 26, off := bits w 63 32 })

/-! ### Epoch lists and policy sections -/

/-- A POLICY section's lists (R818): NODE, RAIL, FMT and offset of each SEED entry. -/
def seedRecs (d : List Byte) : List (Nat × Nat × Nat × Nat) :=
  (List.range (imgAt d 0 1)).map (fun i =>
    let w := imgAt d (8 + 8 * i) 8
    (bits w 6 0, bits w 11 8, bits w 13 12, bits w 63 32))

/-- USER records: global address, words of 8 bytes. -/
def userListOf (d : List Byte) : List (Nat × Nat) :=
  (List.range (imgAt d 2 2)).map (fun i =>
    let w := imgAt d (8 + 8 * imgAt d 0 1 + 8 * i) 8
    (bits w 31 0, bits w 43 32 + 1))

/-- WLEN of the epochs that the lists give (R651). -/
def wlenOf (d : List Byte) : Nat := 768 + (userListOf d).foldl (fun a e => a + 1 + e.2) 0

/-- A SEED entry is legal (R818): an E or P tile, a format, an aligned offset in its DMEM. -/
def seedLegal (e : Nat × Nat × Nat × Nat) : Bool :=
  tileNodes.contains e.1 && e.2.2.1 != 3 && e.2.2.2 % 4 == 0
    && decide (e.2.2.2 < (if pNodes.contains e.1 then 131072 else 32768))

/-- Check 14 (EPOCH). -/
def epochGood (d : List Byte) : Bool := decide (imgAt d 0 1 ≤ 32) && (seedRecs d).all seedLegal && decide (wlenOf d ≤ 4096)

/-- Check 15 (POLICY) of one section. -/
def policyGood (d : List Byte) : Bool :=
  decide (imgAt d 4 4 ≤ 65536) && decide (imgAt d 8 4 ≤ 131072) && imgAt d 0 2 % 4 == 0 && decide (imgAt d 0 2 < imgAt d 4 4)

/-! ### The image checks -/

/-- Checks 1–6, with the size of the NOR: code and section index of the first that fails (R821). -/
def shapeCheck (b : List Byte) (devId : Nat) : Option (Nat × Option Nat) :=
  if imgAt b 0 4 ≠ 0x485A4F58 || imgAt b 4 2 ≠ 1 || imgAt b 6 2 ≠ 64 then some (1, none)
  else if imgAt b 60 4 ≠ imgCrc b 0 60 then some (2, none)
  else if imgAt b 12 4 / 256 ≠ devId / 256 then some (3, none)
  else if imgAt b 8 4 % 64 ≠ 0 || 0x4000000 < imgAt b 8 4 || b.length < imgAt b 8 4 then some (4, none)
  else match tableBad b with
    | some i => some (5, i)
    | none => (setBad b).map (fun i => (6, i))

/-- Every key slot is EMPTY (R822, R823). -/
def Chip.keysEmpty (c : Chip) : Bool := (List.range 3).all (fun s => c.keyState s == 0)

/-- Checks 7–10 (R820–R823). -/
def Chip.keyCheck (c : Chip) (b : List Byte) : Option (Nat × Option Nat) :=
  let i := some (secNo b 9 0)
  let a := ((imgSec b 9 0).getD {}).off
  let slot := imgAt b a 1
  let pub := (b.drop (a + 4)).take 97
  if 3 ≤ slot || c.keyState slot ≠ 1 then some (7, i)
  else if ofBytes ((toBytes 48 (sha384 pub)).reverse) ≠ c.keyHash slot then some (8, i)
  else if imgAt b (a + 4) 1 ≠ 4 || !ecdsaVerify (sha384 (b.take a)) (beNat ((pub.drop 1).take 48)) (beNat (pub.drop 49))
      (beNat ((b.drop (a + 104)).take 48)) (beNat ((b.drop (a + 152)).take 48)) then some (9, i)
  else if imgAt b 16 4 < c.minver then some (10, none)
  else none

/-- Check 11 (SECTION_CRC). -/
def crcCheck (b : List Byte) : Option (Nat × Option Nat) :=
  ((imgSecs b).zipIdx.find? (fun p => imgCrc b p.1.off p.1.len != p.1.crc)).map (fun p => (11, some p.2))

/-- Every record of a section names a target (check 12). -/
def recordsGood (b : List Byte) (s : Sec) : Bool :=
  match s.typ with
  | 2 => (schedChunks (secBytes b s)).all (fun x => x.space != 3 || (chunkRecs x).all (fun r => targetOk 2 r.1))
  | 3 => (routeRecs b s).all (fun r => decide (r.1 ≤ 48) && decide (r.2.1 < 64))
  | 4 => (regRecs b s).all (fun r => targetOk 4 r.1)
  | 5 => (regRecs b s).all (fun r => targetOk 5 r.1)
  | 6 => (regRecs b s).all (fun r => targetOk 6 r.1)
  | 7 => (regRecs b s).all (fun r => targetOk 7 r.1)
  | _ => true

/-- Every route record passes the route check (check 13, R246). -/
def routesGood (b : List Byte) (s : Sec) : Bool :=
  (routeRecs b s).all (fun r => (routeCheck r.1 r.2.1 (r.2.2.1 + bits r.2.2.2 3 0 * 2 ^ 32) (bits r.2.2.2 14 8)).isNone)

/-- Checks 12–15, those of step S8 (R821). -/
def recordCheck (b : List Byte) : Option (Nat × Option Nat) :=
  let ss := (imgSecs b).zipIdx
  match ss.find? (fun p => !recordsGood b p.1) with
  | some p => some (12, some p.2)
  | none =>
    match ss.find? (fun p => p.1.typ == 3 && !routesGood b p.1) with
    | some p => some (13, some p.2)
    | none =>
      match ss.find? (fun p => p.1.typ == 1 && p.1.idx == 8 && !epochGood (secBytes b p.1)) with
      | some p => some (14, some p.2)
      | none => (ss.find? (fun p => p.1.typ == 1 && decide (p.1.idx < 4) && !policyGood (secBytes b p.1))).map (fun p => (15, some p.2))

end Sys2Proof.Machine
end

