-- ==== Sys2Proof/Machine/Seq.lean ====
section
/-! DEFINITION. SEQ: taking, checking and stamping events, the event rings, the central counters, and the free beat
of the counters (R732–R754). -/

namespace Sys2Proof.Machine

open Reg

/-- Indices of the fault events of a class (R733, R911, and the tables of classes 9 and 10). -/
def faultIdx : Nat → List Nat
  | 0 => [1, 3]
  | 1 => [2, 3, 6, 8, 9, 13, 16]
  | 2 => [1, 2]
  | 4 => [1, 3, 4]
  | 6 => [3, 6, 8, 10]
  | 7 => [2, 7, 8]
  | 8 => [2]
  | 9 => [1, 2, 4, 7, 11]
  | 10 => [2, 3, 4, 5, 6]
  | 11 => [2, 3, 4, 9]
  | _ => []

/-- Is a CODE that of a fault event? -/
def isFault (code : Nat) : Bool := (faultIdx (code / 2048)).contains (code % 2048)

/-- Words of an event ring's region: 2^LOG records, other codes of LOG taken as 4 (R742). -/
def Chip.evrSize (c : Chip) (r : Nat) : Nat :=
  let l := c.f (Seq.EVRr_LOG r)
  2 ^ (if 4 ≤ l && l ≤ 10 then l else 4)

/-- Records that ring `r` has taken in this beat. -/
def Chip.evrTook (c : Chip) (r : Nat) : Nat :=
  let x := mget (0, 0) c.seq.took r
  if x.1 = c.clock then x.2 else 0

/-- A record finds ring `r` full (R744): it is kept for the rest of the beat (R779). -/
def Chip.evrMiss (c : Chip) (x : EvRec) (r : Nat) : Chip :=
  let was := if c.seq.missAt = c.clock then c.seq.missWas else []
  let was := if (mget none was r).isSome then was else mset none was r (some (c.f (Seq.EVRr_LOST r), c.f (Seq.EVRr_OVF r)))
  (({ c with seq.missAt := c.clock, seq.missWas := was, seq.miss := (if c.seq.missAt = c.clock then c.seq.miss else []) ++ [(r, x)] }.inc
    (Seq.EVRr_LOST r))).hwSet (Seq.EVRr_OVF r) 1

/-- Write a record into event ring `r` if it takes the record's class (R742–R744). -/
def Chip.ringRecord (c : Chip) (x : EvRec) (r : Nat) : Chip :=
  if c.b (Seq.EVRr_EN r) && bit (c.f (Seq.EVRr_CLASSMASK r)) x.cls then
    let h := c.f (Seq.EVRr_HEAD r)
    if c.evrSize r ≤ (h + 65536 - c.f (Seq.EVRr_TAIL r)) % 65536 then c.evrMiss x r
    else
      (({ c with seq.took := mset (0, 0) c.seq.took r (c.clock, c.evrTook r + 1) }).storeBytes
        (nodeBase 17 + c.f (Seq.EVRr_BASE r) / 64 * 64 + 64 * (h % c.evrSize r)) (toBytes 64 (ofWords x.words))).put
        (Seq.EVRr_HEAD r) (h + 1)
  else c

/-- SEQ writes out every record of the stamp buffer, in order (R742). -/
def Chip.drainSeq (c : Chip) : Chip :=
  forL c.seq.buf (fun x c => forN 4 (fun r c => c.ringRecord x r) c) { c with seq.buf := [] }

/-- Add to a central counter (R747, R751): past 2^48 − 1 it goes on from 0; in the beat of a CC_CLR it stays at 0 (R781). -/
def Chip.ccAdd (c : Chip) (j k : Nat) : Chip :=
  let v := c.f (Seq.CCj_LO j) + c.f (Seq.CCj_HI j) * 2 ^ 32 + k
  let was := c
  let c := (c.put (Seq.CCj_LO j) (v % 2 ^ 32)).put (Seq.CCj_HI j) (v / 2 ^ 32 % 2 ^ 16)
  if c.seq.clr = c.clock + 1 then was
  else if v < 2 ^ 48 then c
  else
    let c := c.hwSet (Seq.CCj_OVF j) 1
    if c.b (Seq.CCj_EVT j) then c.post 30 0 2 [(8, 30), (8, j)] else c

/-- Central counters count in Primary mode and while not frozen (R748, R753). -/
def Chip.ccOn (c : Chip) : Bool := !c.b Seq.CC_FREEZE && c.role != 3

/-- The fault-record slots of the Sketchbook (R765). -/
def Chip.skbFault (c : Chip) (ws : List Word) : Chip :=
  let n := c.f Skb.FR_TOTAL
  let c := forN 16 (fun i c => { c with skb.faults := mset 0 c.skb.faults (16 * (n % 16) + i) ((ws[i]?).getD 0) }) c
  c.put Skb.FR_TOTAL (n + 1)

/-- Stamp an event (R737–R740, R751, R765): the next number of the role epoch, 15 at a Shadow (R663). With the stamp
buffer full the event is lost and counted (R739). -/
def Chip.stamp (c : Chip) (src tenant code sseq loss : Nat) (payload : List Word) : Chip :=
  if 64 ≤ c.seq.buf.length then { c.inc Seq.SOVF_CNT with seq.lost := c.seq.lost + 1 }
  else
    let n := c.f Seq.COUNT
    let re := if c.role = 3 then 15 else c.f Seq.ROLE_EPOCH
    let pl := payload.length
    let ws := [BitVec.ofNat 32 (n + re * 2 ^ 28), BitVec.ofNat 32 (c.beat % 2 ^ 32),
      BitVec.ofNat 32 (c.beat / 2 ^ 32 % 65536 + src % 128 * 2 ^ 16 + tenant % 8 * 2 ^ 24 + pl * 2 ^ 28),
      BitVec.ofNat 32 (code % 65536 + sseq % 65536 * 2 ^ 16)] ++ payload ++ List.replicate (12 - pl) 0
    let c := { c.put Seq.COUNT (n + 1) with seq.buf := c.seq.buf ++ [{ cls := code / 2048, words := ws }] }
    let c := if c.ccOn then forN 32 (fun j c =>
        let m := c.f (Seq.CCj_MASK j)
        if c.f (Seq.CCj_MODE j) = 1 && (code &&& m) == (c.f (Seq.CCj_MATCH j) &&& m) then c.ccAdd j 1
        else if c.f (Seq.CCj_MODE j) = 2 && loss != 0 then c.ccAdd j loss
        else c) c
      else c
    let c := if code = evCode 6 6 && src == 30 then c.skbAdd 816 1 else if code = evCode 9 7 then c.skbAdd 824 1 else c
    if isFault code then c.skbFault ws else c

/-- SEQ stamps one of its own records. -/
def Chip.stampOwn (c : Chip) (idx loss : Nat) (fs : List (Nat × Nat)) : Chip :=
  c.stamp 30 0 (evCode 0 idx) 0 loss (toWords ((packWidth 0 fs + 31) / 32) (packFields 0 fs))

/-- The per-source check of an event that has arrived (R736). -/
def Chip.checkSource (c : Chip) (src sseq : Nat) : Chip :=
  let e := mget 0 c.seq.expect src
  let d := (sseq + 65536 - (e - 1)) % 65536
  let c := if e ≠ 0 && d ≠ 0 then (c.incBy Seq.LOSS_CNT d).stampOwn 1 d [(8, src), (16, d)] else c
  { c with seq.expect := mset 0 c.seq.expect src ((sseq + 1) % 65536 + 1) }

/-- The stamp buffer has space again: one SEQ_OVF record with the count lost (R739). -/
def Chip.ovfRecord (c : Chip) : Chip :=
  let k := c.seq.lost
  if k = 0 || decide (64 ≤ c.seq.buf.length) then c else { c with seq.lost := 0 }.stampOwn 3 k [(32, k)]

@[inherit_doc Chip.ovfRecord] def Chip.seqOvf (c : Chip) : Chip := if c.seq.lost = 0 then c else c.drainSeq.ovfRecord

/-- The LOCAL port delivers its next event (R738). -/
def Chip.takeLocal (c : Chip) : Chip :=
  if c.seq.locAt = c.clock + 1 then c
  else match c.seq.local_ with
    | [] => c
    | (code, ws) :: es => ({ c with seq.local_ := es, seq.locAt := c.clock + 1 } : Chip).ovfRecord.stamp 30 0 code 0 0 ws

/-- The LATTICE port delivers its next event, after LOCAL's of the same beat (R732, R736, R738). -/
def Chip.takeLattice (c : Chip) : Chip :=
  if c.seq.latAt = c.clock + 1 then c
  else match (c.ni 30).in3 with
    | [] => c
    | p :: ps =>
      let c := { c.setNi 30 { c.ni 30 with in3 := ps } with seq.latAt := c.clock + 1 }.takeLocal
      if 64 ≤ p.hdr.offset then c.niErr 30 4 p.hdr p.hdr.src
      else if 12 < p.hdr.len then c.dropErr 30 p.hdr p.hdr.src
      else
        let w0 := wordAt p.words 0
        (c.ovfRecord.checkSource p.hdr.src (w0 / 65536)).stamp p.hdr.src p.hdr.tenant (w0 % 65536) (w0 / 65536) 0
          ((List.range p.hdr.len).map (fun i => (p.words[i + 1]?).getD 0))

/-- SEQ takes the next event of its LOCAL port (`loc`) or its LATTICE port, each at most once in a beat (R736–R739). With `held`, the stamp
buffer keeps its records for now. -/
def Chip.takeEvent (c : Chip) (loc held : Bool) : Chip :=
  let c := if loc then c.takeLocal else c.takeLattice
  if held then c else c.drainSeq

/-- Records that found ring `r` full in this beat are written after all, as far as there is room now (R779). -/
def Chip.evrRegain (c : Chip) (r : Nat) : Chip :=
  if c.seq.missAt = c.clock then
    match mget none c.seq.missWas r with
    | some (lost, ovf) =>
      let l := c.seq.miss.filter (fun e => e.1 == r)
      let c := (c.put (Seq.EVRr_LOST r) lost).put (Seq.EVRr_OVF r) ovf
      forL l (fun e c => c.ringRecord e.2 r)
        { c with seq.miss := c.seq.miss.filter (fun e => e.1 != r), seq.missWas := mset none c.seq.missWas r none }
    | none => c
  else c

/-- A write of an event ring's TAIL (R743): records of the same beat come after it (R779). -/
def Chip.evrTail (c : Chip) (r v : Nat) : Chip :=
  if c.evrSize r < (c.f (Seq.EVRr_HEAD r) + 131072 - c.evrTook r - v % 65536) % 65536 then c.hwSet (Seq.EVRr_TAIL_BAD r) 1
  else (c.put (Seq.EVRr_TAIL r) v).evrRegain r

/-- BANK.CLR and CC_CLR (R748). -/
def Chip.bankClr (c : Chip) (n : Nat) : Chip := (forN 4 (fun j c => c.setCnt n j 0) c).setNi n { c.ni n with clr := c.clock + 1 }
@[inherit_doc Chip.bankClr] def Chip.ccClr (c : Chip) : Chip :=
  forN 32 (fun j c => (c.put (Seq.CCj_LO j) 0).put (Seq.CCj_HI j) 0) { c with seq.clr := c.clock + 1 }

/-! ### A free beat -/

/-- Flits that the NI's send queue of a virtual channel holds. -/
def Chip.txFlits (c : Chip) (n vc : Nat) : Nat :=
  let x := c.ni n
  (c.outFlits n vc).length + (if vc = 1 then x.rsp.foldl (fun a p => a + p.size) 0
    else if vc = 2 then x.asks.foldl (fun a k => a + k.pkt.size) 0
    else if vc = 3 then x.send3.foldl (fun a p => a + p.size) 0 else 0)

/-- Does selection `sel` of a counter of node `n` hold at the end of this beat (R746)? The selections that count happenings
(2, 4–6, 13, 14) count where they happen. -/
def Chip.selHolds (c : Chip) (n sel vc thr : Nat) : Bool :=
  match sel with
  | 1 => true
  | 3 => c.pl.holds.any (fun h => h.2.isSome)
  | 7 => decide (thr < c.txFlits n vc)
  | 8 => decide (thr < (if vc = 0 then (mget [] c.pl.eject n).length else c.inqFlits n vc))
  | 9 => decide (thr < c.inflight n)
  | 10 => (List.range 8).any (fun t => (c.asking n t || c.posting n t) && !c.sieveOpen n t)
  | 11 => decide (tileAt n < 24) && decide (thr < (mget {} c.pl.dq (tileAt n)).out.length)
  | 12 => decide (tileAt n < 24) && decide (thr < (mget {} c.pl.dq (tileAt n)).inq.length)
  | _ => false

/-- The counters of node `n` in a free beat. -/
def Chip.tickBank (c : Chip) (n : Nat) : Chip :=
  if c.b (Bank.BANK_FREEZE n) then c
  else forN 4 (fun j c =>
    if c.b (Bank.CFGk_EN n j) && c.selHolds n (c.f (Bank.CFGk_SEL n j)) (c.f (Bank.CFGk_VC n j)) (c.f (Bank.CFGk_THR n j)) then
      c.cntAdd n j 1 else c) c

/-- A P tile's timers count down while they hold 2 or more (R403), after what landed in earlier beats. -/
def Chip.tickTimers (c : Chip) (p : Nat) : Chip :=
  let c := c.settle (24 + p) (c.clock - 1)
  let x := c.tile (24 + p)
  let x := if bit x.tmren 0 && decide (2 ≤ x.cnt0) then { x with cnt0 := x.cnt0 - 1 } else x
  let x := if bit x.tmren 1 && decide (2 ≤ x.cnt1) then { x with cnt1 := x.cnt1 - 1 } else x
  c.setTile (24 + p) x

/-- One free beat passes: the counters that count it (R746, R751), then the beat count, the timers, the pauses of the
switch channels (R689). -/
def Chip.freeBeat (c : Chip) : Chip :=
  let c := forN 49 (fun n c => c.tickBank n) c
  let c := if c.ccOn then forN 32 (fun j c => if c.f (Seq.CCj_MODE j) = 3 then c.ccAdd j 1 else c) c else c
  let c := { c with beat := (c.beat + 1) % 2 ^ 48, clock := c.clock + 1, hwBits := [] }
  let c := forN 4 (fun p c => c.tickTimers p) c
  forN 16 (fun n c => c.pauseTick n) c

end Sys2Proof.Machine
end

