-- ==== Sys2Proof/Machine/Skb.lean ====
section
/-! DEFINITION. The Sketchbook: its counts, the persisted format, persists and the restore (R762–R773, R785, R828). -/

namespace Sys2Proof.Machine

open Reg

/-! ### Counts -/

/-- Temperature bin of count 0–31: `t` in 1/8 °C (R762). -/
def tempBin (t : Int) : Nat := (clampI 0 31 ((t + 320) / 40)).toNat

/-- Current bin of R763, in 1/16 A. -/
def currentBin (x : Int) : Nat :=
  if x < 0 then 31
  else if x = 0 then 0
  else
    let n := x.toNat
    let l := Nat.log2 n
    1 + 2 * l + b2n (decide (1 ≤ l) && bit n (l - 1))

/-- Each second with VDDH up (R762). -/
def Chip.skbSecond (c : Chip) (t : Int) : Chip :=
  if !c.pw.vddh || !c.skb.counting then c
  else
    let c := (c.skbAdd (tempBin t) 1).skbAdd 826 1
    forN 16 (fun n c =>
      let now := c.f (Lsw.TRIP_CNT n)
      let d := (now + 65536 - mget 0 c.skb.tripSeen n) % 65536
      { c.skbAdd (800 + n) d with skb.tripSeen := mset 0 c.skb.tripSeen n now }) c

/-- Each millisecond (R762, R763). -/
def Chip.skbMs (c : Chip) : Chip :=
  forN 16 (fun r c => if c.b (Rail.EN r) then c.skbAdd (32 + 32 * r + currentBin (c.fi (Rail.IRAIL r))) 1 else c) c

/-- A droop episode of rail `r` has ended (R764). -/
def Chip.skbDroop (c : Chip) (r : Nat) : Chip :=
  match mget 0 c.skb.done r with
  | 0 => c
  | d + 1 => { c with skb.done := mset 0 c.skb.done r 0 }.skbAdd (544 + 16 * r + min 15 (d / 16)) 1

/-! ### The persisted format -/

/-- The code of a count (R767). -/
def skbCode (v : Nat) : Nat :=
  if v < 2048 then v
  else
    let e := Nat.log2 v - 10
    if 31 < e then 0xFFFF else e * 2048 + (v / 2 ^ (e - 1) - 2048) % 2048

/-- What a code decodes to (R768). -/
def skbDecode (code : Nat) : Nat :=
  let e := code / 2048 % 32
  let m := code % 2048
  if e = 0 then m else (2048 + m) * 2 ^ (e - 1)

/-- The 256 bytes of logical page `l` (R770). -/
def skbPage (l gen total : Nat) (counts : Map Nat) (faults : Map Word) : Nat :=
  let body :=
    if l ≤ 6 then
      (List.range 122).foldr (fun j a => (if 122 * l + j ≤ 835 then skbCode (mget 0 counts (122 * l + j)) else 0) + 2 ^ 16 * a) 0
    else
      (List.range 48).foldr (fun j a =>
        let slot := 3 * (l - 7) + j / 16
        (if slot ≤ 15 then (mget 0 faults (16 * slot + j % 16)).toNat else 0) + 2 ^ 32 * a) 0 + 2 ^ 1536 * (total % 2 ^ 32)
  let full := gen % 2 ^ 32 + (l + 256) * 2 ^ 32 + 2 ^ 64 * body
  full + 2 ^ 2016 * crc32 ((toBytes 252 full).map BitVec.toNat)

/-! ### Persists -/

/-- A persist begins: the snapshot (R771); during a persist, one further persist is due (R785). -/
def Chip.persist (c : Chip) : Chip :=
  let x := c.skb
  if x.page.isSome then { c with skb.more := true }
  else
    { c.putB Skb.BUSY true with
      skb := { x with page := some 0, snapCounts := x.counts, snapFaults := x.faults, snapTotal := c.f Skb.FR_TOTAL,
                      snapGen := (c.f Skb.GEN + 1) % 2 ^ 32, more := false, waiting := false } }

/-- The next logical page enters NVC's queue (R770, R771, R801). -/
def Chip.persistStep (c : Chip) : Chip :=
  let x := c.skb
  match x.page with
  | none => c
  | some l =>
    if x.waiting || !c.nvRoom then c
    else { c with skb.waiting := true }.nvEnqueue
      { page := 0x2100 + 16 * l + x.snapGen % 16, data := skbPage l x.snapGen x.snapTotal x.snapCounts x.snapFaults, origin := .skb }

/-- The persist ends; a further one begins when one is due (R771). -/
def Chip.persistEnd (c : Chip) : Chip :=
  let more := c.skb.more
  let c := { c.putB Skb.BUSY false with skb := { c.skb with page := none, waiting := false, more := false } }
  if more then c.persist else c

/-- NVC reports the end of a page write of the persist, with its RESULT (R773). -/
def Chip.persistPage (c : Chip) (result : Nat) : Chip :=
  match c.skb.page with
  | none => c
  | some l =>
    if result ≤ 1 then
      let c := c.put Skb.GEN c.skb.snapGen
      if l = 12 then c.persistEnd else { c with skb := { c.skb with page := some (l + 1), waiting := false } }
    else (c.post 32 8 2 [(8, l)]).persistEnd

/-- A command of NVC's engine, and what follows when it ends a page write. -/
def Chip.nvAdvance (c : Chip) (f : Chip → Chip) : Chip :=
  let was := c.nvc.cur
  let c := f c
  match was, c.nvc.cur with
  | some x, none => if x.w.origin = .skb then c.persistPage (c.f Nvc.RESULT) else c
  | _, _ => c

/-! ### The restore -/

/-- A valid physical page of logical page `l` at cell address `a` (R770). -/
def Chip.skbValid (c : Chip) (l a : Nat) : Bool := c.copyValid a 256 && c.cellsAt (a + 4) 2 == l + 256

/-- The A page of logical page `l`: its address and GEN (R772). -/
def Chip.skbNewest (c : Chip) (l : Nat) : Option (Nat × Nat) :=
  (List.range 16).foldl (fun best i =>
    let a := 0x210000 + 256 * (16 * l + i)
    if c.skbValid l a then
      match best with
      | some (_, g) => if g < c.cellsAt a 4 then some (a, c.cellsAt a 4) else best
      | none => some (a, c.cellsAt a 4)
    else best) none

/-- The restore of R772. FR_TOTAL comes from the newest of pages 7–12. -/
def Chip.skbRestore (c : Chip) : Chip :=
  let found := (List.range 13).map (fun l => (l, c.skbNewest l))
  let gens := found.map (fun p => (p.2.map Prod.snd).getD 0)
  let lo := gens.foldl min (gens.headD 0)
  let hi := gens.foldl max 0
  let counts : Map Nat := found.foldl (fun m p => match decide (p.1 ≤ 6), p.2 with
    | true, some (a, _) => forN 122 (fun j m => if 122 * p.1 + j ≤ 835 then mset 0 m (122 * p.1 + j) (skbDecode (c.cellsAt (a + 8 + 2 * j) 2)) else m) m
    | _, _ => m) []
  let faults : Map Word := found.foldl (fun m p => match decide (7 ≤ p.1), p.2 with
    | true, some (a, _) => forN 48 (fun j m =>
        if 3 * (p.1 - 7) + j / 16 ≤ 15 then mset 0 m (16 * (3 * (p.1 - 7)) + j) (BitVec.ofNat 32 (c.cellsAt (a + 8 + 4 * j) 4)) else m) m
    | _, _ => m) []
  let total := ((found.drop 7).foldl (fun b p => match p.2 with
    | some (a, g) => if b.1 ≤ g then (g, c.cellsAt (a + 200) 4) else b
    | none => b) (0, 0)).2
  let torn := lo != hi
  let counts := if torn then mset 0 counts 835 (mget 0 counts 835 + 1) else counts
  let c := c.cellRead 0x210000 53248
  let c := ((c.put Skb.GEN hi).put Skb.FR_TOTAL total).putB Skb.TORN torn
  { c with skb := { c.skb with counts := counts, faults := faults, restoring := true, counting := false } }.post 32 8 1
    [(8, b2n torn), (32, lo), (32, hi)]

/-- The restore completes and counting starts (R772): a reset of kind P or I that led to it is counted then (R762).
DESIGN CHOICE (notes/assumptions/115.md): the trips of a channel count from what TRIP_CNT reads then. -/
def Chip.skbStart (c : Chip) : Chip :=
  if c.skb.restoring then
    let seen : Map Nat := (List.range 16).foldl (fun m n => mset 0 m n (c.f (Lsw.TRIP_CNT n))) []
    let c := { c with skb := { c.skb with restoring := false, counting := true, tripSeen := seen } }
    let reason := c.f Power.WAKE_REASON
    if reason = 1 then c.skbAdd 827 1 else if reason = 2 then c.skbAdd 828 1 else c
  else c

end Sys2Proof.Machine
end

