-- ==== Sys2Proof/Machine/Trace.lean ====
section
/-! DEFINITION. The trace channels of DQX: Crumb blocks and trace pages (R755–R761). -/

namespace Sys2Proof.Machine

open Reg

def Chip.trace (c : Chip) (k : Nat) : TraceH := mget {} c.trc k
def Chip.setTrace (c : Chip) (k : Nat) (h : TraceH) : Chip := { c with trc := mset {} c.trc k h }

/-- Every sample fits in 8 bits at exponent `e` (R757). -/
def crumbFits (e : Nat) (xs : List Int) : Bool :=
  xs.all (fun x => let m := rneDiv x (2 ^ e : Nat); decide (-128 ≤ m) && decide (m ≤ 127))

/-- The exponent of a block: the first that fits, at most 5 (R757). -/
def crumbExp (xs : List Int) : Nat := ((List.range 5).find? (fun e => crumbFits e xs)).getD 5

/-- A Crumb block of 68 bits (R757). -/
def crumbBlock (xs : List Int) : Nat :=
  let e := crumbExp xs
  e + 16 * (xs.foldr (fun x a => low 8 (rneDiv x (2 ^ e : Nat)) + 256 * a) 0)

/-- LOG of a channel's region, other codes taken as 12 (R760, R776). -/
def Chip.trcLog (c : Chip) (k : Nat) : Nat := let l := c.f (Trc.LOG k); if 12 ≤ l then l else 12

/-- A trace page but for its PSEQ (R759). -/
def tracePage (chan : Nat) (blocks : List Nat) (lastn : Nat) : Nat :=
  chan + blocks.length * 2 ^ 3 + lastn * 2 ^ 6 + 2 ^ 36 * (blocks.foldr (fun b a => b + 2 ^ 68 * a) 0)

/-- The open page is complete (R759). -/
def Chip.pageDone (c : Chip) (k lastn : Nat) : Chip :=
  let h := c.trace k
  c.setTrace k { h with pages := h.pages ++ [tracePage k h.blocks lastn], blocks := [], samples := [] }

/-- A sample reaches channel `k` (R756, R757, R759–R761). -/
def Chip.sample (c : Chip) (k : Nat) (v : Int) : Chip :=
  if !c.b (Trc.EN k) then c
  else
    let h := c.trace k
    if c.b (Trc.FULL k) || decide (2 ≤ h.pages.length) then (c.hwSet (Trc.DROP k) 1).inc (Trc.DROP_CNT k)
    else
      let xs := h.samples ++ [v]
      if xs.length < 8 then c.setTrace k { h with samples := xs }
      else
        let c := c.setTrace k { h with samples := [], blocks := h.blocks ++ [crumbBlock xs] }
        if h.blocks.length = 6 then c.pageDone k 7 else c

/-- FLUSH: the open block is completed with samples of 0 and the page written (R759). -/
def Chip.flushNow (c : Chip) (k : Nat) : Chip :=
  let h := c.trace k
  if h.samples.isEmpty then (if h.blocks.isEmpty then c else c.pageDone k 7)
  else
    (c.setTrace k { h with blocks := h.blocks ++ [crumbBlock (h.samples ++ List.replicate (8 - h.samples.length) 0)] }).pageDone k
      (h.samples.length - 1)

/-- A write of FLUSH. -/
def Chip.flush (c : Chip) (k : Nat) : Chip :=
  let h := c.trace k
  (c.setTrace k { h with flushAt := c.clock + 1, wasSamples := h.samples, wasBlocks := h.blocks, wasPages := h.pages }).flushNow k

/-- A write of SAMPLE delivers one sample, or two with PAIR (R755); a flush of the same beat comes after it (R783). -/
def Chip.traceWrite (c : Chip) (k w : Nat) : Chip :=
  let h := c.trace k
  let back := h.flushAt == c.clock + 1 && h.pages.take h.wasPages.length == h.wasPages
  let c := if back then c.setTrace k { h with samples := h.wasSamples, blocks := h.wasBlocks, pages := h.wasPages } else c
  let c := c.sample k (sgn 12 w)
  let c := if bit w 31 then c.sample k (sgn 12 (bits w 27 16)) else c
  if back then c.flush k else c

/-- Samples of a page. -/
def pageSamples (p : Nat) : Nat := 8 * (bits p 5 3 - 1) + bits p 8 6 + 1

/-- The channel has stopped: it sets FULL, and the samples that wait for a later page are dropped with the later ones (R756, R760). -/
def Chip.traceStop (c : Chip) (k : Nat) : Chip :=
  let h := c.trace k
  let n := (h.pages.map pageSamples).sum + 8 * h.blocks.length + h.samples.length
  let c := (c.putB (Trc.FULL k) true).setTrace k { h with pages := [], blocks := [], samples := [] }
  if n = 0 then c else (c.hwSet (Trc.DROP k) 1).incBy (Trc.DROP_CNT k) n

/-- Write bytes into the trace memory. -/
def Chip.setXmem (c : Chip) (a : Nat) : List Byte → Chip
  | [] => c
  | b :: bs => { c with xmem := mset 0 c.xmem (a % 2 ^ 32) b }.setXmem (a + 1) bs

/-- The oldest finished page goes to the trace memory (R760), in the region that BASE aligned to 2^LOG begins (R776). -/
def Chip.tracePageWrite (c : Chip) (k : Nat) : Chip :=
  let h := c.trace k
  match h.pages with
  | [] => c
  | p :: ps =>
    let q := c.f (Trc.PSEQ k)
    let n := 2 ^ (c.trcLog k - 6)
    let c := (c.setTrace k { h with pages := ps }).setXmem (c.f (Trc.BASE k) / (64 * n) * (64 * n) + 64 * (q % n)) (toBytes 64 (p + q * 2 ^ 9))
    let c := c.put (Trc.PSEQ k) (q + 1)
    if c.b (Trc.STOP k) && q % n == n - 1 then c.traceStop k else c

/-- A write of EN, BASE or LOG: PSEQ returns to 0 and FULL clears (R776). -/
def Chip.traceRestart (c : Chip) (k : Nat) : Chip := (c.put (Trc.PSEQ k) 0).putB (Trc.FULL k) false

end Sys2Proof.Machine
end

