-- ==== Sys2Proof/Machine/Twin.lean ====
section
/-! DEFINITION. Twins and the Diptych link: link states and replay, heartbeats and roles, epochs, the drive interlock,
takeover and hand-over (R635–R676). -/

namespace Sys2Proof.Machine

open Reg

/-- DIP posts an event of class TWIN. -/
def Chip.postTwin (c : Chip) (idx : Nat) (fs : List (Nat × Nat)) : Chip := c.post 6 6 idx fs

/-! ### The ceiling check -/

/-- A word of the ceiling check: its address and the mask of its sealed fields (R647). -/
def Fld.mask (x : Fld) : Nat := 2 ^ (x.hi + 1) - 2 ^ x.lo

/-- The words of CEIL_CRC in ascending address order: G0, B0, B1 (R647). -/
def ceilWords : List (Nat × Nat) :=
  [(Garr.VDDG_MIN.addr, Garr.VDDG_MIN.mask)]
  ++ (List.range 48).map (fun n => ((Sense.IPH_MAX n).addr, (Sense.IPH_MAX n).mask + (Sense.OC_LATCH_N n).mask))
  ++ (List.range 16).flatMap (fun r =>
      [((Rail.OV_LATCH_N r).addr, (Rail.OV_LATCH_N r).mask), ((Rail.SLEW_MAX r).addr, (Rail.SLEW_MAX r).mask),
       ((Rail.VOUT_MAX r).addr, (Rail.VOUT_MAX r).mask + (Rail.OV_THR r).mask), ((Rail.IOUT_MAX r).addr, (Rail.IOUT_MAX r).mask),
       ((Rail.BWEIGHT r).addr, (Rail.BWEIGHT r).mask)])
  ++ [(Board.BUDGET_MAX.addr, Board.BUDGET_MAX.mask), (Board.VIN_UV.addr, Board.VIN_UV.mask)]
  ++ (List.range 32).map (fun n => ((Tmon.TSHUT n).addr, (Tmon.TSHUT n).mask))
  ++ (List.range 48).map (fun n => ((Sense.IPH_MAX (48 + n)).addr, (Sense.IPH_MAX (48 + n)).mask + (Sense.OC_LATCH_N (48 + n)).mask))

/-- Compute CEIL_CRC (R647). -/
def Chip.ceilCrc (c : Chip) : Chip :=
  c.put Dip.CEIL_CRC (crc32 (wordBytes (ceilWords.map (fun w => c.reg w.1 &&& BitVec.ofNat 32 w.2))))

/-! ### Roles -/

/-- PREF as ROLE_PREF is taken: 0b11 as 0b10 (R635). -/
def Chip.pref (c : Chip) : Nat := min 2 (c.f Dip.PREF)

/-- PREF in the last heartbeat. -/
def Chip.twinPref (c : Chip) : Nat := min 2 (bits c.tw.hbWord 9 8)

/-- This part ranks below its twin (R648); with equal straps, or a twin whose strap it has not heard, and the link not
UP, it gives way (R661). -/
def Chip.lowerRank (c : Chip) : Bool :=
  if c.tw.lastHb.isNone then true
  else if c.pref = c.twinPref then
    !c.linkUp || decide (c.f (Dip.TWIN_UID 0) + c.f (Dip.TWIN_UID 1) * 2 ^ 32 < c.f Id.UID_LO + c.f Id.UID_HI * 2 ^ 32)
  else decide (c.twinPref < c.pref)

/-- Release or hold TWIN_OK (R666). -/
def Chip.twinOk (c : Chip) : Chip :=
  c.putB Dip.TWIN_OK (c.linkUp && (c.role == 2 || (c.role == 3 && c.tw.commit.isSome && !c.tw.lapsed)))

/-- The part becomes SHADOW, with F and C empty (R657, R658, R671); the array's lines no longer act on its clusters (R181). -/
def Chip.becomeShadow (c : Chip) : Chip :=
  ({ (c.put Dip.ROLE 3).putB Dip.OWN_OUT false with
    tw := { c.tw with f := none, c := none, applying := false, commit := none, lapsed := false, ho := 0, take := 0, sample := false,
                      backoff := false, paused := false, sending := false, txS := [] } }.twinOk).arrayLines

/-- Take a role at step S9 (R648–R650): `rule` is the row of the **Role decision** table. A part that would become
SHADOW is BARRED when the ceilings differ. -/
def Chip.takeRole (c : Chip) (role rule : Nat) : Chip :=
  let differ := c.tw.lastHb.isSome && c.f Dip.TWIN_CEIL_CRC != c.f Dip.CEIL_CRC
  let role := if role = 3 && differ then 4 else role
  let c := { c.put Dip.ROLE role with tw.negotiating := false, tw.negs := 0,
                                      pw.step := if c.pw.mode == PMode.wake && c.pw.step == 9 then 10 else c.pw.step }
  let c := if differ && (role = 4 || rule = 4) then { c with tw.mismatch := true }.postTwin 3 [] else c
  ((c.postTwin 2 [(8, role), (8, rule)]).twinOk).arrayLines

/-- The first row of the **Role decision** table that applies, the last row apart (R648, R890). -/
def Chip.negotiate (c : Chip) : Chip :=
  if !c.tw.negotiating then c
  else if c.pref = 0 then c.takeRole 0 1
  else if c.tw.lastHb.isSome && bits c.tw.hbWord 3 0 == 2 && !c.pw.linkHold then c.takeRole 3 2
  else if c.b Dip.OWN_IN then c.takeRole (if c.pw.linkHold then 4 else 3) 3
  else if c.linkUp && c.tw.lastHb.isSome && bits c.tw.hbWord 3 0 == 1 then c.takeRole (if c.lowerRank then 3 else 2) 4
  else c

/-- NEG_TMO passes with the link not UP and OWN_IN deasserted (R648). -/
def Chip.negTimeout (c : Chip) : Chip :=
  if c.tw.negotiating && !c.linkUp && !c.b Dip.OWN_IN then
    if c.pref = 1 || decide (1 ≤ c.tw.negs) then c.takeRole 2 5 else { c with tw.negs := 1 }
  else c

/-! ### The link -/

/-- CAUSE of a link-down cause (R642). -/
def causeCode : LinkCause → Nat
  | .lock => 1
  | .replay => 2
  | .silent => 3
  | .nodeRst => 4
  | .soft => 5

/-- A packet that the link can no longer carry: a request is answered LINK_DOWN; the rest is discarded, and counted
where it had not been sent (R269, R270). -/
def Chip.linkLost (c : Chip) (count : Bool) (p : Pkt) : Chip :=
  if p.hdr.vc = 2 then c.respond 6 { hdr := rspHdr p.hdr (rspType p.hdr.typ) stLink }
  else if count then c.dropErr 6 p.hdr p.hdr.dst else c

/-- A hand-over is abandoned (R658, R672). -/
def Chip.handoverFail (c : Chip) : Chip :=
  if c.tw.ho = 1 then { c with tw.ho := 0 }.postTwin 9 [] else c

/-- The link leaves UP (R642, R643): a filling epoch buffer is discarded, a PENDING epoch is whole. -/
def Chip.linkDown (c : Chip) (cause : LinkCause) : Chip :=
  if c.linkUp then
    let x := c.tw
    let c := ((c.put Dip.LINK 0).put Dip.LAST_DOWN (causeCode cause)).inc Dip.LINKDOWN_CNT
    let c := forL x.held (fun h c => match h.frame with | .lattice p => c.linkLost false p | _ => c) c
    let c := forL x.txL (fun p c => c.linkLost true p) c
    let c := { c with tw := { c.tw with held := [], txL := [], txS := [], fseq := 0, expect := 0, nak := none, ctl := none,
                                        sending := false, f := x.f.filter (fun b => b.fin.isSome) } }
    (((c.tenantReset 7).postTwin 1 [(8, causeCode cause)]).handoverFail).twinOk
  else c

/-- DOWN becomes TRAIN (R642, R890). -/
def Chip.linkTrain (c : Chip) : Chip :=
  if c.f Dip.LINK = 0 && c.pref != 0 && !c.b Dip.CTL_LINK_HOLD && !c.pw.linkHold then c.put Dip.LINK 1 else c

/-- TRAIN has not reached UP within 1 ms (R642). -/
def Chip.linkTrainFail (c : Chip) : Chip := if c.f Dip.LINK = 1 then c.put Dip.LINK 0 else c

/-- A sequenced frame arrives (R644 rules 2–4): whether it is accepted as new, and the ACK or NAK sent. -/
def Chip.linkAccept (c : Chip) (fseq : Nat) (good : Bool) : Bool × Chip :=
  let x := c.tw
  if !c.linkUp then (false, c)
  else if good && fseq == x.expect then
    (true, { c with tw := { x with expect := (x.expect + 1) % 256, ctl := some (0, fseq) } })
  else
    let back := (x.expect + 256 - fseq) % 256
    if good && decide (1 ≤ back) && decide (back ≤ 64) then
      (false, { c with tw := { x with ctl := some (0, (x.expect + 255) % 256) } })
    else
      let again := match x.nak with
        | some (e, b) => e == x.expect + 1 && decide (c.clock - b < max 64 (c.f Dip.ACK_TMO))
        | none => false
      if again then (false, c)
      else (false, { c with tw := { x with ctl := some (if good then 2 else 1, x.expect), nak := some (x.expect + 1, c.clock) } })

/-- An ACKSEQ covers frames of the replay buffer (R644 rule 1); the END of an epoch acknowledged sets CEPOCH. -/
def Chip.ackFrames (c : Chip) (seq : Nat) : Chip :=
  if !c.linkUp then c
  else
    let (gone, rest) := c.tw.held.partition (fun h => decide ((seq + 256 - h.fseq) % 256 < 64))
    let c := forL gone (fun h c => match h.frame with | .fin e _ => if c.role = 2 then c.put Dip.CEPOCH e else c | _ => c) c
    { c with tw.held := rest }.linkPump

/-- A LATTICE frame comes over the lanes (R267, R268, R639–R641, R644). -/
def Chip.latticeFrame (c : Chip) (l : Lanes) : Chip :=
  match l.frame with
  | none => c
  | some f =>
    if f.ftype ≠ 2 then c
    else
      let c := if f.good then c.ackFrames f.ackseq else c
      let (new, c) := c.linkAccept f.fseq f.good
      if new then { c with tw.rxq := c.tw.rxq ++ [f.pkt] } else c

/-- Resend held frames from position `i` (R644 rule 5, R645). -/
def Chip.resend (c : Chip) (i : Nat) : Chip :=
  let again := c.tw.held.drop i
  if again.any (fun h => decide (3 ≤ h.replays)) then c.linkDown .replay
  else { c.incBy Dip.REPLAY_CNT again.length with
    tw.held := c.tw.held.take i ++ again.map (fun h => { h with replays := h.replays + 1, last := c.clock }) }

/-- A NAK with an expected FSEQ. -/
def Chip.nakFrames (c : Chip) (seq : Nat) : Chip :=
  let i := c.tw.held.findIdx (fun h => h.fseq == seq)
  if c.linkUp && decide (i < c.tw.held.length) then c.resend i else c

/-- The oldest held frame has gone ACK_TMO beats without acknowledgement. -/
def Chip.replayTimeout (c : Chip) : Chip := if c.linkUp && !c.tw.held.isEmpty then c.resend 0 else c

/-- The header of a packet from the twin, as the far DIP changes it, its ROUTE apart (R267). -/
def farHdr (h : Hdr) : Hdr := { h with dst := h.dst % 64, src := h.src ||| 64, tenant := if h.typ ≤ 5 then 7 else h.tenant }

/-- DIP answers a request that came from the twin: over the link, to the node of the twin that sent it. -/
def Chip.tunnelAnswer (c : Chip) (h : Hdr) (status : Nat) : Chip :=
  c.tunnelOut 1 0 { hdr := rspHdr (farHdr h) (rspType h.typ) status }

/-- Send on the oldest packet that came from the twin, with its marks (R267). -/
def Chip.tunnelIn (c : Chip) : Chip :=
  match c.tw.rxq with
  | [] => c
  | p :: ps =>
    let h := p.hdr
    if !c.canInject 6 h.vc then c
    else
      let c := { c with tw.rxq := ps }
      if !twinNode h.dst || h.vc = 0 then (c.niErr 6 7 h h.src).dropErr 6 h h.src
      else match c.route 6 (routeEntry (farHdr h).dst) with
        | none => if h.vc = 2 then c.tunnelAnswer h stAddr else c.dropErr 6 (farHdr h) (farHdr h).dst
        | some r => c.sendFlits 6 { p with hdr := { farHdr h with route := r } }

/-- What the node reset of DIP does with packets of the tunnel (R274, R278, R298): requests that wait for the link are answered
NODE_FENCED, those of the replay buffer are R270's; a request from the twin that has not been sent on is answered too, and whatever
else waits is cleared. -/
def Chip.tunnelReset (c : Chip) : Chip :=
  let x := c.tw
  let c := { c with tw := { x with txL := [], rxq := [] } }
  let c := forL x.txL (fun p c => if p.hdr.vc = 2 then c.respond 6 (fencedRsp p.hdr) else c) c
  forL x.rxq (fun p c => if p.hdr.vc = 2 then c.tunnelAnswer p.hdr stFenced else c) c

/-! ### Epochs -/

/-- The words of the FAST class and of the LOCK groups, with the fields that an epoch carries of each (R651). -/
def fastWords : List (Nat × Nat) :=
  (List.range 16).flatMap (fun r => [(0x0, 0x1F), (0x4, 0x0FFF0FFF), (0x8, 0xFFFF), (0x10, 0xFFF), (0x18, 0xFFFF0000), (0x1C, 0xFFFF),
      (0x20, 0xFF0000), (0x24, 0x1FFFF), (0x28, 0xFFFFFF), (0x2C, 0x1FFFF), (0x30, 0xFFFFFFFF), (0x34, 0xFFFFFFFF)].map
      (fun w => ((Rail.EN r).addr + w.1, w.2)))
  ++ (List.range 96).map (fun p => ((Phase.RAIL p).addr, 0x3F))
  ++ [(Board.BUDGET.addr, 0xFFFF), (Board.HYST.addr, 0xFFFF), (Plane.LOADED.addr, Plane.LOADED.mask),
      (Plane.GRP_OUT.addr, Plane.GRP_OUT.mask)]
  ++ (List.range 2).map (fun i => (Plane.base + 0x18 + 4 * i, 0x77777777))
  ++ (List.range 8).map (fun i => ((Plane.ACTg i).addr, 0xF1))
  ++ (List.range 16).map (fun g => ((Lgrp.HOLD_TMO g).addr, 0x1F0000))

/-- Set the bits `m` of a register word. -/
def Chip.setMasked (c : Chip) (a m : Nat) (w : Word) : Chip :=
  let k := BitVec.ofNat 32 m
  c.setReg a ((c.reg a &&& ~~~k) ||| (w &&& k))

/-- Apply the words of FAST and of the lock groups. -/
def Chip.applyFast (c : Chip) (img : EpochImage) : Chip :=
  forL img.regs (fun e c => match fastWords.find? (fun w => w.1 == e.1.toNat) with
    | some w => c.setMasked w.1 w.2 e.2
    | none => c) c

/-- The LOCK class as a LOCK unit. -/
def lockOf (img : EpochImage) : LockUnit :=
  let req (q : Fin 8 × Fin 128) : Nat := 128 * q.1.val + q.2.val
  let u : LockUnit :=
    { lk := img.locks.foldl (fun m e => mset {} m e.1.val
        { holder := e.2.1.map req, base := if e.2.1.isSome then e.2.2.1.val else 0, abandoned := e.2.2.2, timer := e.2.1.isSome }) [],
      waits := img.waits.map (fun w => { req := req w.2.1, lock := w.1.val, prio := w.2.2.val }),
      held := img.notices.map (fun n => { req := req n.1, kind := n.2.1.val, lock := n.2.2.1.val, result := n.2.2.2.val }),
      quar := img.quar.map (fun q => (q.1.val, q.2.map Fin.val)) }
  let reqs := ((List.range 256).filterMap (fun n => (u.lockRec n).holder) ++ u.waits.map LockWait.req).eraseDups
  let pass (u : LockUnit) : LockUnit := { u with ep := reqs.foldl (fun m q => mset 0 m q (u.calc q)) u.ep }
  forN 8 (fun _ u => pass u) u

/-- The FAST and LOCK classes of this part (R652). -/
def Chip.captureImage (c : Chip) (u : LockUnit) : EpochImage :=
  let split (q : Nat) : Fin 8 × Fin 128 := (⟨q / 128 % 8, Nat.mod_lt _ (by decide)⟩, ⟨q % 128, Nat.mod_lt _ (by decide)⟩)
  let f256 (n : Nat) : Fin 256 := ⟨n % 256, Nat.mod_lt _ (by decide)⟩
  let f16 (n : Nat) : Fin 16 := ⟨n % 16, Nat.mod_lt _ (by decide)⟩
  { regs := fastWords.map (fun w => (BitVec.ofNat 32 w.1, c.reg w.1 &&& BitVec.ofNat 32 w.2)),
    locks := u.lk.map (fun e => (f256 e.1, e.2.holder.map split, f16 e.2.base, e.2.abandoned)),
    waits := (List.range 256).flatMap (fun n => (u.queue n).map (fun w => (f256 n, split w.req, f16 w.prio))),
    notices := u.held.map (fun n => (split n.req, ⟨n.kind % 4, Nat.mod_lt _ (by decide)⟩, f256 n.lock, f16 n.result)),
    quar := u.quar.map (fun q => (⟨q.1 % 8, Nat.mod_lt _ (by decide)⟩, q.2.map (fun n => ⟨n % 49, Nat.mod_lt _ (by decide)⟩))) }

/-- A 32-bit word anywhere in the address space, as the part's own logic reads it. -/
def Chip.peek (c : Chip) (a : Nat) : Nat := if a % 2 ^ 25 < 2 ^ 24 then c.bytesAt a 4 else (c.reg a).toNat

/-- The 64-bit words of a list of 48-bit or 16-bit items packed in ascending order. -/
def packItems (w : Nat) (n : Nat) (l : List Nat) : List Nat :=
  let x := l.foldr (fun v a => v % 2 ^ w + 2 ^ w * a) 0
  (List.range n).map (fun i => x / 2 ^ (64 * i) % 2 ^ 64)

/-- A USER record's header word (R651). -/
def userHead (a n : Nat) : Nat := a % 2 ^ 32 + (n - 1) % 4096 * 2 ^ 32

/-- Epoch words from word 656 on: SEQ (R754), SWITCH (R713), SEED, USER. -/
def Chip.captureWords (c : Chip) : List Nat :=
  let seq := (c.f Seq.COUNT + c.f Dip.ROLE_EPOCH * 2 ^ 28) ::
    (packItems 48 24 ((List.range 32).map (fun j => c.f (Seq.CCj_LO j) + c.f (Seq.CCj_HI j) * 2 ^ 32))
      ++ packItems 16 32 ((List.range 128).map (fun s => (mget 0 c.seq.expect s + 65535) % 65536)) ++ List.replicate 7 0)
  let sw := (List.range 16).map c.mirrorWord ++ (c.f Sw.STAGGER + c.f Sw.MSEQ * 2 ^ 8) :: List.replicate 15 0
  let seed := (List.range 16).map (fun i =>
    let v (k : Nat) : Nat := match c.tw.seedList[k]? with | some e => c.peek e.addr | none => 0
    v (2 * i) + v (2 * i + 1) * 2 ^ 32)
  let user := c.tw.userList.flatMap (fun e => userHead e.1 e.2 :: (List.range e.2).map (fun i =>
    c.peek (e.1 + 8 * i) + c.peek (e.1 + 8 * i + 4) * 2 ^ 32))
  seq ++ sw ++ seed ++ user

/-- The Primary's DIP starts an epoch, or skips it while one is being sent (R652). -/
def Chip.epochStart (c : Chip) (u : LockUnit) : Chip :=
  if c.role = 2 && c.linkUp then
    if c.tw.sending then (c.inc Dip.EPOCH_SKIP).postTwin 4 []
    else
      let no := (c.tw.capNo + 1) % 65536
      let ws := c.captureWords
      let wlen := 656 + ws.length
      let frames := (List.range ((wlen + 13) / 14)).map (fun i => TwFrame.state no (14 * i) (min 14 (wlen - 14 * i)))
      { c with tw := { c.tw with cap := c.captureImage u, capNo := no, capWords := ws, sending := true,
                                 txS := c.tw.txS ++ frames ++ [TwFrame.fin no wlen] } }.linkPump
  else c

/-- An epoch is dropped (R653, R655). -/
def Chip.epochDrop (c : Chip) : Chip := (c.inc Dip.EPOCH_DROP).postTwin 5 []

/-- Epoch word `i`. -/
def EpochBuf.word (b : EpochBuf) (i : Nat) : Nat := (b.words[i]?).getD 0

/-- The USER records of the words from 768 on: address and data (R651). -/
def userRecs : Nat → List Nat → List (Nat × List Nat)
  | 0, _ => []
  | _, [] => []
  | k + 1, h :: ws => let n := bits h 43 32 + 1
    (bits h 31 0, ws.take n) :: userRecs k (ws.drop n)

/-- Write a run of words as PRIV WR packets of tenant T7, none across a 64-byte boundary (R654). -/
def Chip.userWrites : Nat → Chip → Nat → List Word → Chip
  | 0, c, _, _ => c
  | _, c, _, [] => c
  | k + 1, c, a, ws =>
    let n := if a % 2 ^ 25 < 2 ^ 24 then 16 - a % 64 / 4 else 1
    let here := ws.take n
    let p : Pkt := { hdr := { vc := 2, typ := 2, src := 6, dst := a / 2 ^ 25, tenant := 7, prio := 2, priv := true, offset := a % 2 ^ 25,
                              len := here.length - 1, be := 15 }, words := here }
    Chip.userWrites k (c.request 6 p .none) (a + 4 * here.length) (ws.drop n)

/-- The SWITCH class of an epoch is applied (R713); a mirror word of the same beat comes second (R730). -/
def Chip.applySwitch (c : Chip) (b : EpochBuf) : Chip :=
  let m := bits (b.word 736) 15 8
  let later := match c.sw.applied with | none => true | some a => decide ((m + 256 - a) % 256 < 128)
  if later then
    let c := forN 16 (fun n c => c.mirrorTake n (b.word (720 + n) % 2 ^ 32)) c
    let c := forN 16 (fun n c => if (c.lsw n).mirrorAt = c.clock + 1 then c.mirrorTake n (c.lsw n).mirror.toNat else c) c
    { c.hwSet Sw.STAGGER (b.word 736 % 32) with sw.applied := some m }
  else c

/-- Commit of F with what its END carried (R653, R654): the five classes are applied, the USER records issued. -/
def Chip.commitEpoch (c : Chip) (b : EpochBuf) (img : EpochImage) : Chip :=
  let c := { c.put Dip.CEPOCH b.epoch with
    tw := { c.tw with f := none, c := some { b with fin := some img }, applying := true, commit := some c.clock, lapsed := false } }.twinOk
  let c := { c.applyFast img with lockActs := c.lockActs ++ [LockAct.copy (lockOf img)] }
  let cc := ofWords ((List.range 24).flatMap (fun i => toWords 2 (b.word (657 + i))))
  let c := forN 32 (fun j c => (c.put (Seq.CCj_LO j) (cc / 2 ^ (48 * j) % 2 ^ 32)).put (Seq.CCj_HI j) (cc / 2 ^ (48 * j + 32) % 2 ^ 16)) c
  let c := c.applySwitch b
  let c := forN 32 (fun i c => match c.tw.seedList[i]? with
    | some e => c.storeBytes e.addr (toBytes 4 (b.word (752 + i / 2) / 2 ^ (32 * (i % 2))))
    | none => c) c
  forL (userRecs b.words.length (b.words.drop 768)) (fun r c =>
    let ws := r.2.flatMap (fun w => toWords 2 w)
    Chip.userWrites ws.length c r.1 ws) c

/-- Bytes of an epoch word. -/
def epochBytes (ws : List Nat) : List Nat := ws.flatMap (fun w => (List.range 8).map (fun i => w / 256 ^ i % 256))

/-- A STATE frame reaches a Shadow's epoch buffers (R653, R655). -/
def Chip.epochFrame (c : Chip) (fr : StateFrame) : Chip :=
  if c.role ≠ 3 || c.tw.take ≠ 0 then c
  else
    let no := match fr with | .data e _ _ => e.toNat | .fin e _ _ _ => e.toNat
    let c := match c.tw.f with
      | none => { c with tw.f := some { epoch := no } }
      | some b => if b.epoch = no then c else { c with tw.f := some { epoch := no } }.epochDrop
    match c.tw.f with
    | none => c
    | some b =>
      if b.fin.isSome then c
      else match fr with
        | .data _ woff ws =>
          if woff.toNat = b.words.length && !b.bad then { c with tw.f := some { b with words := b.words ++ ws.map BitVec.toNat } }
          else { c with tw.f := some { b with bad := true } }
        | .fin _ last ecrc img =>
          if !b.bad && b.words.length == last.toNat + 1 && crc32 (epochBytes b.words) == ecrc.toNat then
            if c.tw.applying then { c with tw.f := some { b with fin := some img } } else c.commitEpoch b img
          else { c with tw.f := none }.epochDrop

/-- A STATE frame arrives (R644, R653), with its ACKSEQ where its FCRC is good. -/
def Chip.stateFrame (c : Chip) (fseq : Nat) (ack : Option Nat) (fr : StateFrame) : Chip :=
  let c := match ack with | some a => c.ackFrames a | none => c
  let (new, c) := c.linkAccept fseq ack.isSome
  if new then c.epochFrame fr else c

/-- The apply of C ends; a PENDING F commits (R655). -/
def Chip.applyDone (c : Chip) : Chip :=
  if c.tw.applying then
    let c := { c with tw.applying := false }
    match c.tw.f with
    | some b => (match b.fin with | some img => if c.role = 3 && c.tw.take = 0 then c.commitEpoch b img else c | none => c)
    | none => c
  else c

/-! ### Drive, takeover and hand-over -/

/-- OWN_OUT asserts; the drive stays disabled until OWN_IN has been sampled (R637, R661). -/
def Chip.assertOut (c : Chip) : Chip :=
  { c.putB Dip.OWN_OUT true with driveOff := true, tw := { c.tw with sample := true, paused := false, outBeat := c.clock } }

/-- The part drives its PWM balls from now on: a PHASE_FORCE line that is asserted already acts (R34, R49). -/
def Chip.driveOn (c : Chip) : Chip := { c with driveOff := false }.forceAnswer

/-- A withdrawal (R661). -/
def Chip.withdraw (c : Chip) : Chip :=
  let c := { c.putB Dip.OWN_OUT false with tw := { c.tw with backoff := true, sample := false, paused := false, k := c.tw.k + 1 } }
  if 10 ≤ c.tw.k then c.postTwin 7 [] else c

/-- A part finds OWN_IN asserted while OWN_OUT is: it withdraws if it ranks lower, else waits with the drive disabled
(R637, R661). -/
def Chip.contend (c : Chip) : Chip :=
  let c := { c with driveOff := true, tw.sample := false }
  if c.lowerRank then c.withdraw else { c with tw.paused := true }

/-- A takeover decision (R656, R659 step 1, R669). -/
def Chip.decide_ (c : Chip) (cause : Nat) : Chip :=
  if c.role = 3 && c.tw.take == 0 then
    { c with tw := { c.tw with take := 1, takeCause := cause, takeBeat := c.clock, f := none, blocked := false } }
  else if c.role = 3 && c.tw.take == 1 && cause = 2 && c.tw.takeBeat == c.clock then { c with tw.takeCause := 2 }
  else c

/-- A value in ticks in the format of a SEED entry (R662). The spec does not say how an inexact duty is rounded, nor what a
full duty reads in Q1.31 or Q0.16. -/
def Chip.seedValue (c : Chip) (e : SeedEntry) (high : Nat) : Nat × Chip :=
  if e.fmt = 2 then (high, c)
  else
    let per := max 1 (c.rail e.rail).par.per
    let w := if e.fmt = 0 then 31 else 16
    let x := high * 2 ^ w
    if 2 ^ w ≤ x / per then let (v, c) := c.freeWord; (v.toNat % 2 ^ (if e.fmt = 0 then 32 else 16), c)
    else if x % per = 0 then (x / per, c)
    else let (up, c) := c.freeBit; (x / per + b2n up, c)

/-- Steps 2–4 of the **Takeover sequence** (R659, R662, R664): OWN_IN has been deasserted for 80 ns. -/
def Chip.takeGap (c : Chip) (high : List (BitVec 17)) : Chip :=
  if c.role = 3 && c.tw.take == 1 then
    let base := match c.tw.c with | some b => bits (b.word 656) 31 28 | none => c.tw.primRe
    let re := (base + 1) % 15
    let c := { c.putB Dip.OWN_IN false with tw.take := 2 }.arrayLines
    let c := { ((c.put Dip.ROLE_EPOCH re).put Seq.ROLE_EPOCH re).put Seq.COUNT 0 with seq.expect := [] }
    let c := match c.tw.c with
      | some _ => c
      | none =>
        let ro (a : Nat) : Nat := if a % 0x40 = 4 && (nodeBase 18 + 0x1000000 ≤ a && a < nodeBase 18 + 0x1000400) then 0xFFF else 0xFFFFFFFF
        let c := forL (fastWords.filter (fun w => w.1 ≠ Plane.LOADED.addr && w.1 ≠ Plane.GRP_OUT.addr)) (fun w c =>
          c.setMasked w.1 (w.2 &&& ro w.1) (mget 0 c.image w.1)) c
        forN 16 (fun r c => if c.b (Rail.EN r) then c.railStart r else c.put (Rail.VNOW r) (c.f (Rail.VSENSE r) / 2)) c
    forL c.tw.seedList (fun e c =>
      let (v, c) := c.seedValue e ((high[e.rail]?).getD 0).toNat
      c.storeBytes e.addr (toBytes 4 v)) c
  else c

/-- The new Primary drives (R659). TAKEOVER_LATE goes by the beat in which OWN_OUT asserted (R74); where no heartbeat has ever been
received there is no interval to measure, and none is posted (DESIGN CHOICE, notes/assumptions/118.md). -/
def Chip.takeDone (c : Chip) : Chip :=
  let x := c.tw
  let late := match x.lastHb with | some b => x.outBeat - b | none => 0
  let c := { (c.put Dip.ROLE 2).put Seq.COUNT 0 with
    tw := { x with take := 0, sample := false, ignoreTake := !c.b Dip.TAKE_N, capNo := match x.c with | some b => b.epoch | none => x.capNo } }.driveOn
  let c := forN 16 (fun r c =>
    if (c.b (Rail.EN r)) && c.f (Rail.VNOW r) != c.slewTo r && !(c.rail r).slewing then c.slewStart r else c) c
  let c := (forN 8 (fun p c => c.putB (Avs.ALERT p) true) c.lswTakeover)
  let c := { c with lockActs := c.lockActs ++ [LockAct.restore (match x.c with | some b => lockOf (b.fin.getD {}) | none => {})] }
  let fs := [(8, x.takeCause), (16, match x.c with | some b => b.epoch | none => 0), (8, c.f Dip.ROLE_EPOCH), (8, b2n x.c.isNone)]
  let c := { c with seq.local_ := (evCode 6 6, toWords ((packWidth 0 fs + 31) / 32) (packFields 0 fs)) :: c.seq.local_ }
  let c := if 1480 < late then c.postTwin 8 [(32, late), (8, c.f Dip.ROLE_EPOCH)] else c
  c.twinOk

/-- Steps 5 and 6: OWN_OUT asserts, and OWN_IN is deasserted or not. -/
def Chip.takeDrive (c : Chip) : Chip :=
  if c.role = 3 && c.tw.take == 2 && !c.b Dip.OWN_OUT && !c.tw.backoff then
    let c := c.assertOut
    if c.b Dip.OWN_IN then c.contend else c.takeDone
  else c

/-- OWN_IN is sampled: 16 ns after OWN_OUT asserted (R661); or, during qualification, it stays asserted (R660). -/
def Chip.ownSample (c : Chip) (level : Bool) : Chip :=
  let c := c.putB Dip.OWN_IN level
  if c.tw.take = 1 then
    if level && !c.tw.blocked then { c with tw.blocked := true }.postTwin 7 [] else c
  else if c.tw.sample && c.b Dip.OWN_OUT then
    let c := { c with tw.sample := false }
    if level then c.contend
    else
      if c.tw.take = 2 then c.takeDone else c.driveOn
  else c

/-- OWN_IN asserts (R637, R648, R671). -/
def Chip.ownAssert (c : Chip) : Chip :=
  let c := c.putB Dip.OWN_IN true
  if c.tw.negotiating then c.negotiate
  else if c.tw.sample && c.driveOff then c
  else if c.b Dip.OWN_OUT && !c.driveOff then c.contend
  else if c.role = 2 && !c.driving && !c.tw.paused then c.becomeShadow.postTwin 10 []
  else c

/-- OWN_IN has been deasserted for 80 ns (R637). -/
def Chip.ownDeassert (c : Chip) : Chip :=
  let c := c.putB Dip.OWN_IN false
  if c.tw.paused && c.b Dip.OWN_OUT then
    let c := { c with tw.paused := false }
    if c.tw.take = 2 then c.takeDone else c.driveOn
  else c

/-- The back-off after a withdrawal ends (R661). -/
def Chip.withdrawRetry (c : Chip) : Chip :=
  if c.tw.backoff then { c with tw.backoff := false }.assertOut else c

/-- TAKE_N asserts (R656, R657, R669). -/
def Chip.takeN (c : Chip) : Chip :=
  let c := c.putB Dip.TAKE_N false
  if c.tw.ho = 2 || c.pref = 0 then c
  else if c.role = 3 then c.decide_ 2
  else if c.role = 2 && !c.tw.ignoreTake then c.becomeShadow
  else c

/-- A write of 1 to HANDOVER (R658). -/
def Chip.handover (c : Chip) (u : LockUnit) : Chip :=
  if c.role = 2 && c.linkUp && c.tw.ho = 0 then
    let c := c.epochStart u
    { c with tw.ho := 1, tw.hoEpoch := c.tw.capNo }
  else c

/-- Step 2 of R658. -/
def Chip.handoverDrop (c : Chip) : Chip :=
  { (c.putB Dip.OWN_OUT false).putB Dip.TAKE_N false with tw.ho := 2 }

/-- 500 ns later the old Primary releases TAKE_N and is SHADOW (R658 step 3). -/
def Chip.handoverRelease (c : Chip) : Chip :=
  if c.tw.ho = 2 then (c.putB Dip.TAKE_N true).becomeShadow else c

/-! ### Heartbeats -/

/-- The heartbeat word (R641). -/
def Chip.heartbeatWord (c : Chip) : Nat :=
  let rx := match c.tw.lastHb with | some b => decide (c.clock - b ≤ 800) | none => false
  c.role + c.f Dip.ROLE_EPOCH * 2 ^ 4 + c.f Dip.PREF * 2 ^ 8 + b2n rx * 2 ^ 10 + b2n (c.tw.ho != 0) * 2 ^ 11
    + c.f Dip.CEPOCH * 2 ^ 16 + c.f Dip.CEIL_CRC * 2 ^ 32

/-- A HEARTBEAT is sent, in every link state but DOWN (R646). -/
def Chip.heartbeatSend (c : Chip) : Chip :=
  if c.f Dip.LINK = 0 then c
  else { c with tw.sent := some (c.heartbeatWord, c.f Id.UID_LO + c.f Id.UID_HI * 2 ^ 32) }

/-- A good HEARTBEAT is received (R66, R648, R649, R658, R660, R670, R671). -/
def Chip.heartbeat (c : Chip) (w uid : Nat) : Chip :=
  if c.f Dip.LINK = 0 then c
  else
    let role := bits w 3 0
    let c := { ((((c.put Dip.TWIN_CEPOCH (bits w 31 16)).put Dip.TWIN_CEIL_CRC (bits w 63 32)).put (Dip.TWIN_UID 0) (uid % 2 ^ 32)).put
      (Dip.TWIN_UID 1) (uid / 2 ^ 32)) with
      tw := { c.tw with lastHb := some c.clock, hbWord := w, primRe := if role = 2 then bits w 7 4 else c.tw.primRe } }
    let c := c.negotiate
    let differ := bits w 63 32 != c.f Dip.CEIL_CRC
    let c := if differ && c.role = 3 && c.tw.take != 2 then
        ({ (c.put Dip.ROLE 4) with tw := { c.tw with mismatch := true, take := 0 } }.postTwin 3 []).twinOk
      else if differ && c.role = 2 && role = 4 && !c.tw.mismatch then { c with tw.mismatch := true }.postTwin 3 []
      else if !differ then { c with tw.mismatch := false } else c
    let c := if c.tw.take = 1 && role = 2 then { c with tw.take := 0 } else c
    let c := if c.tw.ho = 1 && role = 3 && bits w 31 16 == c.tw.hoEpoch then c.handoverDrop else c
    if c.role = 2 && role = 2 && bits w 7 4 == (c.f Dip.ROLE_EPOCH + 1) % 15 then c.becomeShadow.postTwin 10 [] else c.twinOk

/-- The link reaches UP on a HEARTBEAT with RXOK (R642). -/
def Chip.linkUpOn (c : Chip) (w uid : Nat) : Chip :=
  if c.f Dip.LINK = 1 && bit w 10 then
    (({ (c.put Dip.LINK 2) with tw := { c.tw with fseq := 0, expect := 0, nak := none, ctl := none } }.heartbeat w uid).twinOk).linkPump
  else c

/-- No heartbeat has arrived for 1,280 beats: a Shadow decides (R66, R656). -/
def Chip.primarySilent (c : Chip) : Chip := c.decide_ 1

/-- TWIN_OK lapses (R666). -/
def Chip.twinLapse (c : Chip) : Chip := if c.role = 3 then { c with tw.lapsed := true }.twinOk else c

end Sys2Proof.Machine
end

