-- ==== Sys2Proof/Machine/RegWrite.lean ====
section
/-! DEFINITION. Writing one word of a register block: access codes, sealed fields, reserved encodings, ranges and ceiling
clamps (R9–R12, R24, R38), and what the write sets going in the block that holds the word. Rights are judged before
(Sys2Proof/Machine/Bus.lean). -/

namespace Sys2Proof.Machine

open Reg

/-- Where a write comes from: SRC, TENANT and PRIV of its header, the AVSBus port whose commit it is (R104), or CFG
applying an image record at step S8 (R815). -/
structure Who where
  src : Nat := 0
  tenant : Nat := 0
  priv : Bool := false
  port : Option Nat := none
  img : Bool := false
  deriving DecidableEq, Repr

/-! ### Values that a field does not take as written -/

/-- The value is a reserved encoding of the field at bit `lo` of word `o` (R11): UV_DLY 15 and SP_OWNER 1–7 of a
rail, MAP.STATE 3, VIN_UV above 110, OUT_MODE 3 and a GROUP past channel 7, ILIM and ILIM_MAX above 34, DT_LIM above 16, SAFE_ACT 3,
MODE 3, counter SEL 15, VDDG codes of 31. -/
def reservedCode (b : Blk) (o lo v : Nat) : Bool :=
  match b with
  | .rail _ => o == 0 && ((lo == 14 && v == 15) || (lo == 1 && decide (0 < v) && decide (v < 8)))
  | .board => o == 0xC && lo == 0 && decide (110 < v)
  | .phase _ => o == 0 && lo == 4 && v == 3
  | .gport _ => decide (o < 0x20) && ((lo == 0 && v == 3) || (lo == 2 && decide (7 < o / 4 + v)))
  | .lsw _ => (o == 0 && ((lo == 10 && decide (16 < v)) || (lo == 15 && v == 3)))
      || (o == 4 && (lo == 0 || lo == 8) && decide (34 < v)) || (o == 8 && lo == 0 && v == 3)
  | .ni => decide (0x600 ≤ o) && decide (o < 0x640) && o % 16 == 0 && lo == 0 && v == 15
  | .garr => o == 0 && (lo == 0 || lo == 8) && v == 31
  | _ => false

/-- The nearest end of a field's range (R83 PER, R355 ROUND_LEN and STALL_MAX, R249 RATE, R258 timeouts, R572 TEN_TMO,
R600 NBUF). -/
def rangeEnd (b : Blk) (o lo v : Nat) : Nat :=
  match b with
  | .rail _ => if o = 0x24 then perOf v else v
  | .plane => if o = 0 then (if lo = 0 then clampN 256 4096 v else clampN 1 64 v) else v
  | .ni => if o = 4 then max 256 v else if o = 8 then max 3200 v
      else if 0x80 ≤ o ∧ o < 0xC0 ∧ o % 8 = 0 ∧ lo = 0 then min 1024 v else v
  | .tenant _ => if o = 4 ∧ lo = 0 then max 10 v else if o = 0xC ∧ lo = 0 then clampN 8 128 v else v
  | _ => v

/-- The sealed ceiling of a field of the **Fields clamped to a sealed ceiling** table, as it stands (R38). -/
def Chip.ceilingOf (c : Chip) (b : Blk) (o lo : Nat) : Option Nat :=
  match b with
  | .rail r =>
    if o = 4 ∧ lo = 0 then some (c.f (Rail.VOUT_MAX r))
    else if o = 8 ∧ lo < 16 then some (c.f (Rail.SLEW_MAX r))
    else if (o = 0x18 ∧ lo = 16) ∨ (o = 0x1C ∧ lo = 0) then some (c.f (Rail.IOUT_MAX r))
    else none
  | .phase _ => none
  | .sense p => if o = 4 ∧ lo = 12 then some (c.f (Sense.IPH_MAX p)) else none
  | .board => if o = 0 ∧ lo = 0 then some (c.f Board.BUDGET_MAX) else none
  | _ => none

/-- A field that no write changes whatever its access code: PORT of the tenants whose attachment is fixed (R569). -/
def fixedField (b : Blk) (o lo : Nat) : Bool :=
  match b with
  | .tenant t => t != 1 && t != 2 && o == 0 && lo == 0
  | _ => false

/-- The fields of a word that a write can reach. -/
def writeRows (a : Nat) : List FieldRow :=
  match blkOf (a / 0x2000000) (a % 0x2000000) with
  | some (b, o) => (fieldsAt a).filter (fun r => !fixedField b o r.lo)
  | none => fieldsAt a

/-- The value a writable field takes from a written word. -/
def Chip.written (c : Chip) (b : Blk) (o old w : Nat) (r : FieldRow) : Nat :=
  let v := bits w r.hi r.lo
  if reservedCode b o r.lo v then bits old r.hi r.lo
  else
    let v := rangeEnd b o r.lo v
    match c.ceilingOf b o r.lo with
    | some m => min m v
    | none => v

/-- The word after a write: each field by its access code (table *Access codes*); an RWL field stays when `locked` (R12); CFG
gives a field whose Reset entry is "image" its value whatever its code (R815). `hw` are the bits that the hardware has updated in the same
beat: such a bit of a W1C field stays set, and such an RW field keeps the hardware's value (R21, R22). -/
def Chip.newWord (c : Chip) (b : Blk) (o : Nat) (rows : List FieldRow) (locked img : Bool) (hw old w : Nat) : Nat :=
  rows.foldl (fun n r =>
    match r.acc with
    | .rw => if bits hw r.hi r.lo ≠ 0 then n else setBits n r.hi r.lo (c.written b o old w r)
    | .rwl => if locked then n else setBits n r.hi r.lo (c.written b o old w r)
    | .w1c => setBits n r.hi r.lo (bits old r.hi r.lo &&& (2 ^ (r.hi + 1 - r.lo) - 1 - bits w r.hi r.lo ||| bits hw r.hi r.lo))
    | .wo => n
    | .ro => if img && r.rst == .image then setBits n r.hi r.lo (bits w r.hi r.lo) else n) old

/-- The write would change a write-locked field of the word (R12, R898). -/
def sealHit (rows : List FieldRow) (old w : Nat) : Bool :=
  rows.any (fun r => r.acc == .rwl && bits w r.hi r.lo != bits old r.hi r.lo)

/-- CEILING_CLAMP for every field of the word that the write left below the value written (R38). -/
def Chip.clampPosts (c old : Chip) (b : Blk) (o : Nat) (rows : List FieldRow) (w tenant : Nat) : Chip :=
  forL rows (fun r c =>
    match old.ceilingOf b o r.lo with
    | none => c
    | some m =>
      if r.acc == .rw && !reservedCode b o r.lo (bits w r.hi r.lo) && decide (m < bits w r.hi r.lo) then
        match b with
        | .rail r => c.ceilClamp 18 r tenant
        | .sense p => c.ceilClamp (if p < 48 then 16 else 18) p tenant
        | _ => c.ceilClamp 18 0 tenant
      else c) c

/-! ### What a write sets going -/

/-- A map change is requested (R36, R47, R48); a reserved STATE leaves the state that the map has. It is not visible
before it takes effect. -/
def Chip.mapWrite (c : Chip) (p w : Nat) : Chip :=
  let s := bits w 5 4
  c.setPhase p { c.phase p with pend := some (w % 16, if s = 3 then c.f (Phase.STATE p) else s), deferred := (c.phase p).force }

/-- A rail is enabled, or restarted (R108): in STANDBY and on the way there or to DEEP only a rail with STBY_KEEP starts, and in
STANDBY it passes to the fallback law (R901, R904). -/
def Chip.railEnable (c : Chip) (r : Nat) : Chip :=
  if c.f Power.STATE = 0 then c.railStart r
  else if c.pw.mode = .run && c.b (Rail.STBY_KEEP r) then
    let c := c.railStart r
    if c.f Power.STATE = 1 then (c.fallRail r c.clock).grpOut else c
  else (c.setRail r { c.rail r with off := true }).realloc

/-- EN of a rail is cleared (R109): a rail that is held off has no ramp to run. -/
def Chip.railDisable (c : Chip) (r : Nat) : Chip :=
  if (c.rail r).off then (c.setRail r { c.rail r with off := false }).realloc else c.railStop r

/-- STATUS.RESTART of a rail (R129): the latch, its cause and the over-voltage count clear; an enabled rail starts under R108,
and latches again at once where the cause of a latch holds. -/
def Chip.railRestart (c : Chip) (r : Nat) : Chip :=
  let c := ((c.putB (Rail.OFF_LATCHED r) false).put (Rail.OV_COUNT r) 0).put (Rail.OFF_CAUSE r) 0
  if c.b (Rail.EN r) then (c.railEnable r).relatch r else c.realloc

/-- A command of the configuration block (R844). -/
def Chip.gcfgCmd (c : Chip) (w : Nat) : Chip :=
  let r := bits w 10 8
  match w % 16 with
  | 0 => c
  | 1 => c.gWcfg
  | 2 => c.gRcfg
  | 3 => c.gStart
  | 4 => c.gShutdownCmd
  | 5 => c.gRestore
  | 6 => c.overBegin r
  | 7 => c.overEnd r
  | _ => c.cmdErr

/-- Control word of the plane block (R345, R347, R348): status. -/
def Chip.planeCtl (c : Chip) (w : Nat) : Nat × Chip :=
  let sel := bits w 13 12
  if bit w 9 && !schedHeld c.pw.img sel then (stDenied, (c.planeSwitch sel false).2)
  else
    let c := c.put Plane.CTL_SEL sel
    let c := if bit w 8 then c.planeRestart else c
    (stOk, if bit w 9 then (c.planeSwitch sel true).2 else c)

/-- Control word of the twin block (R642, R652, R658). -/
def Chip.dipCtl (c : Chip) (u : LockUnit) (w : Nat) : Chip :=
  let c := if bit w 0 then c.linkDown .soft else c
  let c := if bit w 1 then c.handover u else c
  if bit w 2 then c.epochStart u else c

/-- The request is the HUB's, for an AVSBus tenant (R567). -/
def Who.avs (q : Who) : Bool := q.src == 0 && decide (3 ≤ q.tenant) && decide (q.tenant ≤ 6)

/-- SP_OWNER of a rail has changed: an AVSBus write of VSET that was performed in the same beat is judged against the new owner, so it is
undone, and its response says NOT_OWNER (R142, R631). -/
def Chip.ownerMoved (c : Chip) (r : Nat) : Chip :=
  let x := mget {} c.rl.vset r
  if x.beat = c.clock + 1 then
    let c := ((c.setReg (Rail.VSET r).addr x.word).setRail r x.rail).updDroop r
    let c := { c with rl.vset := mset {} c.rl.vset r {} }
    let i := c.ni 18
    c.setNi 18 { i with rsp := i.rsp.map (fun p =>
      if p.hdr.dst = 0 && p.hdr.typ == 7 && p.hdr.status == stOk && p.hdr.offset == (Rail.VSET r).addr % 0x2000000 then
        { p with hdr := { p.hdr with status := stNotOwner } } else p) }
  else c

/-- What a write of word `o` of block `b` of node `n` does beside the values it stores; `old` is the chip before the write. -/
def Chip.afterWrite (c old : Chip) (u : LockUnit) (b : Blk) (n o w : Nat) (q : Who) : Chip :=
  match b with
  | .tenant t => if o = 0x20 && bit w 0 then c.tenantReset t
      else if o = 0x1C && !old.pendingFault t && c.pendingFault t then c.newCause t 3
      else c
  | .avs _ => c
  | .port _ => c
  | .fslot _ => c
  | .dq => c
  | .sense _ => c
  | .tmon _ => c
  | .mirror _ => c
  | .lgrp _ => c
  | .lunit => c
  | .ident => c
  | .img => c
  | .plane => c
  | .power => c
  | .nvc => c
  | .dqx _ => c
  | .tile => c
  | .phase p => if o = 8 && old.b (Phase.OC_LATCHED p) && !c.b (Phase.OC_LATCHED p) then c.ocCleared p else c
  | .rail r =>
    if o = 0 then
      let c := if old.f (Rail.SP_OWNER r) = c.f (Rail.SP_OWNER r) then c else c.ownerMoved r
      if old.b (Rail.EN r) && !c.b (Rail.EN r) then c.railDisable r
      else if !old.b (Rail.EN r) && c.b (Rail.EN r) && c.b Power.SEALED && !q.img then c.railEnable r
      else c
    else if o = 4 then
      let c := if q.avs then { c with rl.vset := mset {} c.rl.vset r ⟨c.clock + 1, old.reg (Rail.VSET r).addr, old.rail r⟩ } else c
      if old.f (Rail.VSET r) = c.f (Rail.VSET r) then c else c.vsetChanged r
    else if o = 0x20 then (if old.f (Rail.SHARE r) = c.f (Rail.SHARE r) then c else c.realloc)
    else if o = 0x38 && bit w 31 then c.railRestart r
    else c
  | .board =>
    if old.f Board.BUDGET ≠ c.f Board.BUDGET ∨ old.f Board.BUDGET_MAX ≠ c.f Board.BUDGET_MAX ∨ old.f Board.HYST ≠ c.f Board.HYST then
      c.realloc else c
  | .lsw k =>
    if o = 8 then
      if bit w 8 then c.latchClr k q.tenant old else c.lswDone old k false
    else c.lswDone old k false
  | .sw => if o = 4 then c.wdtKick w else c
  | .gport g =>
    if o < 0x20 then c.setFull g (o / 4)
    else if 0x80 ≤ o && o < 0xA0 then c.chanWriteBe g ((o - 0x80) / 4) (w % 65536)
    else if o = 0xA4 then forN 8 (fun k c => if bit w k then c.snapReq g k else c) c
    else c
  | .garr => if o = 0 && w % 32 != 31 then c.vddgWrite (w % 32) (old.f Garr.VDDG_MIN) (old.f Garr.VDDG_SET) else c
  | .gcfg => if o = 0 then c.gcfgCmd w else c
  | .dip => if o = 0 then c.dipCtl u w else c
  | .lst k => if o = 4 && bit w 0 then c.lockAct (.force k) else c
  | .seq => if o = 0x204 && bit w 0 then c.ccClr else c
  | .skb => if o = 4 && bit w 0 then c.persist else c
  | .trc k =>
    if o < 8 then c.traceRestart k
    else if o = 8 then c.traceWrite k w
    else if o = 0xC && bit w 0 then c.flush k
    else c
  | .ni =>
    if o = 0x644 && bit w 0 then c.bankClr n else c

/-! ### A word that a block judges itself -/

/-- Words whose writes are judged by the block: status and effect; none for every other word. -/
def Chip.ownWrite (c : Chip) (b : Blk) (n o w : Nat) (locked : Bool) (q : Who) : Option (Nat × Chip) :=
  match b with
  | .phase p => if q.img then none else if o = 4 then some (stOk, if bits (mget 0 c.hwBits (Phase.TON p).addr) 16 0 ≠ 0 then c else c.dutyWrite p (bits w 16 0))
      else if o = 0 then some (stOk, c.mapWrite p w) else none
  | .tenant t => if o = 0x10 then some (stOk, c.tailWrite t (bits w 15 8)) else none
  | .seq => if 0x100 ≤ o && o < 0x180 && o % 32 == 8 then some (stOk, c.evrTail ((o - 0x100) / 32) (bits w 31 16)) else none
  | .gcfg => if o = 8 then some (c.fdata (BitVec.ofNat 32 w)) else if o = 0x44 then some (c.plData w) else none
  | .nvc =>
    if o = 0 then some (c.nvCmd q.priv q.tenant w)
    else if 0x100 ≤ o && c.b Nvc.BUSY then some (stBusy, c)
    else none
  | .img => if o = 0x18 then some (c.keyCmd (w % 4)) else none
  | .plane => if o = 4 then some (c.planeCtl w) else none
  | .mirror k => some (stOk, c.mirrorApply k w)
  | .fslot _ => some (stOk, c)
  | .tile => if o = 8 then
      some (stOk, if pNodes.contains n then
        let t := tileAt n
        c.raiseLine t (w / 65536 * 65536) else c)
    else none
  | .lsw k => if o = 4 then
      let a := Lsw.base k + 4
      let d := c.setReg a (BitVec.ofNat 32 (c.newWord b 4 ((fieldsAt a).filter (fun r => r.lo != 8)) locked q.img (mget 0 c.hwBits a) (c.reg a).toNat w))
      let hit := locked && sealHit (fieldsAt a) (c.reg a).toNat w
      some (if hit then stSealed else stOk,
        if 34 < bits w 13 8 || bits (mget 0 c.hwBits a) 13 8 != 0 then d.lswDone c k false
        else
          let e := d.put (Lsw.ILIM k) (min (bits w 13 8) (c.f (Lsw.ILIM_MAX k)))
          (if c.f (Lsw.ILIM_MAX k) < bits w 13 8 then e.ceilClamp 18 k q.tenant else e).lswDone c k false)
    else none
  | .ni =>
    if 0x104 ≤ o && o < 0x300 && o % 8 == 4 then
      if locked then
        some (if sealHit (fieldsAt (niBase n + o)) (c.reg (niBase n + o)).toNat w then stSealed else stOk, c)
      else some (c.routeWrite n ((o - 0x104) / 8) w)
    else if o = 0xC then some (stOk, if bit w 0 then c.setNi n { c.ni n with rstDue := true } else c)
    else none
  | _ => none

/-- A write of word `off` of node `n` is performed: its status (OK, SEALED, or what the block itself answers), and the
chip after it (R11, R12, R24, R38). DEDUCED: a field is clamped against the ceiling that stood before the write, also where the write's own word holds it. -/
def Chip.regWrite (c : Chip) (u : LockUnit) (n off w : Nat) (locked : Bool) (q : Who) : Nat × Chip :=
  match blkOf n off with
  | none => (stAddr, c)
  | some (b, o) =>
    match c.ownWrite b n o w locked q with
    | some x => x
    | none =>
      let a := nodeBase n + off
      let rows := writeRows a
      let old := (c.reg a).toNat
      let d := c.setReg a (BitVec.ofNat 32 (c.newWord b o rows locked q.img (mget 0 c.hwBits a) old w))
      let d := d.clampPosts c b o rows w q.tenant
      (if locked && sealHit (fieldsAt a) old w then stSealed else stOk,
       d.afterWrite c u b n o w q)

end Sys2Proof.Machine
end

