-- ==== Sys2Proof/Machine/Loader.lean ====
section
/-! DEFINITION. CFG's loader: applying an image's records, policies and schedules, relocation, and the load checks (R350–R354,
R815–R819, R826, R898, R899). -/

namespace Sys2Proof.Machine

open Reg

/-! ### Records -/

/-- A record would change, or changes, a word; POWER.SEAL_HELD counts it where a write-locked field stays (R898). -/
def Chip.sealHeld (c : Chip) : Chip := c.inc Power.SEAL_HELD

/-- CFG applies a register record (R815): a PRIV write of (word & ~MASK) | (VALUE & MASK). Write-locked fields stay while
`locked`; `count` counts the records that would have changed one (R898). The values that image records gave are kept
for later returns to Reset. While RETAINED reads 1 a channel keeps its MODE (R710). -/
def Chip.applyRec (c : Chip) (u : LockUnit) (locked count : Bool) (x : Nat × Nat × Nat) : Chip :=
  let a := x.1
  let old := (c.reg a).toNat
  let w := (old &&& (2 ^ 32 - 1 - x.2.1 % 2 ^ 32)) ||| (x.2.2 &&& x.2.1)
  let rows := writeRows a
  if c.b Sw.RETAINED && (match blkOf (a / 0x2000000) (a % 0x2000000) with | some (.lsw _, 8) => true | _ => false) then c else
  let c := if count && locked && sealHit rows old w then c.sealHeld else c
  let c := (c.regWrite u (a / 0x2000000) (a % 0x2000000) w locked { src := 31, priv := true, img := true }).2
  if rows.any (fun r => r.rst == .image) then { c with image := mset 0 c.image a (c.reg a) } else c

/-- The register records of a section, in order. -/
def Chip.applyRecs (c : Chip) (u : LockUnit) (locked count : Bool) (l : List (Nat × Nat × Nat)) : Chip :=
  forL l (fun x c => c.applyRec u locked count x) c

/-- CFG applies a route record (R290, R816, R898). -/
def Chip.applyRoute (c : Chip) (locked : Bool) (x : Nat × Nat × Nat × Nat) : Chip :=
  let n := x.1
  let e := x.2.1
  let a := (Ni.ROUTEe_LO n e).addr
  if locked then
    if (c.reg a).toNat ≠ x.2.2.1 || sealHit (fieldsAt (a + 4)) (c.reg (a + 4)).toNat x.2.2.2 then c.sealHeld else c
  else
    let c := ((c.put (Ni.ROUTE_STAGE n) x.2.2.1).routeWrite n e x.2.2.2).2
    { c with image := mset 0 (mset 0 c.image a (c.reg a)) (a + 4) (c.reg (a + 4)) }

/-- The bytes of a range of addresses read 0 from now on. -/
def Chip.clearMem (c : Chip) (a n : Nat) : Chip :=
  let out (k : Nat) : Bool := decide (k < a) || decide (a + n ≤ k)
  { c with mem := c.mem.filter (fun e => out e.1), ecc := c.ecc.filter (fun e => out e.1) }

/-- The POLICY section of P tile `p` is copied (R817). -/
def Chip.loadPolicy (c : Chip) (p : Nat) (d : List Byte) : Chip :=
  let n := natAt pNodes p
  let imem := nodeBase n
  let dmem := nodeBase n + 0x100000
  let il := imgAt d 4 4
  let dl := imgAt d 8 4
  let c := (c.clearMem imem 0x10000).clearMem dmem 0x20000
  let c := (c.setBytes imem ((d.drop 16).take il)).setBytes dmem ((d.drop (16 + (il + 7) / 8 * 8)).take dl)
  let c := c.put (Tile.ENTRY n) (imgAt d 0 2)
  { c with image := mset 0 c.image (Tile.ENTRY n).addr (c.reg (Tile.ENTRY n).addr) }

/-- The epoch lists of the POLICY section of INDEX 8 (R651, R818). -/
def Chip.loadEpochLists (c : Chip) (d : List Byte) : Chip :=
  { c with tw.seedList := (seedRecs d).map (fun e => { addr := nodeBase e.1 + 0x100000 + e.2.2.2, rail := e.2.1, fmt := e.2.2.1 }),
           tw.userList := userListOf d }

/-! ### Schedules -/

/-- Bytes of a space of a node: instruction memory, data memory, slot table; none where the node has no such space. -/
def spaceSize (n space : Nat) : Option Nat :=
  if 48 < n then none
  else if space = 2 then some 512
  else if eNodes.contains n then (if space = 0 then some 16384 else if space = 1 then some 32768 else none)
  else if pNodes.contains n then (if space = 0 then some 65536 else if space = 1 then some 131072 else none)
  else none

/-- A schedule as the loader works on it: slot-table bytes by 512 × node + offset, beside the chip; the first failing check so
far, as code, node and entry. -/
structure Load where
  chip : Chip := {}
  slots : Map Byte := []
  bad : Option (Nat × Nat × Nat) := none

/-- A check fails; the first failure stands. -/
def Load.fail (x : Load) (code n e : Nat) : Load := if x.bad.isSome then x else { x with bad := some (code, n, e) }

/-- Store bytes of a slot table. -/
def slotBytes (m : Map Byte) (a : Nat) : List Byte → Map Byte
  | [] => m
  | b :: bs => slotBytes (mset 0 m a b) (a + 1) bs

/-- Where a space of a node begins: its global address, for a slot table its place in `Load.slots`. -/
def spaceBase (n space : Nat) : Nat := if space = 0 then nodeBase n else if space = 1 then nodeBase n + 0x100000 else 512 * n

/-- One chunk (R819): copied, or its register records applied; a chunk of no legal space fails check 1. -/
def Load.chunk (u : LockUnit) (locked count : Bool) (d : List Byte) (i : Nat) (k : Chunk) (x : Load) : Load :=
  if k.space = 3 then { x with chip := x.chip.applyRecs u locked count (chunkRecs k) }
  else
    match spaceSize k.vnode k.space with
    | none => x.fail 1 k.vnode i
    | some size =>
      if size < k.off + k.data.length then x.fail 1 k.vnode i
      else
        let n := vmapOf d k.vnode
        if spaceSize n k.space ≠ some size then x
        else if k.space = 2 then { x with slots := slotBytes x.slots (512 * n + k.off) k.data }
        else { x with chip := x.chip.storeBytes (spaceBase n k.space + k.off) k.data }

/-- Width of the field a relocation replaces (R352). -/
def relocWidth (kind : Nat) : Nat :=
  if kind = 1 then 7 else if kind = 2 then 12 else if kind = 3 then 32 else if kind = 4 then 6 else 0

/-- A field names a node outside 0–48 and 64–112 (R352). -/
def badField (node : Nat) : Bool := decide (48 < node % 64)

/-- The patched value (R352); none where the field names no node. -/
def relocValue (c : Chip) (d : List Byte) (r : Reloc) (x : Nat) : Option Nat :=
  match r.kind with
  | 1 => if badField x then none else some (x / 64 * 64 + vmapOf d (x % 64) % 64)
  | 2 => some ((x + fragBase d r.frag) % max 1 (c.f Plane.ROUND_LEN))
  | 3 => if badField (x / 2 ^ 25) then none
         else some ((vmapOf d (x / 2 ^ 25 % 64) + 64 * (x / 2 ^ 31)) % 128 * 2 ^ 25 + x % 2 ^ 25)
  | _ => some (if x ≤ 48 then vmapOf d x % 64 else x)

/-- One relocation record (R351–R353); an illegal one fails check 1. -/
def Load.reloc (d : List Byte) (i : Nat) (r : Reloc) (x : Load) : Load :=
  let w := relocWidth r.kind
  match spaceSize r.vnode r.space with
  | none => x.fail 1 r.vnode i
  | some size =>
    if w = 0 || 32 < r.lsb + w || r.off % 4 ≠ 0 || size ≤ r.off then x.fail 1 r.vnode i
    else
      let n := vmapOf d r.vnode
      if spaceSize n r.space ≠ some size then x
      else
        let a := spaceBase n r.space + r.off
        let word := if r.space = 2 then ofBytes ((List.range 4).map (fun j => mget 0 x.slots (a + j))) else x.chip.bytesAt a 4
        match relocValue x.chip d r (bits word (r.lsb + w - 1) r.lsb) with
        | none => x.fail 1 r.vnode i
        | some v =>
          let bs := toBytes 4 (setBits word (r.lsb + w - 1) r.lsb v)
          if r.space = 2 then { x with slots := slotBytes x.slots a bs } else { x with chip := x.chip.storeBytes a bs }

/-- Word `k` of a slot entry as loaded, its reserved bits 0. -/
def Load.slotWord (x : Load) (n i k : Nat) : Nat :=
  ofBytes ((List.range 4).map (fun j => mget 0 x.slots (512 * n + 8 * i + 4 * k + j))) % (if k = 0 then 2 ^ 32 else 2 ^ 16)

/-- CFG writes the slot tables (R307): every entry of every node. Under SEAL at step S8 the entries stay, and each that would
have changed is counted (R898). -/
def Chip.putSlots (c : Chip) (x : Load) (keep : Bool) : Chip :=
  forN 49 (fun n c => forN 64 (fun i c => forN 2 (fun k c =>
    let a := (Slot.BEAT n i).addr + 4 * k
    let v := BitVec.ofNat 32 (x.slotWord n i k)
    if keep then (if k = 0 && ((c.reg a) != v || (c.reg (a + 4)) != BitVec.ofNat 32 (x.slotWord n i 1)) then c.sealHeld else c)
    else { c.setReg a v with image := mset 0 c.image a v }) c) c) c

/-! ### Load checks -/

/-- First node and entry of the slot tables that fail a check. -/
def firstEntry (bad : Nat → Nat → Bool) : Option (Nat × Nat) :=
  ((List.range 49).flatMap (fun n => (List.range 64).map (fun i => (n, i)))).find? (fun p => bad p.1 p.2)

/-- Check 2 (R350): the first node that the map does not send to a node of its kind, one to one. -/
def vmapBad (d : List Byte) : Option Nat :=
  (List.range 49).find? (fun n =>
    let v := vmapOf d n
    (if eNodes.contains n then !eNodes.contains v else v != n) || (List.range n).any (fun m => vmapOf d m == v))

/-- A TX or RX code of SEL is legal at a node (R308). -/
def selLegal (n kind sel : Nat) : Bool :=
  let e := eNodes.contains n
  let g := gNodes.contains n
  if kind = 1 then (if sel ≤ 2 then e else if sel = 3 then n == 16 || n == 18 else sel == 4 && g)
  else if kind = 2 then (if sel ≤ 1 then e else if sel ≤ 3 then g else sel == 4 && wNodes.contains n)
  else false

/-- The entry is not OFF. -/
def Chip.used (c : Chip) (n i : Nat) : Bool := c.f (Slot.KIND n i) != 0

/-- Check 3 RANGE (R308, R311). -/
def Chip.badRange (c : Chip) (n i : Nat) : Bool :=
  c.used n i &&
    (decide (c.f Plane.ROUND_LEN ≤ c.f (Slot.BEAT n i)) || decide (48 < c.f (Slot.PEER n i))
      || !selLegal n (c.f (Slot.KIND n i)) (c.f (Slot.SEL n i))
      || (c.f (Slot.KIND n i) == 1 && c.f (Slot.SEL n i) == 3 && decide ((if n = 16 then 23 else 25) < c.f (Slot.LINK n i))))

/-- The plane beats in which a TX entry injects. -/
def Chip.txBeats (c : Chip) (n i : Nat) : List Nat :=
  let b := c.f (Slot.BEAT n i)
  if c.b (Slot.LEN2 n i) then [b, (b + 1) % max 1 (c.f Plane.ROUND_LEN)] else [b]

/-- Check 4 ORDER. -/
def Chip.badOrder (c : Chip) (n i : Nat) : Bool :=
  c.used n i &&
    ((decide (0 < i) && (!c.used n (i - 1) || decide (c.f (Slot.BEAT n i) < c.f (Slot.BEAT n (i - 1)))))
      || (c.isTx n i && c.b (Slot.LEN2 n i) && (List.range 64).any (fun j =>
        j != i && c.isTx n j && (c.txBeats n j).any (fun b => (c.txBeats n i).contains b))))

/-- Moves of a route. -/
def routeHops (route : Nat) : Nat := ((routeCodes route).takeWhile (· != 0)).length

/-- Check 5 ROUTE. -/
def Chip.badRoute (c : Chip) (n i : Nat) : Bool :=
  c.isTx n i && (match c.route n (c.f (Slot.RTE n i)) with
    | none => true
    | some r => followRoute n (routeCodes r) != some (c.f (Slot.PEER n i)) || routeHops r != c.f (Slot.HOPS n i))

/-- RX entry `j` of node `m` is the partner of TX entry `i` of node `n` (R315, R336). -/
def Chip.partner (c : Chip) (n i m j : Nat) : Bool :=
  c.isTx n i && c.isRx m j && c.f (Slot.PEER n i) == m && c.f (Slot.PEER m j) == n && c.f (Slot.CHAN n i) == c.f (Slot.CHAN m j)
    && c.f (Slot.LEN2 n i) == c.f (Slot.LEN2 m j) && c.f (Slot.HOPS n i) == c.f (Slot.HOPS m j)
    && c.f (Slot.BEAT m j) == c.beatPlus (c.f (Slot.BEAT n i)) (4 + 3 * c.f (Slot.HOPS n i))

/-- Check 6 PAIR. -/
def Chip.badPair (c : Chip) (n i : Nat) : Bool :=
  (c.isTx n i && !(List.range 64).any (fun j => c.partner n i (c.f (Slot.PEER n i)) j))
    || (c.isRx n i && !(List.range 64).any (fun j => c.partner (c.f (Slot.PEER n i)) j n i))

/-- Check 7 LINK. -/
def Chip.badLink (c : Chip) (n i : Nat) : Bool :=
  c.isTx n i && c.f (Slot.SEL n i) == 4 &&
    (let l := c.f (Slot.LINK n i)
     !(c.isRx n l && c.f (Slot.SEL n l) == 2) || decide (c.f (Slot.BEAT n i) < c.f (Slot.BEAT n l) + 2))

/-- Channels that an RX entry takes (R314). -/
def Chip.rxChans (c : Chip) (n i : Nat) : List Nat :=
  let k := c.f (Slot.CHAN n i)
  if c.f (Slot.SEL n i) = 0 && c.b (Slot.LEN2 n i) then [k, k + 1, k + 2] else [k]

/-- Check 8 CHAN (R314). -/
def Chip.badChan (c : Chip) (n i : Nat) : Bool :=
  c.isRx n i &&
    ((c.rxChans n i).any (fun k => decide (63 < k)) || (c.f (Slot.SEL n i) == 3 && decide (7 < c.f (Slot.CHAN n i)))
      || (List.range i).any (fun j => c.isRx n j && (c.rxChans n j).any (fun k => (c.rxChans n i).contains k)))

/-- Load checks 2–8 (R353): code, node and entry of the first that fails. -/
def Chip.loadCheck (c : Chip) (d : List Byte) : Option (Nat × Nat × Nat) :=
  match vmapBad d with
  | some n => some (2, n, 0)
  | none =>
    [(3, c.badRange), (4, c.badOrder), (5, c.badRoute), (6, c.badPair), (7, c.badLink), (8, c.badChan)].findSome?
      (fun x => (firstEntry x.2).map (fun p => (x.1, p.1, p.2)))

/-- CFG loads and checks schedule `n` of an image (R347, R352–R354, R819): the chip, and the failing check. `boot` at
step S8, where a sealed part keeps its slot entries (R898). -/
def Chip.loadSched (c : Chip) (u : LockUnit) (b : List Byte) (n : Nat) (locked boot : Bool) : Option (Nat × Nat × Nat) × Chip :=
  let d := secBytes b ((imgSec b 2 n).getD {})
  let rl := secBytes b ((imgSec b 8 n).getD {})
  let x : Load := forL (schedChunks d).zipIdx (fun p x => x.chunk u locked boot d p.2 p.1) { chip := c }
  let x := forL (relocs rl).zipIdx (fun p x => x.reloc d p.2 p.1) x
  let c := x.chip.putSlots x (boot && locked)
  (match x.bad with | some e => some e | none => c.loadCheck d, c)

/-- A refused schedule (R354): PLANE.LOAD_ERR, SCHED_REFUSED with the schedule and the check, STATE STOPPED. -/
def Chip.schedRefused (c : Chip) (n : Nat) (e : Nat × Nat × Nat) : Chip :=
  ((((c.put Plane.LOAD_ERR_CODE e.1).put Plane.LOAD_ERR_NODE e.2.1).put Plane.LOAD_ERR_ENTRY e.2.2).put Plane.STATE plStopped).post
    31 4 3 [(8, n), (8, e.1)]

/-! ### Step S8 -/

/-- A section applied at step S8 (R815, R816). -/
def Chip.applySec (c : Chip) (u : LockUnit) (b : List Byte) (locked : Bool) (s : Sec) : Chip :=
  if s.typ = 3 then forL (routeRecs b s) (fun x c => c.applyRoute locked x) c
  else if 4 ≤ s.typ ∧ s.typ ≤ 7 then c.applyRecs u locked true (regRecs b s)
  else c

/-- The header's REVOKE and SET_MINVER (R826): one key-page write, KEY_REVOKED for each slot revoked; the slot that verified
the image is left. -/
def Chip.headerKeys (c : Chip) (b : List Byte) : Chip :=
  let own := if c.b Img.OPEN then 3 else c.f Img.KEYSLOT
  let slots := (List.range 3).filter (fun s => bit (imgAt b 20 4) (8 + s) && s != own && c.keyState s == 1)
  let page := forL slots (fun s p => setKeyState p s 2) c.keyPage
  let page := if bit (imgAt b 20 4) 0 && decide (c.minver < imgAt b 16 4) then setBits page 1631 1600 (imgAt b 16 4) else page
  if page = c.keyPage then c
  else forL slots (fun s c => c.post cfgNode 10 7 [(8, s)]) (c.writeKeys page)

/-- CFG applies an image that has passed every check (R815–R819, R826): the register and route sections in table order, the
policies, schedule 0. The spec gives no order of the sections: this one is the model's. -/
def Chip.applyImage (c : Chip) (u : LockUnit) (b : List Byte) (locked : Bool) : Chip :=
  let c := forL (imgSecs b) (fun s c => c.applySec u b locked s) c
  let c := forN 4 (fun p c => match imgSec b 1 p with | some s => c.loadPolicy p (secBytes b s) | none => c) c
  let c := match imgSec b 1 8 with | some s => c.loadEpochLists (secBytes b s) | none => c
  let x := c.loadSched u b 0 locked true
  let c := match x.1 with | some e => x.2.schedRefused 0 e | none => x.2.put Plane.LOADED 0
  c.headerKeys b

end Sys2Proof.Machine
end

