-- ==== Sys2Proof/Machine/Power.lean ====
section
/-! DEFINITION. Waking, resets of the whole part, and power states: the steps S0–S10, DORMANT_FAULT, IMAGE_HALT, STANDBY,
DEEP, loss of VDDH, and the always-on responder (R883–R922). -/

namespace Sys2Proof.Machine

open Reg

/-! ### What the balls show -/

/-- READY (R887, R888, R904). -/
def Chip.ready (c : Chip) : Bool := c.pw.mode == .run || c.pw.mode == .deepRamp || c.pw.mode == .deepPersist

/-- The always-on responder owns the PMBus A balls (R892). -/
def Chip.responder (c : Chip) : Bool :=
  c.pw.mode == .dormant || c.pw.mode == .deep || (c.pw.mode == .wake && decide (c.pw.step ≤ 4))

/-- A channel whose bit is set in DEEP_ALERT is LATCHED in DEEP: ALERT_A_N asserts (R906). -/
def Chip.deepAlert (c : Chip) : Bool :=
  c.pw.mode == .deep && (List.range 16).any (fun n => c.b (Lsw.LATCHED n) && bit (c.f Power.DEEP_ALERT) n)

/-! ### Events and posts that wait for S10 -/

/-- CFG posts a power event: the ones that arise before S10 wait for it (R911). -/
def Chip.postPower (c : Chip) (idx : Nat) (fs : List (Nat × Nat)) : Chip :=
  if c.pw.mode = .wake then { c with pw.posts := c.pw.posts ++ [(idx, fs)] } else c.post cfgNode 11 idx fs

/-! ### What an event does to the whole part -/

/-- The fields with a strap entry read what S0 sampled (R14, R27). -/
def Chip.strapsRead (c : Chip) : Chip :=
  ((c.put (PortQ.PMADDR 0) c.pw.pmaddr).put (PortQ.PMADDR 1) c.pw.pmaddr).put Dip.PREF c.pw.pref

/-- The part after a reset of kind P, I or W, or after the loss of everything that DEEP loses: `mask` is the event's
survives code. An event in STANDBY is also one of its S (R25, R896, R897, R904, R908, R913). SRAM, IMEM and DMEM read 0 until they
are written. The straps stay as S0 sampled them until a power-on reset (R14, R907). -/
def Chip.partReset (c : Chip) (mask : Nat) : Chip :=
  let m := mask + if c.f Power.STATE = 1 then svS else 0
  let keep := (mask &&& (svI + svW)) != 0
  let c := { ({ c with image := [] } : Chip).resetRegs m (fun _ => true) with
    pw := if mask = svP then { c.pw with pmaddr := 0, pref := 0, oscOk := false } else c.pw }
  { c.strapsRead with
           beat := 0, hwBits := [], driveOff := false, rl := {}, lat := {}, pl := {}, tl := [], mem := [], ecc := [], hub := {}, tw := {}, seq := {},
           trc := [], resp := none, lockActs := [.clear],
           gl := if keep then { c.gl with inCh := [], snap := [], vddgMoving := c.gl.vddgMoving || c.gl.vddg != 0, codePost := [], repPost := none }
                 else {},
           skb := if keep then { c.skb with waiting := false } else {},
           nvc := { c.nvc with queue := [] },
           lockWas := none,
           sw := { c.sw with applied := none },
           pw := { c.pw with img := [], standby := false, planeWas := 0, posts := [] } }

/-- A wake begins with a REASON at a step (R885, R894). A wake that runs S3 or S4 tries the references again (R889, R890). -/
def Chip.startWake (c : Chip) (reason step : Nat) : Chip :=
  let c := (((c.put Power.WAKE_REASON reason).put Power.WAKE_FAIL 0).put Power.WAKE_FAIL_STEP 0).put Power.WAKE_ATTEMPTS 0
  { c with pw := { c.pw with mode := .wake, step := step, attempts := 0, failed := false, posts := [], reread := false, img := [],
                             sawLow := false, vddhLost := false, linkHold := c.pw.linkHold && decide (4 < step) } }

/-- Every channel follows its conditions again (R680, R891). -/
def Chip.lswAll (c : Chip) : Chip := forN 16 (fun n c => c.lswEval n false) c

/-- A wake that does not follow a stay in DORMANT_FAULT, or that ends one: the channels held off there are free again. -/
def Chip.wakeFrom (c : Chip) (reason step : Nat) : Chip :=
  if c.pw.mode = .dormant then (c.startWake reason step).lswAll else c.startWake reason step

/-- A reset of kind I, W or both begins (R895, R896, R912): the wake of the earlier first step runs. -/
def Chip.resetGo (c : Chip) (mask : Nat) : Chip :=
  let c := c.partReset mask
  let c := { c with pw := { c.pw with resetDue := 0 } }
  if mask &&& svI ≠ 0 then ((c.skbAdd 828 1).wakeFrom 2 1) else (c.skbAdd 829 1).wakeFrom 3 5

/-- A reset of kind I or W arrives: NVC finishes a page write in progress first (R801, R918). -/
def Chip.resetAsk (c : Chip) (mask : Nat) : Chip :=
  if c.nvc.cur.isSome then { c with pw := { c.pw with resetDue := c.pw.resetDue ||| mask } }
  else c.resetGo (c.pw.resetDue ||| mask)

/-- A command of NVC's engine; the end of a page write lets a held reset begin (R918). -/
def Chip.nvGo (c : Chip) (f : Chip → Chip) : Chip :=
  let c := c.nvAdvance f
  if c.pw.resetDue ≠ 0 && c.nvc.cur.isNone then c.resetGo c.pw.resetDue else c

/-- A power-on reset begins (R884, R896, R912): it decides over the others. -/
def Chip.powerOnReset (c : Chip) : Chip :=
  let c := c.partReset svP
  { c with pw := { c.pw with mode := .reset, step := 0, attempts := 0, failed := false, resetDue := 0, linkHold := false, fromDeep := false,
                             vddhLost := false, reread := false, lossDue := false } }

/-! ### Steps that do not finish -/

/-- DORMANT_FAULT (R891, R894): VDD_L and VDD_G go off, so everything that lives on them is lost, and a page write that a power-on reset
left in progress is torn (R803, R896). -/
def Chip.dormant (c : Chip) (fail attempts : Nat) : Chip :=
  let step := c.pw.step
  let c := c.nvLost.partReset svD
  let c := ((c.put Power.WAKE_FAIL fail).put Power.WAKE_FAIL_STEP step).put Power.WAKE_ATTEMPTS attempts
  let c := { c with pw := { c.pw with mode := .dormant, failed := false, dormant := some (fail, step, attempts), fromDeep := true } }
  c.lswAll

/-- The step ends, after `attempts` failed ones (R885, R911 index 2). -/
def Chip.stepDone (c : Chip) : Chip :=
  let n := c.pw.attempts
  let c := if n = 0 then c else c.postPower 2 [(8, c.pw.step), (8, n + 1)]
  { c with pw := { c.pw with step := c.pw.step + 1, attempts := 0, failed := false } }

/-- The present step can end: the part wakes, at that step, and no attempt has failed and waits. -/
def Chip.atStep (c : Chip) (k : Nat) : Bool := c.pw.mode == .wake && c.pw.step == k && !c.pw.failed

/-- An attempt at a step with retries times out (R885): the last one ends in `last`. -/
def Chip.attemptFails (c : Chip) (last : Chip → Chip) : Chip :=
  if c.pw.attempts < 3 then { c with pw := { c.pw with attempts := c.pw.attempts + 1, failed := true } } else last c

/-- A block of a step does not report ready in time (R885, R889, R890). DEDUCED (notes/assumptions/110.md): a SerDes PLL that has failed all
its attempts posts WAKE_RETRIED too, as the wake goes on. -/
def Chip.stepTimeout (c : Chip) (b : StartBlock) : Chip :=
  match b with
  | .ref => if c.atStep 1 then c.attemptFails (fun c => c.dormant 1 4) else c
  | .vddl => if c.atStep 2 && c.pw.vddh then c.attemptFails (fun c => c.dormant 2 4) else c
  | .vddg => if c.atStep 2 && c.pw.vddh then c.attemptFails (fun c => c.dormant 3 4) else c
  | .osc =>
    if c.atStep 3 then
      if c.pw.oscOk then
        let c := (c.putB Power.CLK_FALLBACK true).postPower 4 []
        { c with pw := { c.pw with step := 4, linkHold := true } }
      else c.dormant 4 1
    else c
  | .pllBeat => if c.atStep 4 then c.attemptFails (fun c => c.dormant 5 4) else c
  | .pllPwm => if c.atStep 4 then c.attemptFails (fun c => c.dormant 6 4) else c
  | .pllSerdes =>
    if c.atStep 4 then
      c.attemptFails (fun c =>
        let c := c.postPower 2 [(8, 4), (8, 4)]
        { c with pw := { c.pw with step := 5, attempts := 0, linkHold := true } })
    else c

/-- 100 µs after a failed attempt the next one begins (R885). -/
def Chip.stepRetry (c : Chip) : Chip :=
  if c.pw.mode = .wake && c.pw.failed then { c with pw := { c.pw with failed := false } } else c

/-! ### S0–S6 -/

/-- S0: the straps are sampled (R885, R895). -/
def Chip.stepS0 (c : Chip) (pmaddr pref : Nat) (osc : Bool) : Chip :=
  if c.atStep 0 then
    ({ c with pw := { c.pw with oscOk := osc, pmaddr := pmaddr, pref := pref } } : Chip).strapsRead.stepDone
  else c

/-- The array runs on through this wake (R897). -/
def Chip.arrayKept (c : Chip) : Bool :=
  (c.f Power.WAKE_REASON == 2 || c.f Power.WAKE_REASON == 3) && !c.pw.fromDeep && c.gState == gRun && !(List.range 8).any c.regionOpen

/-- S5 (R772, R806, R823, R851, R885, R897). -/
def Chip.stepS5 (c : Chip) : Chip :=
  if c.atStep 5 then
    let kept := c.arrayKept
    let c := { (((c.loadRemap).loadKeys).loadTrim) with pw := { c.pw with keepGlaze := kept } }
    let c := if kept then c
             else ({ c.put Gcfg.STATE 0 with gl := { vddg := c.gl.vddg, vddgMoving := c.gl.vddgMoving, vddgOld := c.gl.vddgOld } }).regionsIdle.slotLoad
    (if c.skb.counting then c else c.skbRestore).stepDone
  else c

/-- S6 ends when the array has left its start-up order (R858, R885). -/
def Chip.endS6 (c : Chip) : Chip :=
  if c.atStep 6 && c.gState != gStarting then (if c.gState = gRun then c else c.hwSet Gcfg.BOOT_FAIL 1).stepDone else c

/-- S6 begins the start-up order, or passes an array that has been kept or that no slot was copied to (R852, R885, R897). -/
def Chip.stepS6 (c : Chip) : Chip :=
  if c.atStep 6 then
    if c.pw.keepGlaze then c.stepDone
    else (if c.gState = gStopped then c.gStart else c).endS6
  else c

/-! ### S7 and S8 -/

/-- CFG refuses the image: once it reads the NOR again, then the part stops in IMAGE_HALT (R821, R893). -/
def Chip.refuseImage (c : Chip) (e : Nat × Option Nat) : Chip :=
  let (w, c) := match e.2 with
    | some i => (i, c)
    | none => let (v, c) := c.freeWord; (v.toNat % 256, c)
  let c := ((c.put Img.IMG_ERR_CODE e.1).put Img.IMG_ERR_SECTION w).post cfgNode 10 6 [(8, e.1), (8, w)]
  if c.pw.reread then
    let c := ((c.put Power.WAKE_FAIL 8).put Power.WAKE_FAIL_STEP c.pw.step).put Power.WAKE_ATTEMPTS 2
    { c with pw := { c.pw with mode := .halt, img := [] } }
  else { c with pw := { c.pw with step := 7, reread := true, img := [] } }

/-- S7: the NOR is brought up, with the SFDP step that failed if one did; the bytes that it returns are checked (R812, R821,
R822, R893). -/
def Chip.stepS7 (c : Chip) (fail : Option Nat) (nor : List Byte) : Chip :=
  if c.atStep 7 then
    let c := match fail with
      | some k => if c.pw.reread then c else (c.putB Img.XSPI_FALLBACK true).post cfgNode 10 8 [(8, k)]
      | none => c
    match shapeCheck nor (c.f Id.DEV_ID) with
    | some e => c.refuseImage e
    | none =>
      let isOpen := c.keysEmpty
      let c := c.putB Img.OPEN isOpen
      let c := if isOpen then c.post cfgNode 10 5 [(32, imgAt nor 32 4)] else c
      match (match (if isOpen then none else c.keyCheck nor) with | some e => some e | none => crcCheck nor) with
      | some e => c.refuseImage e
      | none =>
        let c := (c.put Img.IMG_ID (imgAt nor 32 4)).put Img.SECVER (imgAt nor 16 4)
        let c := if isOpen then c else c.put Img.KEYSLOT (imgAt nor ((imgSec nor 9 0).getD {}).off 1)
        ({ c with pw := { c.pw with img := nor } } : Chip).stepDone
  else c

/-- S8 (R710, R815–R819, R821, R826, R885, R898, R899). -/
def Chip.stepS8 (c : Chip) (u : LockUnit) : Chip :=
  if c.atStep 8 then
    match recordCheck c.pw.img with
    | some e => c.refuseImage e
    | none =>
      let c := (c.applyImage u c.pw.img (c.b Power.SEALED && !c.pw.fromDeep)).ceilCrc.putB Sw.RETAINED true
      ({ c with sw := { c.sw with loaded := true }, pw := { c.pw with fromDeep := false } } : Chip).stepDone
  else c

/-! ### S9 and S10 -/

/-- S9: the role is negotiated (R648, R650, R890). -/
def Chip.stepS9 (c : Chip) : Chip :=
  if c.atStep 9 && !c.tw.negotiating then
    let c := { c.put Dip.ROLE 1 with tw := { c.tw with negotiating := true, negs := 0 } }
    (if c.pw.linkHold then c.postTwin 1 [(8, 1)] else c).negotiate
  else c

/-- SEAL takes effect: every field of the **Fields clamped to a sealed ceiling** table comes under its ceiling (R38, R887). -/
def Chip.sealClamp (c : Chip) : Chip :=
  let under (f m : Fld) (node k : Nat) (c : Chip) : Chip :=
    if c.f m < c.f f then (c.put f (c.f m)).ceilClamp node k 0 else c
  let c := forN 16 (fun r c =>
    under (Rail.GCEIL r) (Rail.IOUT_MAX r) 18 r (under (Rail.ICEIL r) (Rail.IOUT_MAX r) 18 r
      (under (Rail.RATE_DN r) (Rail.SLEW_MAX r) 18 r (under (Rail.RATE_UP r) (Rail.SLEW_MAX r) 18 r
        (under (Rail.VSET r) (Rail.VOUT_MAX r) 18 r c))))) c
  let c := forN 96 (fun p c => under (Sense.IPH_TRIP p) (Sense.IPH_MAX p) (if p < 48 then 16 else 18) p c) c
  let c := under Board.BUDGET Board.BUDGET_MAX 18 0 c
  c.putB Power.SEALED true

/-- CFG starts the plane at PBEAT 0 of round 0, or puts every rail group under FALLBACK where it refused the schedule (R306,
R354). -/
def Chip.planeBoot (c : Chip) : Chip := if c.f Plane.LOAD_ERR_CODE = 0 then c.planeStart 0 else c.groupsFall

/-- CFG releases the P tiles for which the image holds a policy (R409). -/
def Chip.policiesStart (c : Chip) : Chip :=
  forN 4 (fun p c =>
    if (imgSec c.pw.img 1 p).isSome then
      let n := natAt pNodes p
      (c.put (Tile.STATE n) 1).setTile (24 + p) { c.tile (24 + p) with pc := c.f (Tile.ENTRY n) % imemSize (24 + p), nextIssue := c.clock }
    else c) c

/-- S10 (R38, R306, R772, R785, R887, R898, R911): `us` is the time from the wake's first step to READY. -/
def Chip.stepS10 (c : Chip) (us : Nat) : Chip :=
  if c.atStep 10 then
    let dorm := c.pw.dormant
    let posts := c.pw.posts
    let held := c.f Power.SEAL_HELD
    let lost := c.pw.lossDue
    let c := c.skbStart.sealClamp
    let c := { c with pw := { c.pw with mode := .run, step := 0, posts := [], dormant := none, lossDue := false } }
    let c := (c.planeBoot.policiesStart.arrayLines).put Power.STATE 0
    let c := if c.primary then
        forN 16 (fun r c => if c.b (Rail.EN r) then c.railStart r else c) c.assertOut
      else c
    let c := match dorm with | some (f, s, a) => c.postPower 3 [(8, f), (8, s), (8, a)] | none => c
    let c := forL posts (fun e c => c.postPower e.1 e.2) c
    let c := if held = 0 then c else c.postPower 5 [(8, held)]
    let c := if lost then c.postPower 9 [] else c
    ((c.put Power.WAKE_US us).postPower 1 [(8, c.f Power.WAKE_REASON), (32, us)]).retainPost
  else c

/-! ### STANDBY -/

/-- A rail ramps down under R109 with EN unchanged (R901, R904); a latched rail is at MID already. -/
def Chip.railHoldOff (c : Chip) (r : Nat) : Chip :=
  if !c.b (Rail.EN r) || (c.rail r).off then c
  else
    let c := c.setRail r { c.rail r with off := true }
    c.railStop r

/-- Steps 2–4 of STANDBY entry (R901). -/
def Chip.standbyEnter (c : Chip) : Chip :=
  let c := forN 16 (fun r c => if c.b (Rail.STBY_KEEP r) then (if c.b (Rail.EN r) then c.fallRail r c.clock else c) else c.railHoldOff r) c
  let c := ({ c.grpOut.put Power.STATE 1 with pw := { c.pw with standby := false } } : Chip).vddgLow.arrayLines
  (c.skbAdd 833 1).postPower 6 []

/-- A STANDBY entry goes on once the plane has stopped: at the end of its round, or by a fault (R901 step 1). -/
def Chip.standbyStep (c : Chip) : Chip :=
  if c.pw.standby && (c.f Plane.STATE == plStopped || c.f Plane.STATE == plFaulted) then
    let was := if c.f Plane.STATE = plFaulted then plFaulted else c.pw.planeWas
    ({ c with pw := { c.pw with planeWas := was } } : Chip).standbyEnter
  else c

/-- STANDBY is asked for and accepted (R901, R914). -/
def Chip.standbyAsk (c : Chip) : Chip :=
  ({ c.put Power.STATE 2 with pw := { c.pw with standby := true, planeWas := plStopped } } : Chip).standbyStep

/-- What a stay in STANDBY does to the registers: every field without S returns to its Reset value (R14), RINGc among them. FENCED shows a node
reset under way and is left to it (DEDUCED). -/
def Chip.standbyReset (c : Chip) : Chip := c.resetRegs svS (fun a => a % 0x2000000 != 0x1F0000C)

/-- The end of STANDBY (R903), with the time that it took. -/
def Chip.standbyLeave (c : Chip) (us : Nat) : Chip :=
  let c := c.standbyReset
  let c := { c.put Power.STATE 0 with gl := { c.gl with scrub := 0, ring := [] } }
  let c := c.arrayLines
  let c := if c.pw.planeWas = plRun then c.planeStart (c.f Plane.ROUND + 1) else c
  let c := forN 16 (fun r c =>
    if (c.rail r).off then
      let c := c.setRail r { c.rail r with off := false }
      if c.b (Rail.EN r) && !c.b (Rail.OFF_LATCHED r) then c.railStart r else c
    else c) c
  ({ c with pw := { c.pw with planeWas := plStopped } } : Chip).postPower 7 [(32, us)]

/-! ### DEEP -/

/-- DEEP entry, step 1 (R904). -/
def Chip.deepAsk (c : Chip) : Chip :=
  let c := forN 16 (fun r c => c.railHoldOff r) ((c.put Power.STATE 2).put Plane.STATE plStopped)
  let c := (c.eStates 1 0).eStates 2 0
  { c with pl := { c.pl with holds := [], switchTo := none, restart := false }, pw := { c.pw with mode := .deepRamp } }

/-- DEEP entry, steps 2 and 3 (R771, R786, R904). -/
def Chip.deepRampDone (c : Chip) : Chip :=
  if c.pw.mode = .deepRamp then
    let c := forN 16 (fun r c => if (c.rail r).ramping then c.railMid r else c) c
    let c := { (c.skbAdd 834 1).putB Dip.OWN_OUT false with pw := { c.pw with mode := .deepPersist } }
    c.persist
  else c

/-- DEEP entry, steps 4 and 5 (R904): every state that DEEP does not keep is lost from here on. -/
def Chip.deepDone (c : Chip) : Chip :=
  if c.pw.mode = .deepPersist && c.skb.page.isNone && c.nvc.cur.isNone && c.nvc.queue.isEmpty then
    let c := c.partReset svD
    { c with pw := { c.pw with mode := .deep, fromDeep := true, sawLow := false } }
  else c

/-! ### POWER.CMD and POWER.RESET -/

/-- The row of the **Power state checks** table that refuses a command of state `st` with `key`, 0 none (R900, R914). KEY is looked
at first, then the rows in order. -/
def Chip.powerCheck (c : Chip) (st key : Nat) : Nat :=
  if key ≠ 0x5A5A || st = 0 then 5
  else if st = 1 && c.role == 3 then 1
  else if st = 2 && c.primary && c.linkUp then 2
  else if c.pw.mode ≠ .run || c.f Power.STATE ≠ (if st = 3 then 1 else 0) then 3
  else if (List.range 8).any (fun r => c.f (Gcfg.REGIONr_STATE r) != 0) then 4
  else 0

/-- A write of POWER.CMD (R900): its status. `us` is the time that an end of STANDBY takes. -/
def Chip.powerCmd (c : Chip) (st key us : Nat) : Nat × Chip :=
  let e := c.powerCheck st key
  if e ≠ 0 then (stDenied, (c.put Power.ENTRY_ERR e).post cfgNode 11 8 [(8, e)])
  else (stOk, if st = 1 then c.standbyAsk else if st = 2 then c.deepAsk else c.standbyLeave us)

/-- A write of POWER.RESET (R895, R893, R918). -/
def Chip.warmReset (c : Chip) (w : Nat) : Chip :=
  if w = 0xA5A50001 && (c.ready || (c.pw.mode == .wake && decide (9 ≤ c.pw.step))) then c.resetAsk svW else c

/-! ### Supplies and pins -/

/-- RESET_N is asserted for 1 µs or more (R895, R905, R913). -/
def Chip.resetN (c : Chip) : Chip := if c.pw.mode = .reset then c else c.resetAsk svI

/-- VDDH stops being good (R883, R886, R894, R905, R908, R917). -/
def Chip.vddhLoss (c : Chip) : Chip :=
  let off (c : Chip) : Chip := { c with pw := { c.pw with vddh := false } }
  let lose (c : Chip) (fail : Bool) : Chip :=
    let step := c.pw.step
    let c := (c.nvLost.partReset svD).hwSet Power.UNCLEAN 1
    let c := if fail then ((c.put Power.WAKE_FAIL 7).put Power.WAKE_FAIL_STEP step).put Power.WAKE_ATTEMPTS 1 else c
    { c with pw := { c.pw with mode := .wake, step := 2, attempts := 0, failed := false, vddh := false, vddhLost := true, lossDue := true,
                               fromDeep := true, resetDue := 0 } }
  match c.pw.mode with
  | .reset => off c.nvLost
  | .dormant => off c
  | .deep => { c with pw := { c.pw with vddh := false, sawLow := true } }
  | .wake =>
    if c.pw.step ≤ 2 then
      let c := c.nvLost
      { c with pw := { c.pw with vddh := false, attempts := 0, failed := false } }
    else lose c true
  | .run => lose c false
  | .halt => lose c false
  | .deepRamp => lose c false
  | .deepPersist => lose c false

/-- VDDH becomes good (R883, R894, R905, R908). -/
def Chip.vddhGood (c : Chip) : Chip :=
  let c := { c with pw := { c.pw with vddh := true } }
  if c.pw.mode = .deep && c.pw.sawLow then c.startWake 4 2
  else if c.pw.mode = .wake && c.pw.vddhLost then c.startWake 6 2
  else c

/-- MFR_WAKE with 0xA5 (R891, R892, R905, R920). -/
def Chip.mfrWake (c : Chip) : Chip :=
  if c.pw.mode = .dormant then c.wakeFrom 5 1
  else if c.pw.mode = .deep && c.pw.vddh then c.startWake 5 2
  else c

/-- Outcome of a transaction that the responder is asked for on PMBus A: whether it acknowledged and the bytes returned. -/
def Chip.respond8 (c : Chip) (ack : Bool) (bs : List Byte) : Chip := c.setTen 1 { c.ten 1 with ack := ack, out := bs, await := none }

end Sys2Proof.Machine
end

