-- ==== Sys2Proof/Machine/Bus.lean ====
section
/-! DEFINITION. How a target judges and performs a RD or WR: extents, alignment, rights, and the order of causes
(R233–R237, R961–R979, R987), register reads, and memory accesses with their ECC (R372, R374, R965, R966). -/

namespace Sys2Proof.Machine

open Reg

/-! ### Extents -/

/-- An extent of the **Memories** table (R964). -/
inductive MemKind where
  | imem | dmem | sram | gmem | cells | lockWin | seqWin
  deriving DecidableEq, Repr

/-- The memory extent of a node that holds an offset of its memory space (R963, R964). -/
def memKind (n off : Nat) : Option MemKind :=
  if eNodes.contains n then
    (if off < 0x4000 then some .imem else if 0x100000 ≤ off ∧ off < 0x108000 then some .dmem else none)
  else if pNodes.contains n then
    (if off < 0x10000 then some .imem else if 0x100000 ≤ off ∧ off < 0x120000 then some .dmem else none)
  else if n = 17 then (if off < 0x80000 then some .sram else none)
  else if n = 10 then (if off < 0x60000 then some .gmem else none)
  else if n = 42 then (if off < 0x400000 then some .cells else none)
  else if n = 24 then (if off < 0x4000 then some .lockWin else none)
  else if n = 30 then (if off < 0x40 then some .seqWin else none)
  else none

/-- A request of a HUB of the twin to a forwarding slot, the one register access of several words (R621). -/
def slotReq (h : Hdr) : Bool := h.dst % 64 == 0 && decide (0x1000800 ≤ h.offset) && decide (h.offset < 0x1000A00)

/-- R233 and R234: alignment, the 64-byte boundary, BE. -/
def alignBad (h : Hdr) : Bool :=
  h.offset % 4 != 0
    || (if h.offset < 0x1000000 || slotReq h then
          decide (64 < h.offset % 64 + 4 * (h.len + 1)) || (h.len != 0 && h.be != 15)
        else h.len != 0 || h.be != 15)

/-! ### Rights (cause 5) -/

/-- PRIV, else PRIV_ERR (R987). -/
def needPriv (h : Hdr) : Nat := if h.priv then stOk else stPriv

/-- PRIV or a right granted by tenant, else DENIED (R987). -/
def needRight (h : Hdr) (b : Bool) : Nat := if h.priv || b then stOk else stDenied

/-- The default of R969. -/
def defaultRight (h : Hdr) : Nat := needRight h (h.tenant == 0)

/-- The group of a lock (R512, R555): 16 locks each. -/
def lockGroup (l : Nat) : Nat := l / 16

/-- Who sends a request. -/
def who (h : Hdr) : Who := { src := h.src, tenant := h.tenant, priv := h.priv }

/-- Rights to write word `o` of block `b`. DEDUCED (notes/assumptions/56.md): B1 takes the HUB's requests for an AVSBus tenant to VSET and to
the slew rates, and judges their owner (R104) (R307, R349, R413, R544, R555, R621, R623, R682, R699, R712, R774, R776, R800, R829, R830,
R844, R910, R969). -/
def Chip.writeRight (c : Chip) (b : Blk) (o : Nat) (h : Hdr) : Nat :=
  match b with
  | .tenant _ => if o = 0x20 then needPriv h else defaultRight h
  | .avs _ => defaultRight h
  | .port _ => defaultRight h
  | .fslot _ => if h.src = 64 && h.tenant == 7 then stOk else stDenied
  | .tile => needPriv h
  | .dq => defaultRight h
  | .phase _ => defaultRight h
  | .sense _ => defaultRight h
  | .rail _ => needRight h (h.tenant == 0 || ((o == 4 || o == 8) && (who h).avs))
  | .board => defaultRight h
  | .tmon _ => defaultRight h
  | .lsw n => needRight h (bit (c.f (Lsw.WMASK n)) h.tenant)
  | .sw => needPriv h
  | .mirror _ => if c.role == 3 && h.src == 82 && h.tenant == 7 then stOk else stDenied
  | .gport _ => defaultRight h
  | .garr => defaultRight h
  | .gcfg => needPriv h
  | .dip => needPriv h
  | .lgrp g => needRight h (c.f (Lgrp.ADMIN g) == h.tenant)
  | .lunit => needPriv h
  | .lst l => needRight h (c.f (Lgrp.ADMIN (lockGroup l)) == h.tenant)
  | .seq => needPriv h
  | .ident => defaultRight h
  | .img => needPriv h
  | .plane => needPriv h
  | .power => needPriv h
  | .skb => needPriv h
  | .nvc => if o = 0 then stOk else needPriv h
  | .dqx _ => defaultRight h
  | .trc _ => if o = 8 then defaultRight h else needPriv h
  | .ni => if 0x400 ≤ o ∧ o < 0x600 ∧ h.src ≠ cfgNode then stPriv else needPriv h

/-- Rights to read word `o` of block `b` of node `n` (R289, R557, R621, R750, R774, R777, R968, R987). -/
def Chip.readRight (c : Chip) (b : Blk) (n o : Nat) (h : Hdr) : Nat :=
  match b with
  | .tenant _ => stOk
  | .avs _ => stOk
  | .port _ => stOk
  | .fslot _ => if h.src = 64 && h.tenant == 7 then stOk else stDenied
  | .tile => stOk
  | .dq => stOk
  | .phase _ => stOk
  | .sense _ => stOk
  | .rail _ => stOk
  | .board => stOk
  | .tmon _ => stOk
  | .lsw _ => stOk
  | .sw => stOk
  | .mirror _ => stOk
  | .gport _ => stOk
  | .garr => stOk
  | .gcfg => needPriv h
  | .dip => stOk
  | .lgrp _ => stOk
  | .lunit => needPriv h
  | .lst l => needRight h (bit (c.f (Lgrp.MASK (lockGroup l))) h.tenant)
  | .seq =>
    if 0x300 ≤ o then needRight h ((c.b Seq.CC_UREAD && h.tenant == 0) || bit (c.f Seq.CC_TENANTS) h.tenant) else needPriv h
  | .ident => stOk
  | .img => stOk
  | .plane => stOk
  | .power => stOk
  | .skb => needRight h (bit (c.f Skb.READ_MASK) h.tenant)
  | .nvc => stOk
  | .dqx _ => stOk
  | .trc _ => stOk
  | .ni =>
    if 0x600 ≤ o && o < 0x680 then
      needRight h ((c.b (Bank.BANK_UREAD n) && h.tenant == 0) || bit (c.f (Bank.BANK_TENANTS n)) h.tenant)
    else needPriv h

/-- Rights to a memory extent (R187, R374, R794, R966, R967). -/
def Chip.memRight (c : Chip) (k : MemKind) (n : Nat) (h : Hdr) (write : Bool) : Nat :=
  match k with
  | .imem =>
    if write then
      (if !h.priv then stPriv
       else if eNodes.contains n && (c.f Plane.STATE == plRun || c.f Plane.STATE == plSwitching) then stDenied else stOk)
    else defaultRight h
  | .dmem => defaultRight h
  | .sram => defaultRight h
  | .gmem => defaultRight h
  | .cells =>
    if h.priv || (partitionOf (h.offset / 256) == 5 && bit (c.f Nvc.USER_RD) h.tenant) then stOk else stPriv
  | .lockWin => stUnsup
  | .seqWin => stUnsup

/-! ### Causes 1 to 6 -/

/-- REGION_BUSY (R868): channels and memory windows that lie in a region at rest. -/
def Chip.regionBusy (c : Chip) (b : Blk) (o : Nat) (write : Bool) (w : Nat) : Bool :=
  match b with
  | .gport g =>
    if 0x40 ≤ o && o < 0x80 && !write then outChanRest c g (o % 0x20 / 4)
    else if 0x80 ≤ o && o < 0xA0 && write then inChanRest c g ((o - 0x80) / 4)
    else if o = 0xA4 && write then (List.range 8).any (fun k => bit w k && outChanRest c g k)
    else false
  | _ => false

/-- Causes 1–6 of R970 for a RD or WR at node `n`, 0 where none applies; `poison` says that its data arrived poisoned. -/
def Chip.judge (c : Chip) (n : Nat) (h : Hdr) (write poison : Bool) (w : Nat) : Nat :=
  if c.fenced n then stFenced
  else if write && poison then stData
  else if alignBad h then stAlign
  else if h.offset < 0x1000000 then
    match memKind n h.offset with
    | none => stAddr
    | some .gmem =>
      if h.len ≠ 0 || h.be ≠ 15 then stAlign
      else if !bit (c.f Garr.GMEM_LEN) (h.offset / 0x4000) then stAddr
      else if c.memRight .gmem n h write ≠ stOk then c.memRight .gmem n h write
      else if c.posRest (gmemPos (h.offset / 0x4000)) then stRegion else stOk
    | some .cells => if write then stUnsup else c.memRight .cells n h write
    | some k => c.memRight k n h write
  else
    match blkOf n h.offset with
    | none => stAddr
    | some (b, o) =>
      let r := if write then c.writeRight b o h else c.readRight b n o h
      if r ≠ stOk then r else if c.regionBusy b o write w then stRegion else stOk

/-! ### Register reads -/

/-- The value that word `o` of block `b` of node `n` reads, where it is not a stored word. -/
def Chip.readOver (c : Chip) (u : LockUnit) (b : Blk) (n o : Nat) : Option Word :=
  match b with
  | .fslot t => some (mget 0 c.hub.slot (16 * t + o / 4))
  | .mirror k => some (c.lsw k).mirror
  | .lst l => some (if o = 0 then BitVec.ofNat 32 (u.stateWord l) else 0)
  | .lunit => if o = 0 then some (BitVec.ofNat 32 u.slotsWord) else none
  | .skb =>
    if 0x1000 ≤ o && o < 0x1000 + 836 * 8 then
      some (BitVec.ofNat 32 (mget 0 c.skb.counts ((o - 0x1000) / 8) / 2 ^ (32 * ((o - 0x1000) / 4 % 2))))
    else if 0x3000 ≤ o then some (mget 0 c.skb.faults ((o - 0x3000) / 4))
    else none
  | .gport g =>
    if 0x60 ≤ o && o < 0x80 then some (c.reg (Gport.OUT_PEEK_DATA (gNode g) ((o - 0x60) / 4)).addr) else none
  | .dip => if o = 0xC && c.pw.vio33Low then some (BitVec.ofNat 32 (setBits (c.reg Dip.OWN_OUT.addr).toNat 16 16 0)) else none
  | .ni => if o = 0xC then some (BitVec.ofNat 32 (setBits (c.reg (niBase n + 0xC)).toNat (Ni.INFLIGHT n).hi (Ni.INFLIGHT n).lo (c.inflight n))) else none
  | _ => none

/-- A register read that has been judged is performed (R968): the word, and what the read does. -/
def Chip.regRead (c : Chip) (u : LockUnit) (n off : Nat) : Word × Chip :=
  match blkOf n off with
  | none => (0, c)
  | some (b, o) =>
    match b, o with
    | .gcfg, 0xC => c.fdout
    | .gport g, _ =>
      let w := (c.readOver u b n o).getD (c.reg (nodeBase n + off))
      (w, if 0x60 ≤ o && o < 0x80 then c.chPop g ((o - 0x60) / 4) else c)
    | _, _ => ((c.readOver u b n o).getD (c.reg (nodeBase n + off)), c)

/-- A consuming read that finds no token (R193–R195): it waits. -/
def Chip.mustWait (c : Chip) (n off : Nat) : Bool :=
  match blkOf n off with
  | some (.gport g, o) =>
    decide (0x60 ≤ o) && decide (o < 0x80) && !c.chValid g ((o - 0x60) / 4)
      && (match c.groupOf g ((o - 0x60) / 4) with | some j => j == (o - 0x60) / 4 | none => true)
  | _ => false

/-! ### Register writes -/

/-- Cause 9 (R104, R711): the field belongs to another source. DEDUCED (notes/assumptions/114.md): at a Shadow, a write that leaves MODE as it stands
is no write to MODE. -/
def Chip.notOwner (c : Chip) (b : Blk) (o w : Nat) (q : Who) : Bool :=
  match b with
  | .rail r =>
    o == 4 && (match q.port with
      | some p => c.f (Rail.SP_OWNER r) != 8 + p
      | none => if q.avs then !(8 ≤ c.f (Rail.SP_OWNER r) && (c.f (Rail.SP_OWNER r) - 8) / 2 + 3 == q.tenant)
                else !(c.f (Rail.SP_OWNER r) == 0 && q.tenant == 0))
  | .lsw k => o == 8 && c.role == 3 && w % 4 != 3 && w % 4 != c.f (Lsw.MODE k)
  | _ => false

/-- A judged write of one register word (causes 7–9 of R970, R12, R911, R971); CEIL_CRC follows a ceiling written before SEAL (R647). -/
def Chip.putWord (c : Chip) (u : LockUnit) (n off w : Nat) (q : Who) : Nat × Chip :=
  match blkOf n off with
  | none => (stAddr, c)
  | some (b, o) =>
    if c.notOwner b o w q then (stNotOwner, c)
    else match b, o with
      | .power, 4 => c.freeWord.2.powerCmd (w % 4) (bits w 31 16) c.freeWord.1.toNat
      | .power, 8 => (stOk, c.warmReset w)
      | _, _ =>
        let x := c.regWrite u n off w (c.b Power.SEALED) q
        if !c.b Power.SEALED && ceilWords.any (fun a => a.1 == nodeBase n + off) then (x.1, x.2.ceilCrc) else x

/-! ### Memory -/

/-- Global address of byte `off` of node `n`. -/
def gAddr (n off : Nat) : Nat := nodeBase n + off

/-- A word of IMEM, DMEM or SRAM is read: ECC as R372 and R965 say; whether it is uncorrectable. -/
def Chip.eccRead (c : Chip) (k : MemKind) (n a : Nat) : Bool × Chip :=
  match c.eccAt a with
  | 0 => (false, c)
  | 1 =>
    let c := c.setEcc a 0
    (false, if k = .sram then c.inc (Ni.CORR_CNT n) else c.inc (Tile.ECC_CORR n))
  | _ => (true, if k = .sram then c else c.inc (Tile.ECC_UNCORR n))

/-- Bytes of a word that BE names, with the old ones elsewhere. -/
def mergeBytes (old new : List Byte) (be : Nat) : List Byte :=
  (List.range 4).map (fun i => if bit be i then (new[i]?).getD 0 else (old[i]?).getD 0)

/-- Read `len` words from a memory offset: status, words. BE selects the bytes of a one-word read (R233); the spec does not say
what the response holds in the others. -/
def Chip.memRead (c : Chip) (k : MemKind) (n off len be : Nat) : Nat × List Word × Chip :=
  let x : Bool × Chip := forN len (fun i x => let y := x.2.eccRead k n (gAddr n (off + 4 * i)); (x.1 || y.1, y.2)) (false, c)
  if x.1 then (stData, [], x.2)
  else if be = 15 then (stOk, (List.range len).map (fun i => BitVec.ofNat 32 (c.bytesAt (gAddr n (off + 4 * i)) 4)), x.2)
  else
    let (w, d) := x.2.freeWord
    (stOk, [BitVec.ofNat 32 (ofBytes (mergeBytes (toBytes 4 w.toNat) (toBytes 4 (c.bytesAt (gAddr n off) 4)) be))], d)

/-- Write words from a memory offset: status. -/
def Chip.memWrite (c : Chip) (k : MemKind) (n off be : Nat) (ws : List Word) : Nat × Chip :=
  let a := gAddr n off
  if be ≠ 15 && c.eccAt a == 2 then (stData, (c.eccRead k n a).2)
  else if be ≠ 15 then
    let old := toBytes 4 (c.bytesAt a 4)
    (stOk, ((c.eccRead k n a).2).storeBytes a (mergeBytes old (toBytes 4 (wordAt ws 0)) be))
  else (stOk, c.storeBytes a (ws.flatMap (fun w => toBytes 4 w.toNat)))

/-- Key of a word of the G0 memory window. -/
def gmemKey (off : Nat) : Nat := 4096 * (off / 0x4000) + off % 0x4000 / 4

/-- A judged access to a memory extent: status, words. What a tile has stored and is due by now is in its DMEM (R304, R446). -/
def Chip.memPerform (c : Chip) (k : MemKind) (n : Nat) (h : Hdr) (write : Bool) (ws : List Word) : Nat × List Word × Chip :=
  match k with
  | .gmem =>
    if write then (stOk, [], { c with gl.gmem := mset 0 c.gl.gmem (gmemKey h.offset) (wordAt ws 0 % 512) })
    else (stOk, [BitVec.ofNat 32 (mget 0 c.gl.gmem (gmemKey h.offset))], c)
  | .cells => c.nvWindow h.offset (h.len + 1)
  | _ =>
    let c := if k = .dmem then c.settled (tileAt n) else c
    if write then let x := c.memWrite k n h.offset h.be (ws.take (h.len + 1)); (x.1, [], x.2)
    else c.memRead k n h.offset (h.len + 1) h.be

/-! ### One request -/

/-- A RD or WR is judged and performed at node `n` (R970): STATUS, data words, the chip. A forwarding slot's WR and a read that waits
are taken before. -/
def Chip.access (c : Chip) (u : LockUnit) (n : Nat) (h : Hdr) (write poison : Bool) (ws : List Word) : Nat × List Word × Chip :=
  let w := wordAt ws 0
  let st := c.judge n h write poison w
  if st ≠ stOk then
    (st, [], if write && n == 18 && h.offset == 0x1002404 && st == stPriv then c.hwSet Sw.KICK_BAD 1 else c)
  else if h.offset < 0x1000000 then
    match memKind n h.offset with
    | none => (stAddr, [], c)
    | some k => c.memPerform k n h write ws
  else if write then
    let x := c.putWord u n h.offset w (who h)
    (x.1, [], x.2)
  else if slotReq h then
    (stOk, (List.range (h.len + 1)).map (fun i => (c.regRead u n (h.offset + 4 * i)).1), c)
  else
    let x := c.regRead u n h.offset
    (stOk, [x.1], x.2)

/-- The header of an access that a command names directly. -/
def cmdHdr (q : Sender) (n off len be : Nat) (write : Bool) : Hdr :=
  { vc := 2, typ := if write then 2 else 1, src := q.src.val, dst := n, tenant := q.tenant.val, priv := q.priv, offset := off, len := len, be := be }

/-- A command that is an access: its outcome is kept for the one who asked (R237). -/
def Chip.cmdAccess (c : Chip) (u : LockUnit) (n off len be : Nat) (q : Sender) (write : Bool) (ws : List Word) : Chip :=
  let x := c.access u n (cmdHdr q n off len be write) write false ws
  { x.2.2 with resp := some (x.1, x.2.1) }

/-- A command that writes one register word. -/
def Chip.cmdWrite (c : Chip) (u : LockUnit) (n off : Nat) (q : Sender) (w : Nat) : Chip :=
  c.cmdAccess u n off 0 15 q true [BitVec.ofNat 32 w]

end Sys2Proof.Machine
end

