-- ==== Sys2Proof/Machine/Host.lean ====
section
/-! DEFINITION. The commands of a host, wherever they come from: rights, the retry cache, what each command does and returns,
telemetry formats, forwarding to the twin's HUB, and AVSBus frames (R63–R65, R104, R105, R138–R140, R573–R600, R604, R620, R621). -/

namespace Sys2Proof.Machine

open Reg

/-! ### Telemetry -/

/-- LINEAR11 of num / den (R139): the smallest exponent from `nmin` (−16 to −1, given as its negation) on whose mantissa fits. -/
def linear11 (num : Int) (den negMin : Nat) : Nat :=
  let y (i : Nat) : Int := if i ≤ negMin then rneDiv (num * 2 ^ (negMin - i)) den else rneDiv num (den * 2 ^ (i - negMin))
  match (List.range (negMin + 16)).find? (fun i => decide (-1023 ≤ y i) && decide (y i ≤ 1023)) with
  | some i => low 5 ((i : Int) - negMin) * 2 ^ 11 + low 11 (y i)
  | none => 15 * 2 ^ 11 + low 11 (if num < 0 then -1023 else 1023)

/-- LINEAR16 mantissa of a field in 0.5 mV (R138, R578). -/
def linear16 (v : Nat) : Nat := (rneDiv ((v : Int) * 4096) 2000).toNat

/-- TMON inputs of a rail. DEDUCED (notes/assumptions/111.md): one whose EN is clear does not count. -/
def Chip.railTmons (c : Chip) (r : Nat) : List Nat := (List.range 32).filter (fun t => c.b (Tmon.EN t) && c.f (Tmon.RAIL t) == r)

/-- The highest TEMP mapped to a rail, in 1/8 °C; a rail without one has no value in the spec: a free value. -/
def Chip.railTemp (c : Chip) (r : Nat) : Int × Chip :=
  match c.railTmons r with
  | [] => let (w, c) := c.freeWord; (sgn 16 w.toNat, c)
  | t :: ts => (ts.foldl (fun m t => max m (c.fi (Tmon.TEMP t))) (c.fi (Tmon.TEMP t)), c)

/-! ### Status (R579) -/

/-- Bits of `HubH.latch` whose condition holds on a rail now. -/
def Chip.liveLatch (c : Chip) (r : Nat) : Nat :=
  let cause := c.f (Rail.OFF_CAUSE r)
  b2n (c.b (Rail.OV_ACTIVE r)) ||| causeBits cause
    ||| (if (c.mapped r).any (fun p => c.b (Phase.OC_LATCHED p)) then 2 else 0)
    ||| (if c.rl.vb48 then 32 else 0)
    ||| (if (c.railTmons r).any (fun t => (c.tmonH t).warned) then 128 else 0)

/-- The latched bits of a port and page. -/
def Chip.statusBits (c : Chip) (q page : Nat) : Nat := c.latched q page ||| c.liveLatch page

def Chip.statusCml (c : Chip) (q page : Nat) : Nat := c.latched q page / 256
def Chip.statusTemp (c : Chip) (q page : Nat) : Nat := bits (c.statusBits q page) 6 6 * 128 + bits (c.statusBits q page) 7 7 * 64
def Chip.statusInput (c : Chip) (q page : Nat) : Nat := bits (c.statusBits q page) 5 5 * 32 + bits (c.statusBits q page) 2 2 * 16
def Chip.statusIout (c : Chip) (q page : Nat) : Nat := bits (c.statusBits q page) 1 1 * 128
def Chip.statusVout (c : Chip) (q page : Nat) : Nat := bits (c.statusBits q page) 3 3 * 128 + bits (c.statusBits q page) 4 4 * 16

/-- The rail delivers nothing (bit OFF). -/
def Chip.statusOff (c : Chip) (r : Nat) : Bool := !c.b (Rail.EN r) || c.b (Rail.OFF_LATCHED r)

/-- STATUS_WORD of port `q` for a page. -/
def Chip.statusWord (c : Chip) (q page : Nat) : Nat :=
  let h := c.ten (q + 1)
  let high := b2n (c.statusVout q page != 0) * 128 + b2n (c.statusIout q page != 0) * 64 + b2n (c.statusInput q page != 0) * 32
    + b2n (!h.notices.isEmpty || !h.outbox.isEmpty) * 16
    + b2n (c.statusOff page || decide ((c.f (Rail.VSENSE page) : Int) < c.uvLevel page)) * 8
  let l := c.statusBits q page
  let low6 := b2n (c.statusOff page) * 64 + bits l 0 0 * 32 + bits l 1 1 * 16 + bits l 2 2 * 8
    + b2n (c.statusTemp q page != 0) * 4 + b2n (c.statusCml q page != 0) * 2
  high * 256 + low6 + b2n (low6 == 0 && high != 0)

/-- CLEAR_FAULTS: bits whose condition holds stay (R579). -/
def Chip.clearFaults (c : Chip) (q page : Nat) : Chip := c.setLatched q page (c.liveLatch page)

/-! ### What a command needs and where it runs -/

/-- The right that a command needs (R573, R578, R589); none for MFR_TENANT_RESET. -/
def cmdRight (code : Nat) (write : Bool) : Option Nat :=
  match code with
  | 0x01 => some (if write then 1 else 0)
  | 0x03 => some 1
  | 0x21 => some (if write then 2 else 0)
  | 0xD0 => some 3
  | 0xD1 => some 3
  | 0xD2 => some 4
  | 0xD3 => some 4
  | 0xD4 => some 7
  | 0xD5 => some 5
  | 0xD6 => some 6
  | 0xD8 => some 1
  | 0xD9 => none
  | _ => some 0

/-- A command that a Shadow's HUB carries out itself (R620). -/
def shadowLocal (code : Nat) (write : Bool) : Bool :=
  code == 0x00 || (code == 0x01 && !write) || (code == 0x21 && !write) || code == 0x19 || code == 0x20 || code == 0x24
    || (decide (0x78 ≤ code) && decide (code ≤ 0x9B)) || code == 0xD0 || code == 0xD1 || code == 0xD7

/-- A command that returns bytes and takes host bytes too, or none. -/
def returns (code : Nat) (write : Bool) : Bool := !write || code == 0xD0 || code == 0xD4 || code == 0xD5

/-- SEQ of a command that carries one (R592). -/
def seqOf (code : Nat) (bytes : List Byte) : Option Nat :=
  if code = 0xD0 ∨ code = 0xD2 ∨ code = 0xD6 then some ((bytes.headD 0).toNat) else none

/-- An operation of tenant `t` sends its first request (R571, R592). On I3C, and with STRETCH_MAX 0, a read that is not ready has its
address NACKed at once (R584, R595). -/
def Chip.startOp (c : Chip) (t page code : Nat) (bytes : List Byte) (fwd : Option Hdr) (i3c : Bool) (op : HostOp) (p : Pkt) (o : Nat → Owner) : Chip :=
  let old := c.ten t
  let wait := fwd.isNone && returns code (!bytes.isEmpty)
  let c := c.hostOp t { op with code := code, page := page, seq := seqOf code bytes, fwd := fwd } wait p o
  let h := c.ten t
  let h := if fwd.isSome then { h with ack := old.ack, out := old.out, await := old.await }
           else if wait && (i3c || c.f (Tenant.STRETCH_MAX t) == 0) then { h with ack := false, await := none } else h
  (c.setTen t h).hubTakeAll

/-- The retry cache answers a command that it holds; any other clears it (R593, R596, R597). -/
def Chip.cached (c : Chip) (t page code : Nat) (bytes : List Byte) (fwd : Option Hdr) (go : Chip → Chip) : Chip :=
  match (c.ten t).hit code page (seqOf code bytes) with
  | none => go (c.dropCache t)
  | some e =>
    if e.done then c.reply t fwd e.status (if returns code (!bytes.isEmpty) then e.bytes else [])
    else if returns code (!bytes.isEmpty) then
      match (c.ten t).ops.find? (fun o => o.code == code && o.page == page && o.seq == seqOf code bytes), fwd with
      | some o, none => c.setTen t { c.ten t with ack := true, out := [], await := some o.id }
      | some o, some _ =>
        let h := c.ten t
        (c.fwdDone t o.fwd stBusy []).setTen t { h with ops := h.ops.map (fun x => if x.id = o.id then { x with fwd := fwd } else x) }
      | none, _ => c.reply t fwd stOk []
    else c.reply t fwd stOk []

/-! ### Writes of B1 words on a host's behalf -/

/-- The HUB writes a word of a rail block at B1 for a host's command, with TENANT T0 (R574). DESIGN CHOICE
(notes/assumptions/53.md): T0 too where the command is OPERATION or MFR_RAIL_RESTART, and the word's other fields as they stand now. -/
def Chip.hubWriteCmd (c : Chip) (t page code : Nat) (bytes : List Byte) (a w : Nat) (fwd : Option Hdr) (i3c : Bool) : Chip :=
  let p := c.hubPkt 0 2 (a / 0x2000000) (a % 0x2000000) [BitVec.ofNat 32 w] 0
  c.startOp t page code bytes fwd i3c {} { p with hdr := { p.hdr with prio := c.f (Tenant.PRIO t) } } .host

/-- VSET of a VOUT_COMMAND mantissa (R105). -/
def voutSet (v : Nat) : Nat := (rneDiv ((v : Int) * 2000) 4096).toNat

/-- The VSET field of a word for B1, from the value a host asks for. DESIGN CHOICE (notes/assumptions/53.md): beyond the field's 12 bits it is
4,095; where the ceiling is no lower than that, the HUB's cut is the clamp of R38, and its event is posted as the request goes out. -/
def Chip.vsetWord (c : Chip) (r v : Nat) : Nat :=
  setBits (c.reg (Rail.VSET r).addr).toNat (Rail.VSET r).hi (Rail.VSET r).lo (min 4095 v)

@[inherit_doc Chip.vsetWord] def Chip.vsetCut (c : Chip) (r v tenant : Nat) : Chip :=
  if 4095 < v && c.f (Rail.VOUT_MAX r) == 4095 then c.ceilClamp 18 r tenant else c

/-! ### The commands -/

/-- Bytes of a text (R578). -/
def textBytes (s : String) : List Byte := s.toList.map (fun ch => BitVec.ofNat 8 ch.toNat)

/-- A read of the **PMBus commands** table: its bytes (R138, R139, R578, R579). -/
def Chip.telemetry (c : Chip) (q r code : Nat) : List Byte × Chip :=
  match code with
  | 0x00 => (toBytes 1 (c.f (PortQ.PAGE q)), c)
  | 0x01 => (toBytes 1 (if c.b (Rail.EN r) then 0x80 else 0), c)
  | 0x19 => ([0xD0], c)
  | 0x20 => ([0x14], c)
  | 0x21 => (toBytes 2 (linear16 (c.f (Rail.VSET r))), c)
  | 0x24 => (toBytes 2 (linear16 (c.f (Rail.VOUT_MAX r))), c)
  | 0x78 => (toBytes 1 (c.statusWord q r), c)
  | 0x79 => (toBytes 2 (c.statusWord q r), c)
  | 0x7A => (toBytes 1 (c.statusVout q r), c)
  | 0x7B => (toBytes 1 (c.statusIout q r), c)
  | 0x7C => (toBytes 1 (c.statusInput q r), c)
  | 0x7D => (toBytes 1 (c.statusTemp q r), c)
  | 0x7E => (toBytes 1 (c.statusCml q r), c)
  | 0x88 => (toBytes 2 (linear11 (c.f Board.VBUS12) 200 7), c)
  | 0x89 => (toBytes 2 (linear11 (c.f Board.IBUS) 16 4), c)
  | 0x8B => (toBytes 2 (rneDiv ((c.f (Rail.VSENSE r) : Int) * 4096) 4000).toNat, c)
  | 0x8C => (toBytes 2 (linear11 (c.fi (Rail.IRAIL r)) 16 4), c)
  | 0x8D => let (t, c) := c.railTemp r; (toBytes 2 (linear11 t 8 3), c)
  | 0x96 => (toBytes 2 (linear11 ((c.f (Rail.VSENSE r) : Int) * c.fi (Rail.IRAIL r)) 64000 2), c)
  | 0x98 => ([0x33], c)
  | 0x99 => (textBytes "KAZEC", c)
  | 0x9A => (textBytes "SK7240", c)
  | 0x9B => (textBytes "A2", c)
  | _ => ([], c)

/-- A code of the **PMBus commands** and **Manufacturer commands** tables (R576, R578, R589). -/
def knownCode (code : Nat) : Bool :=
  [0x00, 0x01, 0x03, 0x19, 0x20, 0x21, 0x24, 0x78, 0x79, 0x7A, 0x7B, 0x7C, 0x7D, 0x7E, 0x88, 0x89, 0x8B, 0x8C, 0x8D, 0x96, 0x98, 0x99,
    0x9A, 0x9B].contains code || (decide (0xD0 ≤ code) && decide (code ≤ 0xD9))

/-- A command of tenant `t` whose rights have been judged is performed: `bytes` are what the host sent after the code (R574–R597).
`fwd` is the header of the forwarding WR where the twin's Shadow sent it (R621). -/
def Chip.perform (c : Chip) (t page code : Nat) (write : Bool) (bytes : List Byte) (fwd : Option Hdr) (i3c : Bool) : Chip :=
  let q := t - 1
  let v := (ofBytes bytes)
  let b0 := (bytes.headD 0).toNat
  let c := if code = 0xD0 ∨ code = 0xD2 ∨ code = 0xD4 ∨ code = 0xD5 ∨ code = 0xD6 then c else c.dropCache t
  if !knownCode code then (c.cml t page 7).refuse t fwd stUnsup
  else if !write && code < 0xD0 then
    let x := c.telemetry q page code
    x.2.reply t fwd stOk x.1
  else match code with
    | 0x00 => if v < 16 then (c.put (PortQ.PAGE q) v).reply t fwd stOk [] else (c.cml t page 6).reply t fwd stOk []
    | 0x01 =>
      if v = 0x80 then c.hubWriteCmd t page code bytes (Rail.EN page).addr ((c.reg (Rail.EN page).addr).toNat ||| 1) fwd i3c
      else if v = 0 ∨ v = 0x40 then
        c.hubWriteCmd t page code bytes (Rail.EN page).addr (setBits (c.reg (Rail.EN page).addr).toNat 0 0 0) fwd i3c
      else (c.cml t page 6).reply t fwd stOk []
    | 0x03 => (c.clearFaults q page).reply t fwd stOk []
    | 0x21 => (c.vsetCut page (voutSet v) 0).hubWriteCmd t page code bytes (Rail.VSET page).addr (c.vsetWord page (voutSet v)) fwd i3c
    | 0xD0 => c.cached t page code bytes fwd (fun c =>
        let lock := (bytes[1]?).getD 0
        let prio := (bytes[2]?).getD 0
        let op := (bytes[3]?).getD 0
        let w := lock.toNat + prio.toNat % 16 * 2 ^ 8 + op.toNat % 4 * 2 ^ 12 + t * 2 ^ 16
        let p := c.hubPkt t 3 (if c.shadow then 88 else 24) (64 * lock.toNat) [BitVec.ofNat 32 w, 0, 0, 0] 0
        c.startOp t page code bytes fwd i3c {} p .host)
    | 0xD1 =>
      let h := c.ten t
      (match h.notices with
       | [] => c.reply t fwd stOk []
       | (a, b) :: _ => (c.noticeTaken t).reply t fwd stOk (toBytes 4 a.toNat ++ toBytes 4 b.toNat))
    | 0xD2 => c.cached t page code bytes fwd (fun c => c.msgSend t page (if fwd.isSome then 7 else t) bytes fwd i3c true)
    | 0xD3 =>
      let h := c.ten t
      (match h.outbox with
       | [] => c.reply t fwd stOk []
       | m :: ms => (c.setTen t { h with outbox := ms }).reply t fwd stOk ((m.flatMap (fun w => toBytes 4 w.toNat)).take (4 + wordAt m 0 % 64)))
    | 0xD4 => c.cached t page code bytes fwd (fun c =>
        let i := ((bytes[1]?).getD 0).toNat
        let a := if i < 4 then some (niBase b0 + (Bank.CNTk_LO 0 i).addr - niBase 0)
                 else if 32 ≤ i ∧ i < 64 ∧ b0 = 30 then some (Seq.CCj_LO (i - 32)).addr else none
        match a with
        | none => (c.latErr t page code stAddr).reply t fwd stAddr (opBytes code none stAddr [])
        | some a =>
          let p := c.hubPkt t 1 (a / 0x2000000) ((a + 4) % 0x2000000) [] 0
          c.startOp t page code bytes fwd i3c { addr := a } p .host)
    | 0xD5 => c.cached t page code bytes fwd (fun c =>
        let a := v % 2 ^ 32
        c.startOp t page code bytes fwd i3c { addr := a } (c.hubPkt t 1 (a / 0x2000000) (a % 0x2000000) [] 0) .host)
    | 0xD6 => c.cached t page code bytes fwd (fun c =>
        let a := v / 2 ^ 8 % 2 ^ 32
        let w : Word := BitVec.ofNat 32 (v / 2 ^ 40)
        c.startOp t page code bytes fwd i3c { addr := a } (c.hubPkt t 2 (a / 0x2000000) (a % 0x2000000) [w] 0) .host)
    | 0xD7 => c.reply t fwd stOk (toBytes 4 (c.reg (Tenant.TENFAULT t).addr).toNat
        ++ toBytes 2 (c.f (Tenant.DROP_FRAMES t)) ++ toBytes 2 (c.f (Tenant.NOTICE_LOST t)))
    | 0xD8 => if v = 0xA5 then
          c.hubWriteCmd t page code bytes (Rail.RESTART page).addr (2 ^ (Rail.RESTART page).lo) fwd i3c
        else (c.cml t page 6).reply t fwd stOk []
    | 0xD9 => if v = 0x5A then (c.reply t fwd stOk []).tenantReset t else (c.cml t page 6).reply t fwd stOk []
    | _ => (c.cml t page 7).refuse t fwd stUnsup

/-! ### Forwarding (R620, R621) -/

/-- Words of the forwarding WRs of a command: at most 60 bytes each. -/
def fwdChunks (t page code : Nat) : Nat → List Byte → List (List Word)
  | 0, _ => []
  | k + 1, bs =>
    let n := min 60 bs.length
    let w0 := t + page % 16 * 2 ^ 8 + b2n (decide (bs.length ≤ 60)) * 2 ^ 12 + code * 2 ^ 16 + n * 2 ^ 24
    (BitVec.ofNat 32 w0 :: toWords ((n + 3) / 4) (ofBytes (bs.take 60)))
      :: (if bs.length ≤ 60 then [] else fwdChunks t page code k (bs.drop 60))

/-- A Shadow's HUB forwards a command. -/
def Chip.forward (c : Chip) (t page code : Nat) (write : Bool) (bytes : List Byte) (i3c : Bool) : Chip :=
  c.cached t page code bytes none (fun c =>
    let ws := fwdChunks t page code (bytes.length / 60 + 1) bytes
    let pkt (w : List Word) : Pkt := c.hubPkt t 2 64 (0x1000800 + 0x40 * t) w (w.length - 1)
    let id := (c.ten t).nextId
    let wait := returns code write
    let old := c
    let c := c.hostOp t { code := code, page := page, seq := seqOf code bytes, left := ws.length, reads := wait } wait
      (pkt (ws.headD [])) .fwd
    let c := forL (ws.drop 1) (fun w c => c.request 0 (pkt w) (.fwd (8 * id + t))) c
    let c := if wait && (i3c || old.f (Tenant.STRETCH_MAX t) == 0) then c.setTen t { c.ten t with ack := false, await := none } else c
    c.hubTakeAll)

/-! ### A transaction at a port -/

/-- A write whose STOP has not come: nothing is performed, and the bytes of an MFR_MSG_SEND stand in the ring unpublished (R604, R605, R615). -/
def Chip.holdTx (c : Chip) (t page code : Nat) (bytes : List Byte) (i3c : Bool) : Chip :=
  if code = 0xD2 && !c.shadow && ((c.ten t).hit 0xD2 page (seqOf code bytes)).isNone then
    let x := c.frameFill t t (bytes.headD 0).toNat (bytes.drop 1)
    if x.1 then (x.2.setTen t { x.2.ten t with filling := true }).hostOut t true [] else (x.2.i3cDiscard t i3c).hostOut t false []
  else c.hostOut t true []

/-- A host's transaction on PMBus or I3C (R568, R572–R576, R582–R584, R617): `write` says that the host sends command bytes;
a frame of MFR_MSG_SEND whose PEC is not good is dropped and counted, as is one that was being filled when the transaction ended early
(R605). -/
def Chip.hostTx (c : Chip) (x : HostTx) (code : Nat) (write : Bool) (bytes : List Byte) : Chip :=
  let q := x.port.val
  let t := q + 1
  let c := c.fillDrop t
  let page := c.pageOf t
  let p := c.portH q
  if !c.portServes q x.i3c || (x.i3c && (p.dyn.isNone || p.hdr)) || c.b (Tenant.RESETTING t) then c.hostOut t false []
  else if 8 ≤ (c.ten t).ops.length then (c.tenFault t 0).hostOut t false []
  else if (match cmdRight code write with | some r => !c.hasRight t r | none => false) then
    ((((c.cml t page 7).tenFault t 1).i3cDiscard t x.i3c).hostOut t false [])
  else
    let pecBad := !x.i3c && write && (x.pec == some false || (x.pec.isNone && c.b (PortQ.PEC_REQ q)))
    if write && !x.ended && !(code == 0xD0 || code == 0xD4 || code == 0xD5) then c.holdTx t page code bytes x.i3c
    else if pecBad then
      let c := (c.cml t page 5).tenFault t 2
      let c := if code = 0xD2 && !c.shadow && ((c.ten t).hit 0xD2 page (seqOf code bytes)).isNone then
          c.msgSend t page t bytes none false false else c
      c.hostOut t x.pec.isNone []
    else if c.shadow && !shadowLocal code write then c.forward t page code write bytes x.i3c
    else c.perform t page code write bytes none x.i3c

/-! ### AVSBus (R64, R74, R585–R588) -/

/-- The HUB refuses a frame of AVSBus port `p`: the acknowledge reports the command not performed. -/
def Chip.avsNo (c : Chip) (p : Nat) : Chip := c.setAvs p { c.avs p with ack := false, out := 0 }

/-- A refusal for the owner (R586, R588). -/
def Chip.avsNotOwner (c : Chip) (p : Nat) : Chip := ((c.tenFault (3 + p / 2) 4).putB (Avs.ALERT p) true).avsNo p

/-- The frame is performed and returns a value. -/
def Chip.avsOk (c : Chip) (p v : Nat) : Chip := c.setAvs p { c.avs p with ack := true, out := v }

/-- The port takes frames of its tenant; a full ingress queue sets INGRESS_FULL (R572, R617). -/
def Chip.avsFrame (c : Chip) (p : Nat) (go : Chip → Chip) : Chip :=
  let t := 3 + p / 2
  if !c.hubRuns || c.b (Tenant.RESETTING t) then c.avsNo p
  else if 8 ≤ (c.ten t).ops.length then (c.tenFault t 0).avsNo p
  else go c

/-- A command to an enabled select: its rail. -/
def Chip.avsRail (c : Chip) (p sel : Nat) (go : Nat → Chip → Chip) : Chip :=
  c.avsFrame p (fun c => match c.avsSel p sel with | some r => go r c | none => c.avsNotOwner p)

/-- A read of status or telemetry needs TELEM (R573). DEDUCED (notes/assumptions/112.md): on AVSBus too. -/
def Chip.avsRead (c : Chip) (p sel : Nat) (go : Nat → Chip → Chip) : Chip :=
  c.avsRail p sel (fun r c => if c.hasRight (3 + p / 2) 0 then go r c else (c.tenFault (3 + p / 2) 1).avsNo p)

/-- Port `p` may write the rail (R104, R586); a Shadow's HUB performs no AVSBus write. -/
def Chip.avsOwns (c : Chip) (p r : Nat) : Bool := c.f (Rail.SP_OWNER r) == 8 + p

/-- The requests of one AVSBus operation of port `p`, as (word address, word) pairs: they enter the tenant's ingress queue and the HUB's NI
together (R571). -/
def Chip.avsOp (c : Chip) (p prio : Nat) (ws : List (Nat × Nat)) : Chip :=
  let t := 3 + p / 2
  let pkt (x : Nat × Nat) : Pkt :=
    let k := c.hubPkt t 2 18 (x.1 % 0x2000000) [BitVec.ofNat 32 x.2] 0
    { k with hdr := { k.hdr with prio := prio } }
  match ws with
  | [] => c
  | x :: xs =>
    let id := (c.ten t).nextId
    let c := c.hostOp t { code := 0x100 + p, left := ws.length } false (pkt x) .host
    (forL xs (fun y c => c.request 0 (pkt y) (.host (8 * id + t))) c).hubTakeAll

/-- The tenant's Sieve holds a token for priority 3 and no other committed write of the tenant is queued (R65). -/
def Chip.avsReady (c : Chip) (t : Nat) : Bool :=
  c.b (Ni.SIEVEt_P3_EN 0 t) && c.hasToken 0 t && !(c.ten t).ops.any (fun o => decide (0x100 ≤ o.code))

/-- What a commit of port `p` asks of select `k`, where the frame itself brings `own` (R587). -/
def AvsH.asks (h : AvsH) (own : Nat → Option Nat) (k : Nat) : Option Nat :=
  match own k with | some v => some v | none => (match mget 0 h.held k with | 0 => none | m + 1 => some m)

/-- A committed voltage write of each select that `own` names or that holds a value, in ascending select order, at priority 3 (R64, R585–R587). -/
def Chip.avsCommit (c : Chip) (p : Nat) (own : Nat → Option Nat) : Chip :=
  let h := c.avs p
  let ready := c.avsReady (3 + p / 2)
  let c := c.avsOk p 0
  let sels := (List.range 15).filterMap (fun k => (h.asks own k).map (fun v => (k, v)))
  let good := sels.filterMap (fun x => (c.avsSel p x.1).bind (fun r => if c.avsOwns p r then some (r, x.2) else none))
  let c := if good.length = sels.length then c else c.avsNotOwner p
  let c := c.setAvs p { c.avs p with held := [], sent := c.clock, ready := ready }
  let c := forL good (fun x c => c.vsetCut x.1 x.2 (3 + p / 2)) c
  c.avsOp p 3 (good.map (fun x => ((Rail.VSET x.1).addr, c.vsetWord x.1 x.2)))

/-- A voltage write-and-commit of VSET `v` to a select, 15 for every enabled one (R64, R105, R586, R587). -/
def Chip.avsWrite (c : Chip) (p sel v : Nat) : Chip :=
  c.avsFrame p (fun c =>
    if c.shadow then c.avsNo p
    else if sel = 15 then c.avsCommit p (fun k => if (c.avsSel p k).isSome then some v else none)
    else match c.avsSel p sel with
      | some r => if c.avsOwns p r then c.avsCommit p (fun k => if k = sel then some v else none) else c.avsNotOwner p
      | none => c.avsNotOwner p)

/-- R65 was met by the port's last commit: its Sieve, its queue, and every link of the HUB's route to B1 since. -/
def Chip.avsMet (c : Chip) (p : Nat) : Bool :=
  (c.avs p).ready
    && (routeLinks 0 (routeCodes ((c.route 0 18).getD 0))).all (fun k => decide (mget 0 c.lat.busy0 k ≤ (c.avs p).sent))

/-- VSET for `mv` millivolts (R105). -/
def avsSet (mv : Nat) : Nat := 2 * mv

end Sys2Proof.Machine
end

