-- ==== Sys2Proof/Machine/Accept.lean ====
section
/-! DEFINITION. How a node's target logic takes the oldest request of its NI: space for the response, misrouted and malformed
packets, LOCK requests, forwarding slots, and reads that park (R231, R280, R281, R296, R515–R519, R967, R986). -/

namespace Sys2Proof.Machine

open Reg

/-- Flits of a request's response where it is answered OK (R231). -/
def rspSize (h : Hdr) : Nat := if h.typ = 1 then 1 + (h.len + 4) / 4 else if h.typ = 2 then 1 else 2

/-- The response queue of 8 flits has room for the request's whole response (R280). -/
def Chip.rspRoom (c : Chip) (n : Nat) (h : Hdr) : Bool :=
  decide (((c.ni n).rsp.foldl (fun a p => a + p.size) 0) + rspSize h ≤ 8)

/-- The node answers a request with a status and no data. -/
def Chip.answer (c : Chip) (n : Nat) (h : Hdr) (status : Nat) : Chip :=
  c.respond n { hdr := rspHdr h (rspType h.typ) status }

/-- The requester of a LOCK request (R514): ORIG_TENANT and SRC. -/
def requester (orig : Nat) (h : Hdr) : Nat := 128 * orig + h.src

/-- The group's MASK admits both tenants (R515). -/
def Chip.lockAdmits (c : Chip) (lock orig tenant : Nat) : Bool :=
  bit (c.f (Lgrp.MASK (lockGroup lock))) tenant && bit (c.f (Lgrp.MASK (lockGroup lock))) orig

/-- A LOCK request reaches LOCK (R273, R296, R515, R519): LOCK answers it itself. -/
def Chip.lockTake (c : Chip) (h : Hdr) (poison : Bool) (w : Nat) : Chip :=
  let lock := w % 256
  let orig := bits w 18 16
  if c.fenced 24 then c.answer 24 h stFenced
  else if poison then c.answer 24 h stData
  else if bits w 13 12 = 3 then c.answer 24 h stUnsup
  else if !c.lockAdmits lock orig h.tenant then c.answer 24 h stDenied
  else c.lockAct (.request h (requester orig h) (bits w 13 12) lock (bits w 11 8) (c.role == 3))

/-- Parking places of a G port (R281). -/
def parkPlaces : Nat := 8

/-- A RD or WR is taken up: it parks, or it is judged, performed and answered. -/
def Chip.rdwr (c : Chip) (u : LockUnit) (n : Nat) (p : Pkt) : Chip :=
  let h := p.hdr
  let write := h.typ == 2
  if !write && c.judge n h false false 0 == stOk && c.mustWait n h.offset then
    if parkPlaces ≤ (c.ni n).parked.length then c.answer n h stBusy
    else c.setNi n { c.ni n with parked := (c.ni n).parked ++ [p] }
  else
    let x := c.access u n h write p.poison p.words
    x.2.2.respond n { hdr := rspHdr h (rspType h.typ) x.1, words := if x.1 = stOk then x.2.1 else [] }

/-- A forwarding WR is taken at the twin's HUB (R570, R573, R621). -/
def Chip.slotWr (c : Chip) (p : Pkt) : Chip :=
  let h := p.hdr
  let rsp (st : Nat) (c : Chip) : Chip := c.respond 0 { hdr := rspHdr h 7 st }
  let st := c.judge 0 h true p.poison 0
  if st ≠ stOk then rsp st c
  else
    let w0 := wordAt p.words 0
    let t := w0 % 8
    let page := bits w0 11 8
    let code := bits w0 23 16
    let bytes := (toBytes 60 (ofWords (p.words.drop 1))).take (min 60 (w0 / 2 ^ 24))
    let x := c.ten t
    let all := x.fwdBytes ++ bytes
    if !bit w0 12 then rsp stOk (c.setTen t { x with fwdBytes := all })
    else
      let c := c.setTen t { x with fwdBytes := [] }
      let write := !all.isEmpty || code == 0x03
      if c.b (Tenant.RESETTING t) then rsp stBusy c
      else if 8 ≤ x.ops.length then rsp stBusy (c.tenFault t 0)
      else if (match cmdRight code write with | some r => !c.hasRight t r | none => false) then
        rsp stDenied ((c.cml t page 7).tenFault t 1)
      else c.perform t page code write all (some h) false

/-- The node takes the oldest request of its NI. -/
def Chip.acceptReq (c : Chip) (u : LockUnit) (n : Nat) : Chip :=
  match (c.ni n).in2 with
  | [] => c
  | p :: ps =>
    let h := p.hdr
    if !c.rspRoom n h then c
    else
      let c := c.setNi n { c.ni n with in2 := ps }
      if typeVc h.typ ≠ some 2 then (c.niErr n 4 h h.src).answer n h stUnsup
      else if h.dst ≠ n then (c.niErr n 7 h h.src).answer n h stAddr
      else if h.typ = 3 && !(n == 24 && decide (h.offset < 0x4000)) then (c.niErr n 4 h h.src).answer n h stUnsup
      else if h.typ = 3 then c.lockTake h p.poison (wordAt p.words 0)
      else if n = 0 && h.typ == 2 && slotReq h then c.slotWr p
      else c.rdwr u n p

/-- A parked read of node `n` completes: the oldest one that finds its token, once its response has room (R194, R280, R281). -/
def Chip.parkedDone (c : Chip) (u : LockUnit) (n : Nat) : Chip :=
  match takeFirst (fun p => !c.mustWait n p.hdr.offset) (c.ni n).parked with
  | none => c
  | some (p, rest) => if c.rspRoom n p.hdr then (c.setNi n { c.ni n with parked := rest }).rdwr u n p else c

/-- R280: a request waits until its response has room. -/
def execRequestAccept (n : Fin 49) (s : State) : Host.Outcome State Fault Refusal := s.run (fun u c => c.acceptReq u n)

/-- R194, R281. -/
def execParkedReadComplete (n : Fin 4) (s : State) : Host.Outcome State Fault Refusal := s.run (fun u c => c.parkedDone u (gNode n))

/-! ### LOCK's own commands (R515–R548) -/

/-- A lock operation that a command names directly: its LOCK request reaches LOCK's NI. -/
def Chip.lockOp (c : Chip) (q : Sender) (orig lock prio op : Nat) : Chip :=
  c.lockTake { cmdHdr q 24 (64 * lock) 0 15 false with typ := 3 } false (lock + prio * 2 ^ 8 + op * 2 ^ 12 + orig * 2 ^ 16)

/-- R523, R524. -/
def execLockAcquire (q : Sender) (orig : Fin 8) (lock : Fin 256) (prio : Fin 16) (s : State) : Host.Outcome State Fault Refusal :=
  s.runC (fun c => c.lockOp q orig lock prio 0)

/-- R525. -/
def execLockTry (q : Sender) (orig : Fin 8) (lock : Fin 256) (prio : Fin 16) (s : State) : Host.Outcome State Fault Refusal :=
  s.runC (fun c => c.lockOp q orig lock prio 2)

/-- R526, R527. -/
def execLockRelease (q : Sender) (orig : Fin 8) (lock : Fin 256) (s : State) : Host.Outcome State Fault Refusal :=
  s.runC (fun c => c.lockOp q orig lock 0 1)

/-- R534: LOCK sends held notices as its NI's send queue has room. -/
def execNoticeSendPending (s : State) : Host.Outcome State Fault Refusal := s.runC (fun c => c.lockAct .flush)

/-- R532, R533. -/
def execNoticeDelivery (p : Fin 4) (s : State) : Host.Outcome State Fault Refusal := s.runC (fun c => c.noticeDeliver p)

/-- R542, R543: a group's HOLD_TMO of 0 means no timeout. -/
def execLockHoldTmo (lock : Fin 256) (s : State) : Host.Outcome State Fault Refusal :=
  s.runC (fun c =>
    if c.f (Lgrp.HOLD_TMO (lockGroup lock)) = 0 then c else c.lockAct (.holdTmo lock (c.b (Lgrp.FORCE_TMO (lockGroup lock)))))

/-- R544. -/
def execLockForce (lock : Fin 256) (q : Sender) (s : State) : Host.Outcome State Fault Refusal :=
  s.run (fun u c => c.cmdWrite u 24 (0x1001000 + 8 * lock + 4) q 1)

/-- R548. -/
def execLockQuarantineEnd (t : Fin 8) (n : Option (Fin 49)) (s : State) : Host.Outcome State Fault Refusal :=
  s.runC (fun c => c.lockAct (.quarEnd t (n.map Fin.val)))

end Sys2Proof.Machine
end

