-- ==== Sys2Proof/Machine/EaselWord.lean ====
section
/-! DEFINITION. The 32-bit word of every Easel instruction command (R430–R440, R456–R497), and the command that a
word spells. Fields that a description marks zero are operands of the command: a word with one of them not 0 is the
same command, which then raises ILLEGAL (R432). -/

namespace Sys2Proof.Machine

/-- The instruction word of an Easel instruction command; 0 for any other command. -/
def easelWord (i : Instr) : Word :=
  match i with
  | .add _ rd rs1 rs2 => (0x0#6 ++ rd ++ rs1 ++ rs2 ++ 0x0#11 : BitVec 32)
  | .addS _ rd rs1 rs2 => (0x0#6 ++ rd ++ rs1 ++ rs2 ++ 0x1#11 : BitVec 32)
  | .sub _ rd rs1 rs2 => (0x0#6 ++ rd ++ rs1 ++ rs2 ++ 0x2#11 : BitVec 32)
  | .subS _ rd rs1 rs2 => (0x0#6 ++ rd ++ rs1 ++ rs2 ++ 0x3#11 : BitVec 32)
  | .and_ _ rd rs1 rs2 => (0x0#6 ++ rd ++ rs1 ++ rs2 ++ 0x4#11 : BitVec 32)
  | .or_ _ rd rs1 rs2 => (0x0#6 ++ rd ++ rs1 ++ rs2 ++ 0x5#11 : BitVec 32)
  | .xor_ _ rd rs1 rs2 => (0x0#6 ++ rd ++ rs1 ++ rs2 ++ 0x6#11 : BitVec 32)
  | .sll _ rd rs1 rs2 => (0x0#6 ++ rd ++ rs1 ++ rs2 ++ 0x8#11 : BitVec 32)
  | .srl _ rd rs1 rs2 => (0x0#6 ++ rd ++ rs1 ++ rs2 ++ 0x9#11 : BitVec 32)
  | .sra _ rd rs1 rs2 => (0x0#6 ++ rd ++ rs1 ++ rs2 ++ 0xA#11 : BitVec 32)
  | .slli _ rd rs1 sh => (0x0#6 ++ rd ++ rs1 ++ sh ++ 0xC#11 : BitVec 32)
  | .srli _ rd rs1 sh => (0x0#6 ++ rd ++ rs1 ++ sh ++ 0xD#11 : BitVec 32)
  | .srai _ rd rs1 sh => (0x0#6 ++ rd ++ rs1 ++ sh ++ 0xE#11 : BitVec 32)
  | .slt _ rd rs1 rs2 => (0x0#6 ++ rd ++ rs1 ++ rs2 ++ 0x10#11 : BitVec 32)
  | .sltu _ rd rs1 rs2 => (0x0#6 ++ rd ++ rs1 ++ rs2 ++ 0x11#11 : BitVec 32)
  | .min _ rd rs1 rs2 => (0x0#6 ++ rd ++ rs1 ++ rs2 ++ 0x12#11 : BitVec 32)
  | .minU _ rd rs1 rs2 => (0x0#6 ++ rd ++ rs1 ++ rs2 ++ 0x13#11 : BitVec 32)
  | .max _ rd rs1 rs2 => (0x0#6 ++ rd ++ rs1 ++ rs2 ++ 0x14#11 : BitVec 32)
  | .maxU _ rd rs1 rs2 => (0x0#6 ++ rd ++ rs1 ++ rs2 ++ 0x15#11 : BitVec 32)
  | .abs _ rd rs1 z => (0x0#6 ++ rd ++ rs1 ++ z ++ 0x18#11 : BitVec 32)
  | .clz _ rd rs1 z => (0x0#6 ++ rd ++ rs1 ++ z ++ 0x19#11 : BitVec 32)
  | .sat _ rd rs1 n => (0x0#6 ++ rd ++ rs1 ++ n ++ 0x1C#11 : BitVec 32)
  | .satU _ rd rs1 n => (0x0#6 ++ rd ++ rs1 ++ n ++ 0x1D#11 : BitVec 32)
  | .addi _ rd rs1 imm => (0x1#6 ++ rd ++ rs1 ++ imm : BitVec 32)
  | .andi _ rd rs1 imm => (0x2#6 ++ rd ++ rs1 ++ imm : BitVec 32)
  | .ori _ rd rs1 imm => (0x3#6 ++ rd ++ rs1 ++ imm : BitVec 32)
  | .xori _ rd rs1 imm => (0x4#6 ++ rd ++ rs1 ++ imm : BitVec 32)
  | .lui _ rd z imm => (0x5#6 ++ rd ++ z ++ imm : BitVec 32)
  | .mul _ rd rs1 rs2 => (0x8#6 ++ rd ++ rs1 ++ rs2 ++ 0x0#11 : BitVec 32)
  | .mulh _ rd rs1 rs2 => (0x8#6 ++ rd ++ rs1 ++ rs2 ++ 0x1#11 : BitVec 32)
  | .mulhU _ rd rs1 rs2 => (0x8#6 ++ rd ++ rs1 ++ rs2 ++ 0x2#11 : BitVec 32)
  | .mulq15 _ rd rs1 rs2 => (0x8#6 ++ rd ++ rs1 ++ rs2 ++ 0x4#11 : BitVec 32)
  | .mulq31 _ rd rs1 rs2 => (0x8#6 ++ rd ++ rs1 ++ rs2 ++ 0x5#11 : BitVec 32)
  | .mulq15R _ rd rs1 rs2 => (0x8#6 ++ rd ++ rs1 ++ rs2 ++ 0x6#11 : BitVec 32)
  | .mulq31R _ rd rs1 rs2 => (0x8#6 ++ rd ++ rs1 ++ rs2 ++ 0x7#11 : BitVec 32)
  | .macq15 _ z ad rs1 rs2 => (0x9#6 ++ z ++ ad ++ rs1 ++ rs2 ++ 0x0#11 : BitVec 32)
  | .macq31 _ z ad rs1 rs2 => (0x9#6 ++ z ++ ad ++ rs1 ++ rs2 ++ 0x1#11 : BitVec 32)
  | .macq31R _ z ad rs1 rs2 => (0x9#6 ++ z ++ ad ++ rs1 ++ rs2 ++ 0x3#11 : BitVec 32)
  | .msuq15 _ z ad rs1 rs2 => (0x9#6 ++ z ++ ad ++ rs1 ++ rs2 ++ 0x4#11 : BitVec 32)
  | .msuq31 _ z ad rs1 rs2 => (0x9#6 ++ z ++ ad ++ rs1 ++ rs2 ++ 0x5#11 : BitVec 32)
  | .msuq31R _ z ad rs1 rs2 => (0x9#6 ++ z ++ ad ++ rs1 ++ rs2 ++ 0x7#11 : BitVec 32)
  | .accrQ31 _ rd z as_ z2 sh r => (0xA#6 ++ rd ++ z ++ as_ ++ z2 ++ 0x0#3 ++ sh ++ r ++ 0x0#2 : BitVec 32)
  | .accrQ15 _ rd z as_ z2 sh r => (0xA#6 ++ rd ++ z ++ as_ ++ z2 ++ 0x0#3 ++ sh ++ r ++ 0x1#2 : BitVec 32)
  | .accrHi _ rd z as_ z2 z3 => (0xA#6 ++ rd ++ z ++ as_ ++ z2 ++ 0x0#3 ++ z3 ++ 0x2#2 : BitVec 32)
  | .accrLo _ rd z as_ z2 z3 => (0xA#6 ++ rd ++ z ++ as_ ++ z2 ++ 0x0#3 ++ z3 ++ 0x3#2 : BitVec 32)
  | .accwPair _ z ad rs1 rs2 z2 => (0xA#6 ++ z ++ ad ++ rs1 ++ rs2 ++ 0x1#3 ++ z2 ++ 0x0#2 : BitVec 32)
  | .accwQ31 _ z ad rs1 rs2 z2 => (0xA#6 ++ z ++ ad ++ rs1 ++ rs2 ++ 0x1#3 ++ z2 ++ 0x1#2 : BitVec 32)
  | .accwQ15 _ z ad rs1 rs2 z2 => (0xA#6 ++ z ++ ad ++ rs1 ++ rs2 ++ 0x1#3 ++ z2 ++ 0x2#2 : BitVec 32)
  | .accz _ z ad z2 z3 => (0xA#6 ++ z ++ ad ++ z2 ++ 0x2#3 ++ z3 ++ 0x0#2 : BitVec 32)
  | .tbli _ rd rs1 rs2 z r sg k => (0xB#6 ++ rd ++ rs1 ++ rs2 ++ z ++ r ++ sg ++ k : BitVec 32)
  | .ldw _ rd rs1 imm => (0x10#6 ++ rd ++ rs1 ++ imm : BitVec 32)
  | .ldh _ rd rs1 imm => (0x11#6 ++ rd ++ rs1 ++ imm : BitVec 32)
  | .ldhu _ rd rs1 imm => (0x12#6 ++ rd ++ rs1 ++ imm : BitVec 32)
  | .ldb _ rd rs1 imm => (0x13#6 ++ rd ++ rs1 ++ imm : BitVec 32)
  | .ldbu _ rd rs1 imm => (0x14#6 ++ rd ++ rs1 ++ imm : BitVec 32)
  | .stw _ rt rs1 imm => (0x18#6 ++ rt ++ rs1 ++ imm : BitVec 32)
  | .sth _ rt rs1 imm => (0x19#6 ++ rt ++ rs1 ++ imm : BitVec 32)
  | .stb _ rt rs1 imm => (0x1A#6 ++ rt ++ rs1 ++ imm : BitVec 32)
  | .beq _ rs2 rs1 imm => (0x20#6 ++ rs2 ++ rs1 ++ imm : BitVec 32)
  | .bne _ rs2 rs1 imm => (0x21#6 ++ rs2 ++ rs1 ++ imm : BitVec 32)
  | .blt _ rs2 rs1 imm => (0x22#6 ++ rs2 ++ rs1 ++ imm : BitVec 32)
  | .bge _ rs2 rs1 imm => (0x23#6 ++ rs2 ++ rs1 ++ imm : BitVec 32)
  | .bltu _ rs2 rs1 imm => (0x24#6 ++ rs2 ++ rs1 ++ imm : BitVec 32)
  | .bgeu _ rs2 rs1 imm => (0x25#6 ++ rs2 ++ rs1 ++ imm : BitVec 32)
  | .jal _ rd z imm => (0x26#6 ++ rd ++ z ++ imm : BitVec 32)
  | .jalr _ rd rs1 imm => (0x27#6 ++ rd ++ rs1 ++ imm : BitVec 32)
  | .loop _ z rs1 imm => (0x28#6 ++ z ++ rs1 ++ imm : BitVec 32)
  | .slottx _ z rs1 z2 z3 n6 => (0x2C#6 ++ z ++ rs1 ++ z2 ++ z3 ++ n6 : BitVec 32)
  | .slotrx _ rd z z2 hi ch => (0x2D#6 ++ rd ++ z ++ z2 ++ hi ++ ch : BitVec 32)
  | .glzrd _ rd z z2 pair ch => (0x2E#6 ++ rd ++ z ++ z2 ++ pair ++ ch : BitVec 32)
  | .glzwr _ z rs1 z2 z3 => (0x2F#6 ++ z ++ rs1 ++ z2 ++ z3 : BitVec 32)
  | .dqpush _ z rs1 rs2 z2 => (0x30#6 ++ z ++ rs1 ++ rs2 ++ z2 : BitVec 32)
  | .dqpop _ rd z z2 z3 => (0x31#6 ++ rd ++ z ++ z2 ++ z3 : BitVec 32)
  | .dqwait _ z n z2 k => (0x32#6 ++ z ++ n ++ z2 ++ k : BitVec 32)
  | .ltrd _ z tk rs1 imm => (0x34#6 ++ z ++ tk ++ rs1 ++ imm : BitVec 32)
  | .ltwr _ z tk rs1 rs2 z2 => (0x35#6 ++ z ++ tk ++ rs1 ++ rs2 ++ z2 : BitVec 32)
  | .ltwait _ rd rs1 z z2 => (0x36#6 ++ rd ++ rs1 ++ z ++ z2 : BitVec 32)
  | .evpost _ z rs1 rs2 code => (0x37#6 ++ z ++ rs1 ++ rs2 ++ code : BitVec 32)
  | .lkacq _ rd rs1 z prio => (0x38#6 ++ rd ++ rs1 ++ z ++ prio : BitVec 32)
  | .lkrel _ z rs1 z2 z3 => (0x39#6 ++ z ++ rs1 ++ z2 ++ z3 : BitVec 32)
  | .mfs _ rd z z2 sr => (0x3C#6 ++ rd ++ z ++ z2 ++ sr : BitVec 32)
  | .mts _ rt z z2 sr => (0x3D#6 ++ rt ++ z ++ z2 ++ sr : BitVec 32)
  | .ecall _ z code => (0x3E#6 ++ z ++ code : BitVec 32)
  | .eret _ z => (0x3F#6 ++ z ++ 0x1#11 : BitVec 32)
  | .wfi _ z => (0x3F#6 ++ z ++ 0x2#11 : BitVec 32)
  | .fence _ z => (0x3F#6 ++ z ++ 0x3#11 : BitVec 32)
  | .halt _ z => (0x3F#6 ++ z ++ 0x4#11 : BitVec 32)
  | _ => 0

/-- The tile that an Easel instruction command names; none for any other command. -/
def easelTile (i : Instr) : Option (Fin 28) :=
  match i with
  | .add t _ _ _ => some t
  | .addS t _ _ _ => some t
  | .sub t _ _ _ => some t
  | .subS t _ _ _ => some t
  | .and_ t _ _ _ => some t
  | .or_ t _ _ _ => some t
  | .xor_ t _ _ _ => some t
  | .sll t _ _ _ => some t
  | .srl t _ _ _ => some t
  | .sra t _ _ _ => some t
  | .slli t _ _ _ => some t
  | .srli t _ _ _ => some t
  | .srai t _ _ _ => some t
  | .slt t _ _ _ => some t
  | .sltu t _ _ _ => some t
  | .min t _ _ _ => some t
  | .minU t _ _ _ => some t
  | .max t _ _ _ => some t
  | .maxU t _ _ _ => some t
  | .abs t _ _ _ => some t
  | .clz t _ _ _ => some t
  | .sat t _ _ _ => some t
  | .satU t _ _ _ => some t
  | .addi t _ _ _ => some t
  | .andi t _ _ _ => some t
  | .ori t _ _ _ => some t
  | .xori t _ _ _ => some t
  | .lui t _ _ _ => some t
  | .mul t _ _ _ => some t
  | .mulh t _ _ _ => some t
  | .mulhU t _ _ _ => some t
  | .mulq15 t _ _ _ => some t
  | .mulq31 t _ _ _ => some t
  | .mulq15R t _ _ _ => some t
  | .mulq31R t _ _ _ => some t
  | .macq15 t _ _ _ _ => some t
  | .macq31 t _ _ _ _ => some t
  | .macq31R t _ _ _ _ => some t
  | .msuq15 t _ _ _ _ => some t
  | .msuq31 t _ _ _ _ => some t
  | .msuq31R t _ _ _ _ => some t
  | .accrQ31 t _ _ _ _ _ _ => some t
  | .accrQ15 t _ _ _ _ _ _ => some t
  | .accrHi t _ _ _ _ _ => some t
  | .accrLo t _ _ _ _ _ => some t
  | .accwPair t _ _ _ _ _ => some t
  | .accwQ31 t _ _ _ _ _ => some t
  | .accwQ15 t _ _ _ _ _ => some t
  | .accz t _ _ _ _ => some t
  | .tbli t _ _ _ _ _ _ _ => some t
  | .ldw t _ _ _ => some t
  | .ldh t _ _ _ => some t
  | .ldhu t _ _ _ => some t
  | .ldb t _ _ _ => some t
  | .ldbu t _ _ _ => some t
  | .stw t _ _ _ => some t
  | .sth t _ _ _ => some t
  | .stb t _ _ _ => some t
  | .beq t _ _ _ => some t
  | .bne t _ _ _ => some t
  | .blt t _ _ _ => some t
  | .bge t _ _ _ => some t
  | .bltu t _ _ _ => some t
  | .bgeu t _ _ _ => some t
  | .jal t _ _ _ => some t
  | .jalr t _ _ _ => some t
  | .loop t _ _ _ => some t
  | .slottx t _ _ _ _ _ => some t
  | .slotrx t _ _ _ _ _ => some t
  | .glzrd t _ _ _ _ _ => some t
  | .glzwr t _ _ _ _ => some t
  | .dqpush t _ _ _ _ => some t
  | .dqpop t _ _ _ _ => some t
  | .dqwait t _ _ _ _ => some t
  | .ltrd t _ _ _ _ => some t
  | .ltwr t _ _ _ _ _ => some t
  | .ltwait t _ _ _ _ => some t
  | .evpost t _ _ _ _ => some t
  | .lkacq t _ _ _ _ => some t
  | .lkrel t _ _ _ _ => some t
  | .mfs t _ _ _ _ => some t
  | .mts t _ _ _ _ => some t
  | .ecall t _ _ => some t
  | .eret t _ => some t
  | .wfi t _ => some t
  | .fence t _ => some t
  | .halt t _ => some t
  | _ => none

/-- Words of major opcode 0x00. -/
def decodeOp00 (t : Fin 28) (w : Word) : Option Instr :=
  if w.extractLsb' 0 11 = 0x0#11 then some (.add t (w.extractLsb' 21 5) (w.extractLsb' 16 5) (w.extractLsb' 11 5))
  else if w.extractLsb' 0 11 = 0x1#11 then some (.addS t (w.extractLsb' 21 5) (w.extractLsb' 16 5) (w.extractLsb' 11 5))
  else if w.extractLsb' 0 11 = 0x2#11 then some (.sub t (w.extractLsb' 21 5) (w.extractLsb' 16 5) (w.extractLsb' 11 5))
  else if w.extractLsb' 0 11 = 0x3#11 then some (.subS t (w.extractLsb' 21 5) (w.extractLsb' 16 5) (w.extractLsb' 11 5))
  else if w.extractLsb' 0 11 = 0x4#11 then some (.and_ t (w.extractLsb' 21 5) (w.extractLsb' 16 5) (w.extractLsb' 11 5))
  else if w.extractLsb' 0 11 = 0x5#11 then some (.or_ t (w.extractLsb' 21 5) (w.extractLsb' 16 5) (w.extractLsb' 11 5))
  else if w.extractLsb' 0 11 = 0x6#11 then some (.xor_ t (w.extractLsb' 21 5) (w.extractLsb' 16 5) (w.extractLsb' 11 5))
  else if w.extractLsb' 0 11 = 0x8#11 then some (.sll t (w.extractLsb' 21 5) (w.extractLsb' 16 5) (w.extractLsb' 11 5))
  else if w.extractLsb' 0 11 = 0x9#11 then some (.srl t (w.extractLsb' 21 5) (w.extractLsb' 16 5) (w.extractLsb' 11 5))
  else if w.extractLsb' 0 11 = 0xA#11 then some (.sra t (w.extractLsb' 21 5) (w.extractLsb' 16 5) (w.extractLsb' 11 5))
  else if w.extractLsb' 0 11 = 0xC#11 then some (.slli t (w.extractLsb' 21 5) (w.extractLsb' 16 5) (w.extractLsb' 11 5))
  else if w.extractLsb' 0 11 = 0xD#11 then some (.srli t (w.extractLsb' 21 5) (w.extractLsb' 16 5) (w.extractLsb' 11 5))
  else if w.extractLsb' 0 11 = 0xE#11 then some (.srai t (w.extractLsb' 21 5) (w.extractLsb' 16 5) (w.extractLsb' 11 5))
  else if w.extractLsb' 0 11 = 0x10#11 then some (.slt t (w.extractLsb' 21 5) (w.extractLsb' 16 5) (w.extractLsb' 11 5))
  else if w.extractLsb' 0 11 = 0x11#11 then some (.sltu t (w.extractLsb' 21 5) (w.extractLsb' 16 5) (w.extractLsb' 11 5))
  else if w.extractLsb' 0 11 = 0x12#11 then some (.min t (w.extractLsb' 21 5) (w.extractLsb' 16 5) (w.extractLsb' 11 5))
  else if w.extractLsb' 0 11 = 0x13#11 then some (.minU t (w.extractLsb' 21 5) (w.extractLsb' 16 5) (w.extractLsb' 11 5))
  else if w.extractLsb' 0 11 = 0x14#11 then some (.max t (w.extractLsb' 21 5) (w.extractLsb' 16 5) (w.extractLsb' 11 5))
  else if w.extractLsb' 0 11 = 0x15#11 then some (.maxU t (w.extractLsb' 21 5) (w.extractLsb' 16 5) (w.extractLsb' 11 5))
  else if w.extractLsb' 0 11 = 0x18#11 then some (.abs t (w.extractLsb' 21 5) (w.extractLsb' 16 5) (w.extractLsb' 11 5))
  else if w.extractLsb' 0 11 = 0x19#11 then some (.clz t (w.extractLsb' 21 5) (w.extractLsb' 16 5) (w.extractLsb' 11 5))
  else if w.extractLsb' 0 11 = 0x1C#11 then some (.sat t (w.extractLsb' 21 5) (w.extractLsb' 16 5) (w.extractLsb' 11 5))
  else if w.extractLsb' 0 11 = 0x1D#11 then some (.satU t (w.extractLsb' 21 5) (w.extractLsb' 16 5) (w.extractLsb' 11 5))
  else none

/-- Words of major opcode 0x08. -/
def decodeOp08 (t : Fin 28) (w : Word) : Option Instr :=
  if w.extractLsb' 0 11 = 0x0#11 then some (.mul t (w.extractLsb' 21 5) (w.extractLsb' 16 5) (w.extractLsb' 11 5))
  else if w.extractLsb' 0 11 = 0x1#11 then some (.mulh t (w.extractLsb' 21 5) (w.extractLsb' 16 5) (w.extractLsb' 11 5))
  else if w.extractLsb' 0 11 = 0x2#11 then some (.mulhU t (w.extractLsb' 21 5) (w.extractLsb' 16 5) (w.extractLsb' 11 5))
  else if w.extractLsb' 0 11 = 0x4#11 then some (.mulq15 t (w.extractLsb' 21 5) (w.extractLsb' 16 5) (w.extractLsb' 11 5))
  else if w.extractLsb' 0 11 = 0x5#11 then some (.mulq31 t (w.extractLsb' 21 5) (w.extractLsb' 16 5) (w.extractLsb' 11 5))
  else if w.extractLsb' 0 11 = 0x6#11 then some (.mulq15R t (w.extractLsb' 21 5) (w.extractLsb' 16 5) (w.extractLsb' 11 5))
  else if w.extractLsb' 0 11 = 0x7#11 then some (.mulq31R t (w.extractLsb' 21 5) (w.extractLsb' 16 5) (w.extractLsb' 11 5))
  else none

/-- Words of major opcode 0x09. -/
def decodeOp09 (t : Fin 28) (w : Word) : Option Instr :=
  if w.extractLsb' 0 11 = 0x0#11 then some (.macq15 t (w.extractLsb' 23 3) (w.extractLsb' 21 2) (w.extractLsb' 16 5) (w.extractLsb' 11 5))
  else if w.extractLsb' 0 11 = 0x1#11 then some (.macq31 t (w.extractLsb' 23 3) (w.extractLsb' 21 2) (w.extractLsb' 16 5) (w.extractLsb' 11 5))
  else if w.extractLsb' 0 11 = 0x3#11 then some (.macq31R t (w.extractLsb' 23 3) (w.extractLsb' 21 2) (w.extractLsb' 16 5) (w.extractLsb' 11 5))
  else if w.extractLsb' 0 11 = 0x4#11 then some (.msuq15 t (w.extractLsb' 23 3) (w.extractLsb' 21 2) (w.extractLsb' 16 5) (w.extractLsb' 11 5))
  else if w.extractLsb' 0 11 = 0x5#11 then some (.msuq31 t (w.extractLsb' 23 3) (w.extractLsb' 21 2) (w.extractLsb' 16 5) (w.extractLsb' 11 5))
  else if w.extractLsb' 0 11 = 0x7#11 then some (.msuq31R t (w.extractLsb' 23 3) (w.extractLsb' 21 2) (w.extractLsb' 16 5) (w.extractLsb' 11 5))
  else none

/-- Words of major opcode 0x0A. -/
def decodeOp0A (t : Fin 28) (w : Word) : Option Instr :=
  if w.extractLsb' 8 3 = 0x0#3 ∧ w.extractLsb' 0 2 = 0x0#2 then some (.accrQ31 t (w.extractLsb' 21 5) (w.extractLsb' 18 3) (w.extractLsb' 16 2) (w.extractLsb' 11 5) (w.extractLsb' 3 5) (w.extractLsb' 2 1))
  else if w.extractLsb' 8 3 = 0x0#3 ∧ w.extractLsb' 0 2 = 0x1#2 then some (.accrQ15 t (w.extractLsb' 21 5) (w.extractLsb' 18 3) (w.extractLsb' 16 2) (w.extractLsb' 11 5) (w.extractLsb' 3 5) (w.extractLsb' 2 1))
  else if w.extractLsb' 8 3 = 0x0#3 ∧ w.extractLsb' 0 2 = 0x2#2 then some (.accrHi t (w.extractLsb' 21 5) (w.extractLsb' 18 3) (w.extractLsb' 16 2) (w.extractLsb' 11 5) (w.extractLsb' 2 6))
  else if w.extractLsb' 8 3 = 0x0#3 ∧ w.extractLsb' 0 2 = 0x3#2 then some (.accrLo t (w.extractLsb' 21 5) (w.extractLsb' 18 3) (w.extractLsb' 16 2) (w.extractLsb' 11 5) (w.extractLsb' 2 6))
  else if w.extractLsb' 8 3 = 0x1#3 ∧ w.extractLsb' 0 2 = 0x0#2 then some (.accwPair t (w.extractLsb' 23 3) (w.extractLsb' 21 2) (w.extractLsb' 16 5) (w.extractLsb' 11 5) (w.extractLsb' 2 6))
  else if w.extractLsb' 8 3 = 0x1#3 ∧ w.extractLsb' 0 2 = 0x1#2 then some (.accwQ31 t (w.extractLsb' 23 3) (w.extractLsb' 21 2) (w.extractLsb' 16 5) (w.extractLsb' 11 5) (w.extractLsb' 2 6))
  else if w.extractLsb' 8 3 = 0x1#3 ∧ w.extractLsb' 0 2 = 0x2#2 then some (.accwQ15 t (w.extractLsb' 23 3) (w.extractLsb' 21 2) (w.extractLsb' 16 5) (w.extractLsb' 11 5) (w.extractLsb' 2 6))
  else if w.extractLsb' 8 3 = 0x2#3 ∧ w.extractLsb' 0 2 = 0x0#2 then some (.accz t (w.extractLsb' 23 3) (w.extractLsb' 21 2) (w.extractLsb' 11 10) (w.extractLsb' 2 6))
  else none

/-- Words of major opcode 0x3F. -/
def decodeOp3F (t : Fin 28) (w : Word) : Option Instr :=
  if w.extractLsb' 0 11 = 0x1#11 then some (.eret t (w.extractLsb' 11 15))
  else if w.extractLsb' 0 11 = 0x2#11 then some (.wfi t (w.extractLsb' 11 15))
  else if w.extractLsb' 0 11 = 0x3#11 then some (.fence t (w.extractLsb' 11 15))
  else if w.extractLsb' 0 11 = 0x4#11 then some (.halt t (w.extractLsb' 11 15))
  else none

/-- The command that an instruction word spells for tile `t`; none for a reserved major opcode or function. -/
def decodeEasel (t : Fin 28) (w : Word) : Option Instr :=
  if w.extractLsb' 26 6 = 0x00#6 then decodeOp00 t w
  else if w.extractLsb' 26 6 = 0x01#6 then some (.addi t (w.extractLsb' 21 5) (w.extractLsb' 16 5) (w.extractLsb' 0 16))
  else if w.extractLsb' 26 6 = 0x02#6 then some (.andi t (w.extractLsb' 21 5) (w.extractLsb' 16 5) (w.extractLsb' 0 16))
  else if w.extractLsb' 26 6 = 0x03#6 then some (.ori t (w.extractLsb' 21 5) (w.extractLsb' 16 5) (w.extractLsb' 0 16))
  else if w.extractLsb' 26 6 = 0x04#6 then some (.xori t (w.extractLsb' 21 5) (w.extractLsb' 16 5) (w.extractLsb' 0 16))
  else if w.extractLsb' 26 6 = 0x05#6 then some (.lui t (w.extractLsb' 21 5) (w.extractLsb' 16 5) (w.extractLsb' 0 16))
  else if w.extractLsb' 26 6 = 0x08#6 then decodeOp08 t w
  else if w.extractLsb' 26 6 = 0x09#6 then decodeOp09 t w
  else if w.extractLsb' 26 6 = 0x0A#6 then decodeOp0A t w
  else if w.extractLsb' 26 6 = 0x0B#6 then some (.tbli t (w.extractLsb' 21 5) (w.extractLsb' 16 5) (w.extractLsb' 11 5) (w.extractLsb' 6 5) (w.extractLsb' 5 1) (w.extractLsb' 4 1) (w.extractLsb' 0 4))
  else if w.extractLsb' 26 6 = 0x10#6 then some (.ldw t (w.extractLsb' 21 5) (w.extractLsb' 16 5) (w.extractLsb' 0 16))
  else if w.extractLsb' 26 6 = 0x11#6 then some (.ldh t (w.extractLsb' 21 5) (w.extractLsb' 16 5) (w.extractLsb' 0 16))
  else if w.extractLsb' 26 6 = 0x12#6 then some (.ldhu t (w.extractLsb' 21 5) (w.extractLsb' 16 5) (w.extractLsb' 0 16))
  else if w.extractLsb' 26 6 = 0x13#6 then some (.ldb t (w.extractLsb' 21 5) (w.extractLsb' 16 5) (w.extractLsb' 0 16))
  else if w.extractLsb' 26 6 = 0x14#6 then some (.ldbu t (w.extractLsb' 21 5) (w.extractLsb' 16 5) (w.extractLsb' 0 16))
  else if w.extractLsb' 26 6 = 0x18#6 then some (.stw t (w.extractLsb' 21 5) (w.extractLsb' 16 5) (w.extractLsb' 0 16))
  else if w.extractLsb' 26 6 = 0x19#6 then some (.sth t (w.extractLsb' 21 5) (w.extractLsb' 16 5) (w.extractLsb' 0 16))
  else if w.extractLsb' 26 6 = 0x1A#6 then some (.stb t (w.extractLsb' 21 5) (w.extractLsb' 16 5) (w.extractLsb' 0 16))
  else if w.extractLsb' 26 6 = 0x20#6 then some (.beq t (w.extractLsb' 21 5) (w.extractLsb' 16 5) (w.extractLsb' 0 16))
  else if w.extractLsb' 26 6 = 0x21#6 then some (.bne t (w.extractLsb' 21 5) (w.extractLsb' 16 5) (w.extractLsb' 0 16))
  else if w.extractLsb' 26 6 = 0x22#6 then some (.blt t (w.extractLsb' 21 5) (w.extractLsb' 16 5) (w.extractLsb' 0 16))
  else if w.extractLsb' 26 6 = 0x23#6 then some (.bge t (w.extractLsb' 21 5) (w.extractLsb' 16 5) (w.extractLsb' 0 16))
  else if w.extractLsb' 26 6 = 0x24#6 then some (.bltu t (w.extractLsb' 21 5) (w.extractLsb' 16 5) (w.extractLsb' 0 16))
  else if w.extractLsb' 26 6 = 0x25#6 then some (.bgeu t (w.extractLsb' 21 5) (w.extractLsb' 16 5) (w.extractLsb' 0 16))
  else if w.extractLsb' 26 6 = 0x26#6 then some (.jal t (w.extractLsb' 21 5) (w.extractLsb' 16 5) (w.extractLsb' 0 16))
  else if w.extractLsb' 26 6 = 0x27#6 then some (.jalr t (w.extractLsb' 21 5) (w.extractLsb' 16 5) (w.extractLsb' 0 16))
  else if w.extractLsb' 26 6 = 0x28#6 then some (.loop t (w.extractLsb' 21 5) (w.extractLsb' 16 5) (w.extractLsb' 0 16))
  else if w.extractLsb' 26 6 = 0x2C#6 then some (.slottx t (w.extractLsb' 21 5) (w.extractLsb' 16 5) (w.extractLsb' 11 5) (w.extractLsb' 1 10) (w.extractLsb' 0 1))
  else if w.extractLsb' 26 6 = 0x2D#6 then some (.slotrx t (w.extractLsb' 21 5) (w.extractLsb' 16 5) (w.extractLsb' 7 9) (w.extractLsb' 6 1) (w.extractLsb' 0 6))
  else if w.extractLsb' 26 6 = 0x2E#6 then some (.glzrd t (w.extractLsb' 21 5) (w.extractLsb' 16 5) (w.extractLsb' 4 12) (w.extractLsb' 3 1) (w.extractLsb' 0 3))
  else if w.extractLsb' 26 6 = 0x2F#6 then some (.glzwr t (w.extractLsb' 21 5) (w.extractLsb' 16 5) (w.extractLsb' 11 5) (w.extractLsb' 0 11))
  else if w.extractLsb' 26 6 = 0x30#6 then some (.dqpush t (w.extractLsb' 21 5) (w.extractLsb' 16 5) (w.extractLsb' 11 5) (w.extractLsb' 0 11))
  else if w.extractLsb' 26 6 = 0x31#6 then some (.dqpop t (w.extractLsb' 21 5) (w.extractLsb' 16 5) (w.extractLsb' 11 5) (w.extractLsb' 0 11))
  else if w.extractLsb' 26 6 = 0x32#6 then some (.dqwait t (w.extractLsb' 16 10) (w.extractLsb' 8 8) (w.extractLsb' 5 3) (w.extractLsb' 0 5))
  else if w.extractLsb' 26 6 = 0x34#6 then some (.ltrd t (w.extractLsb' 24 2) (w.extractLsb' 21 3) (w.extractLsb' 16 5) (w.extractLsb' 0 16))
  else if w.extractLsb' 26 6 = 0x35#6 then some (.ltwr t (w.extractLsb' 24 2) (w.extractLsb' 21 3) (w.extractLsb' 16 5) (w.extractLsb' 11 5) (w.extractLsb' 0 11))
  else if w.extractLsb' 26 6 = 0x36#6 then some (.ltwait t (w.extractLsb' 21 5) (w.extractLsb' 16 5) (w.extractLsb' 11 5) (w.extractLsb' 0 11))
  else if w.extractLsb' 26 6 = 0x37#6 then some (.evpost t (w.extractLsb' 21 5) (w.extractLsb' 16 5) (w.extractLsb' 11 5) (w.extractLsb' 0 11))
  else if w.extractLsb' 26 6 = 0x38#6 then some (.lkacq t (w.extractLsb' 21 5) (w.extractLsb' 16 5) (w.extractLsb' 4 12) (w.extractLsb' 0 4))
  else if w.extractLsb' 26 6 = 0x39#6 then some (.lkrel t (w.extractLsb' 21 5) (w.extractLsb' 16 5) (w.extractLsb' 11 5) (w.extractLsb' 0 11))
  else if w.extractLsb' 26 6 = 0x3C#6 then some (.mfs t (w.extractLsb' 21 5) (w.extractLsb' 16 5) (w.extractLsb' 12 4) (w.extractLsb' 0 12))
  else if w.extractLsb' 26 6 = 0x3D#6 then some (.mts t (w.extractLsb' 21 5) (w.extractLsb' 16 5) (w.extractLsb' 12 4) (w.extractLsb' 0 12))
  else if w.extractLsb' 26 6 = 0x3E#6 then some (.ecall t (w.extractLsb' 16 10) (w.extractLsb' 0 16))
  else if w.extractLsb' 26 6 = 0x3F#6 then decodeOp3F t w
  else none

end Sys2Proof.Machine
end

