-- ==== Sys2Proof/Machine/EaselAlu.lean ====
section
/-! DEFINITION. The compute and memory instructions of the Easel ISA (R426–R455). -/

namespace Sys2Proof.Machine

/-! ### Operand names (R426) -/

/-- g[n] read as two's complement. -/
def Tile.sx (x : Tile) (n : BitVec 5) : Int := sgn 32 (x.reg n.toNat)

/-- g[n] read as unsigned. -/
def Tile.ux (x : Tile) (n : BitVec 5) : Nat := x.reg n.toNat

/-- g[n][15:0] read as Q1.15. -/
def Tile.qx (x : Tile) (n : BitVec 5) : Int := sgn 16 (x.reg n.toNat)

/-- The low bits of a value as a register or accumulator keeps them. -/
def regLow (rd : Nat) (v : Int) : Nat := low (if rd < 32 then 32 else 64) v

/-- sat(v, n) of R18: the clamped value, and whether it changed. -/
def satTo (n : Nat) (v : Int) : Int × Bool :=
  let s := clampI (-(2 : Int) ^ (n - 1)) ((2 : Int) ^ (n - 1) - 1) v
  (s, s != v)

/-- usat(v, n) of R18. -/
def usatTo (n : Nat) (v : Int) : Int × Bool :=
  let s := clampI 0 ((2 : Int) ^ n - 1) v
  (s, s != v)

/-- rnd(a / b) of R427. -/
def rndDiv (r : Bool) (a b : Int) : Int := if r then rneDiv a b else a / b

/-- A result that saturates nothing. -/
def plain (v : Int) : Int × Bool := (v, false)

/-- The accumulator as MACQ and MSUQ read it: the latest earlier write, landed or not (R380). -/
def Tile.accNow (x : Tile) (n : Nat) : Nat :=
  (x.pend.foldl (fun (a : Option Nat) p => match p.what with | .reg m v => if m = n then some v else a | _ => a) none).getD (x.reg n)

/-- An instruction that computes one register or accumulator, and may set FLAGS.SAT (R379, R428, R429). -/
def Chip.compute (c : Chip) (t : Nat) (w : Word) (illegal : Bool) (reads : List Nat) (rd lat : Nat)
    (f : Tile → Int × Bool) : Chip :=
  c.issue t { word := w.toNat, illegal := illegal, reads := reads, dests := [(rd, lat)] } (fun c now =>
    let y := f (c.tile t)
    { writes := [(rd, regLow rd y.1, now + lat)], lands := if y.2 then [{ land := now + lat, what := .sat }] else [] })

/-- Two general registers in, one out. -/
def State.rrr (s : State) (t : Fin 28) (i : Instr) (rd rs1 rs2 : BitVec 5) (lat : Nat) (f : Tile → Int × Bool) :
    Host.Outcome State Fault Refusal :=
  s.runC (fun c => c.compute t (easelWord i) false [rs1.toNat, rs2.toNat] rd.toNat lat f)

/-- One general register in, one out; `illegal` for a zero field that is not 0. -/
def State.rri (s : State) (t : Fin 28) (i : Instr) (rd rs1 : BitVec 5) (illegal : Bool) (f : Tile → Int × Bool) :
    Host.Outcome State Fault Refusal :=
  s.runC (fun c => c.compute t (easelWord i) illegal [rs1.toNat] rd.toNat 1 f)

/-! ### ALU group (R433, R434) -/

def execAdd (t : Fin 28) (rd rs1 rs2 : BitVec 5) (s : State) : Host.Outcome State Fault Refusal :=
  s.rrr t (.add t rd rs1 rs2) rd rs1 rs2 1 (fun x => plain (x.sx rs1 + x.sx rs2))
def execAddS (t : Fin 28) (rd rs1 rs2 : BitVec 5) (s : State) : Host.Outcome State Fault Refusal :=
  s.rrr t (.addS t rd rs1 rs2) rd rs1 rs2 1 (fun x => satTo 32 (x.sx rs1 + x.sx rs2))
def execSub (t : Fin 28) (rd rs1 rs2 : BitVec 5) (s : State) : Host.Outcome State Fault Refusal :=
  s.rrr t (.sub t rd rs1 rs2) rd rs1 rs2 1 (fun x => plain (x.sx rs1 - x.sx rs2))
def execSubS (t : Fin 28) (rd rs1 rs2 : BitVec 5) (s : State) : Host.Outcome State Fault Refusal :=
  s.rrr t (.subS t rd rs1 rs2) rd rs1 rs2 1 (fun x => satTo 32 (x.sx rs1 - x.sx rs2))
def execAnd (t : Fin 28) (rd rs1 rs2 : BitVec 5) (s : State) : Host.Outcome State Fault Refusal :=
  s.rrr t (.and_ t rd rs1 rs2) rd rs1 rs2 1 (fun x => plain (x.ux rs1 &&& x.ux rs2 : Nat))
def execOr (t : Fin 28) (rd rs1 rs2 : BitVec 5) (s : State) : Host.Outcome State Fault Refusal :=
  s.rrr t (.or_ t rd rs1 rs2) rd rs1 rs2 1 (fun x => plain (x.ux rs1 ||| x.ux rs2 : Nat))
def execXor (t : Fin 28) (rd rs1 rs2 : BitVec 5) (s : State) : Host.Outcome State Fault Refusal :=
  s.rrr t (.xor_ t rd rs1 rs2) rd rs1 rs2 1 (fun x => plain (x.ux rs1 ^^^ x.ux rs2 : Nat))
def execSll (t : Fin 28) (rd rs1 rs2 : BitVec 5) (s : State) : Host.Outcome State Fault Refusal :=
  s.rrr t (.sll t rd rs1 rs2) rd rs1 rs2 1 (fun x => plain (x.ux rs1 * 2 ^ (x.ux rs2 % 32) : Nat))
def execSrl (t : Fin 28) (rd rs1 rs2 : BitVec 5) (s : State) : Host.Outcome State Fault Refusal :=
  s.rrr t (.srl t rd rs1 rs2) rd rs1 rs2 1 (fun x => plain (x.ux rs1 / 2 ^ (x.ux rs2 % 32) : Nat))
def execSra (t : Fin 28) (rd rs1 rs2 : BitVec 5) (s : State) : Host.Outcome State Fault Refusal :=
  s.rrr t (.sra t rd rs1 rs2) rd rs1 rs2 1 (fun x => plain (x.sx rs1 / 2 ^ (x.ux rs2 % 32)))
def execSlt (t : Fin 28) (rd rs1 rs2 : BitVec 5) (s : State) : Host.Outcome State Fault Refusal :=
  s.rrr t (.slt t rd rs1 rs2) rd rs1 rs2 1 (fun x => plain (if x.sx rs1 < x.sx rs2 then 1 else 0))
def execSltu (t : Fin 28) (rd rs1 rs2 : BitVec 5) (s : State) : Host.Outcome State Fault Refusal :=
  s.rrr t (.sltu t rd rs1 rs2) rd rs1 rs2 1 (fun x => plain (if x.ux rs1 < x.ux rs2 then 1 else 0))
def execMin (t : Fin 28) (rd rs1 rs2 : BitVec 5) (s : State) : Host.Outcome State Fault Refusal :=
  s.rrr t (.min t rd rs1 rs2) rd rs1 rs2 1 (fun x => plain (if x.sx rs2 < x.sx rs1 then x.sx rs2 else x.sx rs1))
def execMinU (t : Fin 28) (rd rs1 rs2 : BitVec 5) (s : State) : Host.Outcome State Fault Refusal :=
  s.rrr t (.minU t rd rs1 rs2) rd rs1 rs2 1 (fun x => plain (if x.ux rs2 < x.ux rs1 then x.ux rs2 else x.ux rs1 : Nat))
def execMax (t : Fin 28) (rd rs1 rs2 : BitVec 5) (s : State) : Host.Outcome State Fault Refusal :=
  s.rrr t (.max t rd rs1 rs2) rd rs1 rs2 1 (fun x => plain (if x.sx rs1 < x.sx rs2 then x.sx rs2 else x.sx rs1))
def execMaxU (t : Fin 28) (rd rs1 rs2 : BitVec 5) (s : State) : Host.Outcome State Fault Refusal :=
  s.rrr t (.maxU t rd rs1 rs2) rd rs1 rs2 1 (fun x => plain (if x.ux rs1 < x.ux rs2 then x.ux rs2 else x.ux rs1 : Nat))
def execSlli (t : Fin 28) (rd rs1 sh : BitVec 5) (s : State) : Host.Outcome State Fault Refusal :=
  s.rri t (.slli t rd rs1 sh) rd rs1 false (fun x => plain (x.ux rs1 * 2 ^ sh.toNat : Nat))
def execSrli (t : Fin 28) (rd rs1 sh : BitVec 5) (s : State) : Host.Outcome State Fault Refusal :=
  s.rri t (.srli t rd rs1 sh) rd rs1 false (fun x => plain (x.ux rs1 / 2 ^ sh.toNat : Nat))
def execSrai (t : Fin 28) (rd rs1 sh : BitVec 5) (s : State) : Host.Outcome State Fault Refusal :=
  s.rri t (.srai t rd rs1 sh) rd rs1 false (fun x => plain (x.sx rs1 / 2 ^ sh.toNat))
def execAbs (t : Fin 28) (rd rs1 z : BitVec 5) (s : State) : Host.Outcome State Fault Refusal :=
  s.rri t (.abs t rd rs1 z) rd rs1 (z != 0) (fun x => if x.sx rs1 < 0 then satTo 32 (-x.sx rs1) else plain (x.sx rs1))

/-- Leading zeros of a 32-bit pattern (R434). -/
def clz (n : Nat) : Nat := ((List.range 32).findIdx (fun i => bit n (31 - i)))

def execClz (t : Fin 28) (rd rs1 z : BitVec 5) (s : State) : Host.Outcome State Fault Refusal :=
  s.rri t (.clz t rd rs1 z) rd rs1 (z != 0) (fun x => plain (clz (x.ux rs1)))
def execSat (t : Fin 28) (rd rs1 n : BitVec 5) (s : State) : Host.Outcome State Fault Refusal :=
  s.rri t (.sat t rd rs1 n) rd rs1 false (fun x => satTo (n.toNat + 1) (x.sx rs1))
def execSatU (t : Fin 28) (rd rs1 n : BitVec 5) (s : State) : Host.Outcome State Fault Refusal :=
  s.rri t (.satU t rd rs1 n) rd rs1 false (fun x => usatTo (n.toNat + 1) (x.sx rs1))

/-! ### Immediates (R435) -/

def execAddi (t : Fin 28) (rd rs1 : BitVec 5) (imm : BitVec 16) (s : State) : Host.Outcome State Fault Refusal :=
  s.rri t (.addi t rd rs1 imm) rd rs1 false (fun x => plain (x.sx rs1 + imm.toInt))
def execAndi (t : Fin 28) (rd rs1 : BitVec 5) (imm : BitVec 16) (s : State) : Host.Outcome State Fault Refusal :=
  s.rri t (.andi t rd rs1 imm) rd rs1 false (fun x => plain (x.ux rs1 &&& imm.toNat : Nat))
def execOri (t : Fin 28) (rd rs1 : BitVec 5) (imm : BitVec 16) (s : State) : Host.Outcome State Fault Refusal :=
  s.rri t (.ori t rd rs1 imm) rd rs1 false (fun x => plain (x.ux rs1 ||| imm.toNat : Nat))
def execXori (t : Fin 28) (rd rs1 : BitVec 5) (imm : BitVec 16) (s : State) : Host.Outcome State Fault Refusal :=
  s.rri t (.xori t rd rs1 imm) rd rs1 false (fun x => plain (x.ux rs1 ^^^ imm.toNat : Nat))
def execLui (t : Fin 28) (rd z : BitVec 5) (imm : BitVec 16) (s : State) : Host.Outcome State Fault Refusal :=
  s.runC (fun c => c.compute t (easelWord (.lui t rd z imm)) (z != 0) [] rd.toNat 1 (fun _ => plain (imm.toNat * 65536 : Nat)))

/-! ### Multiply group (R436) -/

/-- MULQ of Q1.15 operands. -/
def mulq15 (r : Bool) (a b : Int) : Int × Bool := satTo 16 (rndDiv r (a * b) (2 ^ 15))
/-- MULQ of Q1.31 operands. -/
def mulq31 (r : Bool) (a b : Int) : Int × Bool := satTo 32 (rndDiv r (a * b) (2 ^ 31))

def execMul (t : Fin 28) (rd rs1 rs2 : BitVec 5) (s : State) : Host.Outcome State Fault Refusal :=
  s.rrr t (.mul t rd rs1 rs2) rd rs1 rs2 3 (fun x => plain (x.sx rs1 * x.sx rs2))
def execMulh (t : Fin 28) (rd rs1 rs2 : BitVec 5) (s : State) : Host.Outcome State Fault Refusal :=
  s.rrr t (.mulh t rd rs1 rs2) rd rs1 rs2 3 (fun x => plain (x.sx rs1 * x.sx rs2 / 2 ^ 32))
def execMulhU (t : Fin 28) (rd rs1 rs2 : BitVec 5) (s : State) : Host.Outcome State Fault Refusal :=
  s.rrr t (.mulhU t rd rs1 rs2) rd rs1 rs2 3 (fun x => plain (x.ux rs1 * x.ux rs2 / 2 ^ 32 : Nat))
def execMulq15 (t : Fin 28) (rd rs1 rs2 : BitVec 5) (s : State) : Host.Outcome State Fault Refusal :=
  s.rrr t (.mulq15 t rd rs1 rs2) rd rs1 rs2 3 (fun x => mulq15 false (x.qx rs1) (x.qx rs2))
def execMulq31 (t : Fin 28) (rd rs1 rs2 : BitVec 5) (s : State) : Host.Outcome State Fault Refusal :=
  s.rrr t (.mulq31 t rd rs1 rs2) rd rs1 rs2 3 (fun x => mulq31 false (x.sx rs1) (x.sx rs2))
def execMulq15R (t : Fin 28) (rd rs1 rs2 : BitVec 5) (s : State) : Host.Outcome State Fault Refusal :=
  s.rrr t (.mulq15R t rd rs1 rs2) rd rs1 rs2 3 (fun x => mulq15 true (x.qx rs1) (x.qx rs2))
def execMulq31R (t : Fin 28) (rd rs1 rs2 : BitVec 5) (s : State) : Host.Outcome State Fault Refusal :=
  s.rrr t (.mulq31R t rd rs1 rs2) rd rs1 rs2 3 (fun x => mulq31 true (x.sx rs1) (x.sx rs2))

/-! ### Accumulator group (R437–R439) -/

/-- MACQ and MSUQ: add to accumulator `ad`, or subtract from it, the product of two registers (R437). -/
def State.mac (s : State) (t : Fin 28) (i : Instr) (z : BitVec 3) (ad : BitVec 2) (rs1 rs2 : BitVec 5)
    (p : Tile → Int) : Host.Outcome State Fault Refusal :=
  s.runC (fun c => c.compute t (easelWord i) (z != 0) [rs1.toNat, rs2.toNat] (32 + ad.toNat) 3
    (fun x => satTo 64 (sgn 64 (x.accNow (32 + ad.toNat)) + p x)))

/-- The product of Q1.15 operands in Q17.47. -/
def Tile.prod15 (x : Tile) (rs1 rs2 : BitVec 5) : Int := x.qx rs1 * x.qx rs2 * 2 ^ 17
/-- The product of Q1.31 operands in Q17.47. -/
def Tile.prod31 (x : Tile) (rs1 rs2 : BitVec 5) (r : Bool) : Int := rndDiv r (x.sx rs1 * x.sx rs2) (2 ^ 15)

def execMacq15 (t : Fin 28) (z : BitVec 3) (ad : BitVec 2) (rs1 rs2 : BitVec 5) (s : State) : Host.Outcome State Fault Refusal :=
  s.mac t (.macq15 t z ad rs1 rs2) z ad rs1 rs2 (fun x => x.prod15 rs1 rs2)
def execMacq31 (t : Fin 28) (z : BitVec 3) (ad : BitVec 2) (rs1 rs2 : BitVec 5) (s : State) : Host.Outcome State Fault Refusal :=
  s.mac t (.macq31 t z ad rs1 rs2) z ad rs1 rs2 (fun x => x.prod31 rs1 rs2 false)
def execMacq31R (t : Fin 28) (z : BitVec 3) (ad : BitVec 2) (rs1 rs2 : BitVec 5) (s : State) : Host.Outcome State Fault Refusal :=
  s.mac t (.macq31R t z ad rs1 rs2) z ad rs1 rs2 (fun x => x.prod31 rs1 rs2 true)
def execMsuq15 (t : Fin 28) (z : BitVec 3) (ad : BitVec 2) (rs1 rs2 : BitVec 5) (s : State) : Host.Outcome State Fault Refusal :=
  s.mac t (.msuq15 t z ad rs1 rs2) z ad rs1 rs2 (fun x => -x.prod15 rs1 rs2)
def execMsuq31 (t : Fin 28) (z : BitVec 3) (ad : BitVec 2) (rs1 rs2 : BitVec 5) (s : State) : Host.Outcome State Fault Refusal :=
  s.mac t (.msuq31 t z ad rs1 rs2) z ad rs1 rs2 (fun x => -x.prod31 rs1 rs2 false)
def execMsuq31R (t : Fin 28) (z : BitVec 3) (ad : BitVec 2) (rs1 rs2 : BitVec 5) (s : State) : Host.Outcome State Fault Refusal :=
  s.mac t (.msuq31R t z ad rs1 rs2) z ad rs1 rs2 (fun x => -x.prod31 rs1 rs2 true)

/-- ACCR: read an accumulator into a register (R438). -/
def State.accr (s : State) (t : Fin 28) (i : Instr) (rd : BitVec 5) (as_ : BitVec 2) (illegal : Bool)
    (f : Int → Int × Bool) : Host.Outcome State Fault Refusal :=
  s.runC (fun c => c.compute t (easelWord i) illegal [32 + as_.toNat] rd.toNat 3 (fun x => f (sgn 64 (x.reg (32 + as_.toNat)))))

def execAccrQ31 (t : Fin 28) (rd : BitVec 5) (z : BitVec 3) (as_ : BitVec 2) (z2 sh : BitVec 5) (r : BitVec 1) (s : State) :
    Host.Outcome State Fault Refusal :=
  s.accr t (.accrQ31 t rd z as_ z2 sh r) rd as_ (z != 0 || z2 != 0) (fun v => satTo 32 (rndDiv (r == 1) (v * 2 ^ sh.toNat) (2 ^ 16)))
def execAccrQ15 (t : Fin 28) (rd : BitVec 5) (z : BitVec 3) (as_ : BitVec 2) (z2 sh : BitVec 5) (r : BitVec 1) (s : State) :
    Host.Outcome State Fault Refusal :=
  s.accr t (.accrQ15 t rd z as_ z2 sh r) rd as_ (z != 0 || z2 != 0) (fun v => satTo 16 (rndDiv (r == 1) (v * 2 ^ sh.toNat) (2 ^ 32)))
def execAccrHi (t : Fin 28) (rd : BitVec 5) (z : BitVec 3) (as_ : BitVec 2) (z2 : BitVec 5) (z3 : BitVec 6) (s : State) :
    Host.Outcome State Fault Refusal :=
  s.accr t (.accrHi t rd z as_ z2 z3) rd as_ (z != 0 || z2 != 0 || z3 != 0) (fun v => plain (v / 2 ^ 32))
def execAccrLo (t : Fin 28) (rd : BitVec 5) (z : BitVec 3) (as_ : BitVec 2) (z2 : BitVec 5) (z3 : BitVec 6) (s : State) :
    Host.Outcome State Fault Refusal :=
  s.accr t (.accrLo t rd z as_ z2 z3) rd as_ (z != 0 || z2 != 0 || z3 != 0) plain

/-- ACCW and ACCZ: write an accumulator (R439). -/
def State.accw (s : State) (t : Fin 28) (i : Instr) (ad : BitVec 2) (reads : List Nat) (illegal : Bool) (f : Tile → Int) :
    Host.Outcome State Fault Refusal :=
  s.runC (fun c => c.compute t (easelWord i) illegal reads (32 + ad.toNat) 1 (fun x => plain (f x)))

def execAccwPair (t : Fin 28) (z : BitVec 3) (ad : BitVec 2) (rs1 rs2 : BitVec 5) (z2 : BitVec 6) (s : State) :
    Host.Outcome State Fault Refusal :=
  s.accw t (.accwPair t z ad rs1 rs2 z2) ad [rs1.toNat, rs2.toNat] (z != 0 || z2 != 0) (fun x => (x.ux rs2 * 2 ^ 32 + x.ux rs1 : Nat))
def execAccwQ31 (t : Fin 28) (z : BitVec 3) (ad : BitVec 2) (rs1 rs2 : BitVec 5) (z2 : BitVec 6) (s : State) :
    Host.Outcome State Fault Refusal :=
  s.accw t (.accwQ31 t z ad rs1 rs2 z2) ad [rs1.toNat] (z != 0 || rs2 != 0 || z2 != 0) (fun x => x.sx rs1 * 2 ^ 16)
def execAccwQ15 (t : Fin 28) (z : BitVec 3) (ad : BitVec 2) (rs1 rs2 : BitVec 5) (z2 : BitVec 6) (s : State) :
    Host.Outcome State Fault Refusal :=
  s.accw t (.accwQ15 t z ad rs1 rs2 z2) ad [rs1.toNat] (z != 0 || rs2 != 0 || z2 != 0) (fun x => x.qx rs1 * 2 ^ 32)
def execAccz (t : Fin 28) (z : BitVec 3) (ad : BitVec 2) (z2 : BitVec 10) (z3 : BitVec 6) (s : State) :
    Host.Outcome State Fault Refusal :=
  s.accw t (.accz t z ad z2 z3) ad [] (z != 0 || z2 != 0 || z3 != 0) (fun _ => 0)

/-! ### Memory -/

/-- ECC condition of a DMEM word as the tile reads it: good where one of its own stores is on its way (R447, R451). -/
def Chip.dmemEcc (c : Chip) (t a : Nat) : Nat :=
  if (c.tile t).pend.any (fun p => match p.what with | .store b _ => b / 4 == a / 4 | _ => false) then 0
  else c.eccAt (dmemAddr t a)

/-- The causes of a read of `n` bytes at a local DMEM address, in the order of R441 and R442. -/
def Chip.readExc (c : Chip) (t a n : Nat) : List (Nat × Nat) :=
  (if a % n = 0 then [] else [(10, a)]) ++ (if a + n - 1 < dmemSize t then [] else [(12, a)])
  ++ (if c.prot t 1 a 0 then [] else [(14, a)]) ++ (if c.dmemEcc t a = 2 then [(17, a)] else [])

/-- TBLI (R440, R441). -/
def execTbli (t : Fin 28) (rd rs1 rs2 z : BitVec 5) (r sg : BitVec 1) (k : BitVec 4) (s : State) :
    Host.Outcome State Fault Refusal :=
  s.runC (fun c => c.issue t
    { word := (easelWord (.tbli t rd rs1 rs2 z r sg k)).toNat, illegal := z != 0 || k == 0 || decide (12 < k.toNat),
      reads := [rs1.toNat, rs2.toNat], dests := [(rd.toNat, 4)] }
    (fun c now =>
      let x := c.tile t
      let v := x.ux rs1 % 65536
      let v := if sg = 1 then v ^^^ 0x8000 else v
      let fb := 16 - k.toNat
      let idx := v / 2 ^ fb
      let fr := v % 2 ^ fb
      let ad0 := (x.ux rs2 + 2 * idx) % 2 ^ 32
      let ad1 := (ad0 + 2) % 2 ^ 32
      let y0 := sgn 16 (c.dmem t ad0 2)
      let y1 := sgn 16 (c.dmem t ad1 2)
      { exc := c.readExc t ad0 2 ++ c.readExc t ad1 2,
        writes := [(rd.toNat, low 32 (y0 + rndDiv (r == 1) ((y1 - y0) * fr) (2 ^ fb)), now + 4)],
        after := fun c =>
          let c := if c.dmemEcc t ad0 = 1 then c.eccCount t false else c
          if ad1 / 4 ≠ ad0 / 4 ∧ c.dmemEcc t ad1 = 1 then c.eccCount t false else c }))

/-- Address of a load or store (R442). -/
def Tile.ea (x : Tile) (rs1 : BitVec 5) (imm : BitVec 16) : Nat := low 32 (x.ux rs1 + imm.toInt)

/-- A load of `n` bytes (R442–R444). -/
def State.load (s : State) (t : Fin 28) (i : Instr) (rd rs1 : BitVec 5) (imm : BitVec 16) (n : Nat) (signed : Bool) :
    Host.Outcome State Fault Refusal :=
  s.runC (fun c => c.issue t
    { word := (easelWord i).toNat, reads := [rs1.toNat], dests := [(rd.toNat, 2)] }
    (fun c now =>
      let a := (c.tile t).ea rs1 imm
      let v := c.dmem t a n
      { exc := c.readExc t a n,
        writes := [(rd.toNat, if signed then low 32 (sgn (8 * n) v) else v, now + 2)],
        after := fun c => if c.dmemEcc t a = 1 then c.eccCount t false else c }))

def execLdw (t : Fin 28) (rd rs1 : BitVec 5) (imm : BitVec 16) (s : State) : Host.Outcome State Fault Refusal :=
  s.load t (.ldw t rd rs1 imm) rd rs1 imm 4 false
def execLdh (t : Fin 28) (rd rs1 : BitVec 5) (imm : BitVec 16) (s : State) : Host.Outcome State Fault Refusal :=
  s.load t (.ldh t rd rs1 imm) rd rs1 imm 2 true
def execLdhu (t : Fin 28) (rd rs1 : BitVec 5) (imm : BitVec 16) (s : State) : Host.Outcome State Fault Refusal :=
  s.load t (.ldhu t rd rs1 imm) rd rs1 imm 2 false
def execLdb (t : Fin 28) (rd rs1 : BitVec 5) (imm : BitVec 16) (s : State) : Host.Outcome State Fault Refusal :=
  s.load t (.ldb t rd rs1 imm) rd rs1 imm 1 true
def execLdbu (t : Fin 28) (rd rs1 : BitVec 5) (imm : BitVec 16) (s : State) : Host.Outcome State Fault Refusal :=
  s.load t (.ldbu t rd rs1 imm) rd rs1 imm 1 false

/-- A store of `n` bytes (R442, R445–R447): a part of a word is merged into the word read, with its ECC. -/
def State.store (s : State) (t : Fin 28) (i : Instr) (rt rs1 : BitVec 5) (imm : BitVec 16) (n : Nat) :
    Host.Outcome State Fault Refusal :=
  s.runC (fun c => c.issue t
    { word := (easelWord i).toNat, reads := [rs1.toNat, rt.toNat] }
    (fun c now =>
      let x := c.tile t
      let a := x.ea rs1 imm
      { exc := (if a % n = 0 then [] else [(11, a)]) ++ (if a + n - 1 < dmemSize t then [] else [(13, a)])
          ++ (if c.prot t 1 a 1 then [] else [(15, a)]) ++ (if n ≠ 4 ∧ c.dmemEcc t a = 2 then [(17, a)] else []),
        lands := [{ land := now + 2, what := .store a (toBytes n (x.ux rt)) }],
        after := let corr := n != 4 && c.dmemEcc t a == 1; fun c => if corr then c.eccCount t false else c }))

def execStw (t : Fin 28) (rt rs1 : BitVec 5) (imm : BitVec 16) (s : State) : Host.Outcome State Fault Refusal :=
  s.store t (.stw t rt rs1 imm) rt rs1 imm 4
def execSth (t : Fin 28) (rt rs1 : BitVec 5) (imm : BitVec 16) (s : State) : Host.Outcome State Fault Refusal :=
  s.store t (.sth t rt rs1 imm) rt rs1 imm 2
def execStb (t : Fin 28) (rt rs1 : BitVec 5) (imm : BitVec 16) (s : State) : Host.Outcome State Fault Refusal :=
  s.store t (.stb t rt rs1 imm) rt rs1 imm 1

end Sys2Proof.Machine
end

