-- ==== Sys2Proof/Machine/EaselFlow.lean ====
section
/-! DEFINITION. The flow, network and system instructions of the Easel ISA (R456–R512), and the commands by which a
waiting tile goes on. -/

namespace Sys2Proof.Machine

open Reg

/-! ### Branches, jumps and LOOP (R458–R463) -/

/-- The causes of a jump to an integer target (R461). -/
def jumpExc (t : Nat) (target : Int) : List (Nat × Nat) :=
  (if target % 4 = 0 then [] else [(1, low 32 target)])
  ++ (if 0 ≤ target ∧ target < imemSize t then [] else [(2, low 32 target)])

/-- pc + 4 × simm. -/
def Tile.relative (x : Tile) (imm : BitVec 16) : Int := x.pc + 4 * imm.toInt

/-- A conditional branch (R458, R459). -/
def State.branch (s : State) (t : Fin 28) (i : Instr) (rs2 rs1 : BitVec 5) (imm : BitVec 16) (cond : Tile → Bool) :
    Host.Outcome State Fault Refusal :=
  s.runC (fun c => c.issue t { word := (easelWord i).toNat, reads := [rs1.toNat, rs2.toNat] } (fun c _ =>
    let x := c.tile t
    if cond x then { exc := jumpExc t (x.relative imm), jump := some (low 32 (x.relative imm)), cost := 2 } else {}))

def execBeq (t : Fin 28) (rs2 rs1 : BitVec 5) (imm : BitVec 16) (s : State) : Host.Outcome State Fault Refusal :=
  s.branch t (.beq t rs2 rs1 imm) rs2 rs1 imm (fun x => x.ux rs1 == x.ux rs2)
def execBne (t : Fin 28) (rs2 rs1 : BitVec 5) (imm : BitVec 16) (s : State) : Host.Outcome State Fault Refusal :=
  s.branch t (.bne t rs2 rs1 imm) rs2 rs1 imm (fun x => x.ux rs1 != x.ux rs2)
def execBlt (t : Fin 28) (rs2 rs1 : BitVec 5) (imm : BitVec 16) (s : State) : Host.Outcome State Fault Refusal :=
  s.branch t (.blt t rs2 rs1 imm) rs2 rs1 imm (fun x => decide (x.sx rs1 < x.sx rs2))
def execBge (t : Fin 28) (rs2 rs1 : BitVec 5) (imm : BitVec 16) (s : State) : Host.Outcome State Fault Refusal :=
  s.branch t (.bge t rs2 rs1 imm) rs2 rs1 imm (fun x => decide (x.sx rs2 ≤ x.sx rs1))
def execBltu (t : Fin 28) (rs2 rs1 : BitVec 5) (imm : BitVec 16) (s : State) : Host.Outcome State Fault Refusal :=
  s.branch t (.bltu t rs2 rs1 imm) rs2 rs1 imm (fun x => decide (x.ux rs1 < x.ux rs2))
def execBgeu (t : Fin 28) (rs2 rs1 : BitVec 5) (imm : BitVec 16) (s : State) : Host.Outcome State Fault Refusal :=
  s.branch t (.bgeu t rs2 rs1 imm) rs2 rs1 imm (fun x => decide (x.ux rs2 ≤ x.ux rs1))

/-- What JAL and JALR do with their target (R460, R461). -/
def jumpLink (t : Nat) (x : Tile) (rd : BitVec 5) (now : Nat) (target : Int) : Fx :=
  { exc := jumpExc t target, writes := [(rd.toNat, (x.pc + 4) % 2 ^ 32, now + 1)], jump := some (low 32 target), cost := 2 }

def execJal (t : Fin 28) (rd z : BitVec 5) (imm : BitVec 16) (s : State) : Host.Outcome State Fault Refusal :=
  s.runC (fun c => c.issue t
    { word := (easelWord (.jal t rd z imm)).toNat, illegal := z != 0, dests := [(rd.toNat, 1)] }
    (fun c now => jumpLink t (c.tile t) rd now ((c.tile t).relative imm)))
def execJalr (t : Fin 28) (rd rs1 : BitVec 5) (imm : BitVec 16) (s : State) : Host.Outcome State Fault Refusal :=
  s.runC (fun c => c.issue t
    { word := (easelWord (.jalr t rd rs1 imm)).toNat, reads := [rs1.toNat], dests := [(rd.toNat, 1)] }
    (fun c now => jumpLink t (c.tile t) rd now ((c.tile t).ea rs1 imm)))

/-- LOOP (R462, R507). -/
def execLoop (t : Fin 28) (z rs1 : BitVec 5) (imm : BitVec 16) (s : State) : Host.Outcome State Fault Refusal :=
  let w := (easelWord (.loop t z rs1 imm)).toNat
  s.runC (fun c => c.issue t { word := w, illegal := z != 0 || imm == 0, reads := [rs1.toNat] } (fun c _ =>
    let x := c.tile t
    let le := x.pc + 4 * imm.toNat
    let exc := (if imemSize t ≤ le then [(2, le)] else []) ++ (if 2 ≤ x.ldepth then [(7, w)] else [])
    if x.ux rs1 = 0 then { exc := exc, jump := some (le + 4), cost := 2 }
    else { exc := exc, push := some (x.ux rs1, le) }))

/-! ### Slot and Glaze-port instructions (R465–R473) -/

/-- Stage the DATA of the TX entry at the next plane beat. -/
def Chip.stageSlot (t i d : Nat) (c : Chip) : Chip :=
  c.setTile t { c.tile t with stage := mset 0 (c.tile t).stage i (d + 1) }

/-- An instruction that sends under the TX entry of a selector at the next plane beat (R317). -/
def Chip.sendFx (c : Chip) (t sel : Nat) (ok : Nat → Bool) (d : Nat) : Fx :=
  let n := tileNode t
  match c.txEntry n (c.beatPlus (c.f Plane.PBEAT) 1) sel with
  | some i => if ok i then { after := Chip.stageSlot t i d } else { noSlot := true }
  | none => { noSlot := true }

def execSlottx (t : Fin 28) (z rs1 z2 : BitVec 5) (z3 : BitVec 10) (n6 : BitVec 1) (s : State) : Host.Outcome State Fault Refusal :=
  let k := if n6 = 0 then 2 else 6
  s.runC (fun c => c.issue t
    { word := (easelWord (.slottx t z rs1 z2 z3 n6)).toNat, super := false, usr := false,
      illegal := z != 0 || z2 != 0 || z3 != 0 || decide (32 < rs1.toNat + k),
      reads := (List.range k).map (fun j => rs1.toNat + j) }
    (fun c _ => c.sendFx t 0 (fun i => c.f (Slot.LEN2 (tileNode t) i) == n6.toNat)
      (sumN k (fun j => (c.tile t).reg (rs1.toNat + j) * 2 ^ (32 * j)))))

def execSlotrx (t : Fin 28) (rd z : BitVec 5) (z2 : BitVec 9) (hi : BitVec 1) (ch : BitVec 6) (s : State) :
    Host.Outcome State Fault Refusal :=
  s.runC (fun c => c.issue t
    { word := (easelWord (.slotrx t rd z z2 hi ch)).toNat, super := false, usr := false, illegal := z != 0 || z2 != 0,
      dests := [(rd.toNat, 2)] }
    (fun c now => { writes := [(rd.toNat, c.rxNow t ch.toNat / 2 ^ (32 * hi.toNat) % 2 ^ 32, now + 2)] }))

def execGlzrd (t : Fin 28) (rd z : BitVec 5) (z2 : BitVec 12) (pair : BitVec 1) (ch : BitVec 3) (s : State) :
    Host.Outcome State Fault Refusal :=
  s.runC (fun c =>
    let n := tileNode t
    let land := match c.txEntry n (c.beatPlus (c.f Plane.PBEAT) 1) 1 with
      | some i => c.glzLanding n i
      | none => c.pl.abs + c.roundLen
    c.issue t
      { word := (easelWord (.glzrd t rd z z2 pair ch)).toNat, super := false, usr := false,
        illegal := z != 0 || z2 != 0 || (pair == 1 && ch.toNat % 2 == 1), dests := [(rd.toNat, land - c.pl.abs)] }
      (fun c _ =>
        let x := c.tile t
        let fx := c.sendFx t 1 (fun _ => true) (ch.toNat + 8 * pair.toNat + 2 ^ 16 * x.pc)
        { fx with
          ninth := if x.glz.length < 8 then none else some rd.toNat,
          after := fun c => let c := fx.after c
                            c.setTile t { c.tile t with glz := (c.tile t).glz ++ [(rd.toNat, land)] } }))

def execGlzwr (t : Fin 28) (z rs1 z2 : BitVec 5) (z3 : BitVec 11) (s : State) : Host.Outcome State Fault Refusal :=
  s.runC (fun c => c.issue t
    { word := (easelWord (.glzwr t z rs1 z2 z3)).toNat, super := false, usr := false,
      illegal := z != 0 || z2 != 0 || z3 != 0, reads := [rs1.toNat] }
    (fun c _ => c.sendFx t 2 (fun _ => true) ((c.tile t).ux rs1 % 65536)))

/-! ### Decoupling queues (R474–R476) -/

def execDqpush (t : Fin 28) (z rs1 rs2 : BitVec 5) (z2 : BitVec 11) (s : State) : Host.Outcome State Fault Refusal :=
  s.runC (fun c => c.issue t
    { word := (easelWord (.dqpush t z rs1 rs2 z2)).toNat, super := false, usr := false, illegal := z != 0 || z2 != 0,
      reads := [rs1.toNat, rs2.toNat] }
    (fun c _ => let v := (c.tile t).ux rs2 * 2 ^ 32 + (c.tile t).ux rs1
                { after := fun c => c.dqPush t v }))

def execDqpop (t : Fin 28) (rd z z2 : BitVec 5) (z3 : BitVec 11) (s : State) : Host.Outcome State Fault Refusal :=
  s.runC (fun c => c.issue t
    { word := (easelWord (.dqpop t rd z z2 z3)).toNat, super := false, usr := false,
      illegal := z != 0 || z2 != 0 || z3 != 0 || rd.toNat % 2 == 1, dests := [(rd.toNat, 2), (rd.toNat + 1, 2)] }
    (fun c now => let v := c.dqFront t
                  { writes := [(rd.toNat, v % 2 ^ 32, now + 2), (rd.toNat + 1, v / 2 ^ 32 % 2 ^ 32, now + 2)],
                    after := fun c => c.dqPop t }))

def execDqwait (t : Fin 28) (z : BitVec 10) (n : BitVec 8) (z2 : BitVec 3) (k : BitVec 5) (s : State) :
    Host.Outcome State Fault Refusal :=
  s.runC (fun c => c.issue t
    { word := (easelWord (.dqwait t z n z2 k)).toNat, super := false, usr := false,
      illegal := z != 0 || z2 != 0 || n == 0 || decide (16 < k.toNat) }
    (fun _ now => { cost := n.toNat, after := fun c =>
      if n = 1 then c.dqAbsent t k.toNat
      else c.setTile t { c.tile t with dqw := some (k.toNat, now + n.toNat - 1) } }))

/-! ### Best-effort requests (R477–R487) -/

/-- Local address of the landing of a ticket (R477). -/
def landing (t k : Nat) : Nat := dmemSize t - 64 + 8 * k

/-- Write the status word of a ticket. -/
def Chip.setStatus (c : Chip) (t k v : Nat) : Chip :=
  (c.setBytes (dmemAddr t (landing t k + 4)) (toBytes 4 v)).setEcc (dmemAddr t (landing t k + 4)) 0

/-- Ticket k of a tile. -/
def Tile.ticket (x : Tile) (k : Nat) : Ticket := mget {} x.tk k
def Chip.setTicket (c : Chip) (t k : Nat) (h : Ticket) : Chip := c.setTile t { c.tile t with tk := mset {} (c.tile t).tk k h }

/-- A request of a tile: its header (R368, R479). -/
def Chip.tileHdr (c : Chip) (t typ a : Nat) : Hdr :=
  { vc := 2, prio := 1, typ := typ, src := tileNode t, dst := a / 2 ^ 25 % 128, offset := a % 2 ^ 25, be := 15,
    priv := isP t && !(c.tile t).user }

/-- The request of ticket `k` is issued (R478–R480). -/
def Chip.ltIssue (t k : Nat) (write : Bool) (a v : Nat) (c : Chip) : Chip :=
  let c := (c.setTicket t k { busy := true, write := write }).setStatus t k 0
  c.request (tileNode t) { hdr := c.tileHdr t (if write then 2 else 1) a, words := if write then [BitVec.ofNat 32 v] else [] } (.ticket k)

/-- SCHED mode's allow list (R388). -/
def Chip.allowed (c : Chip) (t a : Nat) (write : Bool) : Bool :=
  let n := tileNode t
  (List.range 4).any (fun e =>
    let log := c.f (Tile.ALLOWa_LOG n e)
    c.b (Tile.ALLOWa_EN n e) && c.b (if write then Tile.ALLOWa_W n e else Tile.ALLOWa_R n e)
      && c.f (Tile.ALLOWa_NODE n e) == a / 2 ^ 25 && decide (a / 2 ^ 25 < 49)
      && decide (6 ≤ log) && decide (log ≤ 25) && a % 2 ^ 25 / 2 ^ log == c.f (Tile.ALLOWa_BASE n e) / 2 ^ log)

/-- The outcome of ticket `k`'s request, where it has arrived, is written to its landing (R480, R481). -/
def Chip.landTicket (t k : Nat) (c : Chip) : Chip :=
  let h := (c.tile t).ticket k
  match h.res with
  | none => c
  | some (st, d) =>
    let c := if h.write then c
      else (c.setBytes (dmemAddr t (landing t k)) (toBytes 4 d)).setEcc (dmemAddr t (landing t k)) 0
    (c.setTicket t k { done := true, skip := h.skip, write := h.write }).setStatus t k
      (st % 16 + b2n h.skip * 2 ^ 30 + 2 ^ 31)

/-- The ticket's landing falls in the present beat: its response arrived before (R481). -/
def Chip.landsNow (c : Chip) (t k : Nat) : Bool :=
  ((c.tile t).ticket k).res.isSome && decide (((c.tile t).ticket k).resBeat < c.clock)

/-- What LTRD and LTWR do (R388, R407, R483, R484). A ticket that lands in the beat in which a SCHED tile issues has landed (R502). -/
def Chip.ltFx (c : Chip) (t k : Nat) (write : Bool) (a v : Nat) : Fx :=
  let exc := if isP t then (if c.prot t 2 a (if write then 1 else 0) then [] else [(if write then 15 else 14, a)])
    else (if c.allowed t a write then [] else [(16, a)])
  if ((c.tile t).ticket k).busy then
    if isP t then { exc := exc, wait := .ltissue write k a v }
    else if c.landsNow t k then { exc := exc, after := fun c => Chip.ltIssue t k write a v (Chip.landTicket t k c) }
    else { exc := exc, after := fun c =>
      (c.setTicket t k { (c.tile t).ticket k with skip := true }).setStatus t k (setBits (c.bytesAt (dmemAddr t (landing t k + 4)) 4) 30 30 1) }
  else { exc := exc, after := Chip.ltIssue t k write a v }

def execLtrd (t : Fin 28) (z : BitVec 2) (tk : BitVec 3) (rs1 : BitVec 5) (imm : BitVec 16) (s : State) :
    Host.Outcome State Fault Refusal :=
  s.runC (fun c => c.issue t
    { word := (easelWord (.ltrd t z tk rs1 imm)).toNat, illegal := z != 0, reads := [rs1.toNat] }
    (fun c _ => c.ltFx t tk.toNat false ((c.tile t).ea rs1 imm) 0))
def execLtwr (t : Fin 28) (z : BitVec 2) (tk : BitVec 3) (rs1 rs2 : BitVec 5) (z2 : BitVec 11) (s : State) :
    Host.Outcome State Fault Refusal :=
  s.runC (fun c => c.issue t
    { word := (easelWord (.ltwr t z tk rs1 rs2 z2)).toNat, illegal := z != 0 || z2 != 0, reads := [rs1.toNat, rs2.toNat] }
    (fun c _ => c.ltFx t tk.toNat true ((c.tile t).ux rs1) ((c.tile t).ux rs2)))

/-- An LTRD or LTWR of a P tile that waited for its ticket issues (R484). -/
def execLtWaitIssue (t : Fin 28) (s : State) : Host.Outcome State Fault Refusal :=
  s.runC (fun c => match (c.tile t).wait with
    | .ltissue write k a v =>
      if ((c.tile t).ticket k).busy then c else c.complete t (fun _ => { after := Chip.ltIssue t k write a v })
    | _ => c)

/-- The outcome of a ticket's request is written to its landing (R480, R481, R501). -/
def execTicketLanding (t : Fin 28) (k : Fin 8) (s : State) : Host.Outcome State Fault Refusal :=
  s.runC (fun c => Chip.landTicket t k (c.settled t))

/-- LTWAIT collects a ticket: its status word to rd, the flag cleared (R485). -/
def Chip.collect (c : Chip) (t rd k now : Nat) : Fx :=
  { writes := [(rd, c.dmem t (landing t k + 4) 4, now + 1)],
    after := fun c => c.setTicket t k { (c.tile t).ticket k with done := false } }

def execLtwait (t : Fin 28) (rd rs1 z : BitVec 5) (z2 : BitVec 11) (s : State) : Host.Outcome State Fault Refusal :=
  s.runC (fun c => c.issue t
    { word := (easelWord (.ltwait t rd rs1 z z2)).toNat, illegal := z != 0 || z2 != 0, sched := false,
      reads := [rs1.toNat], dests := [(rd.toNat, 1)] }
    (fun c now =>
      let k := (c.tile t).ux rs1 % 8
      let h := (c.tile t).ticket k
      if h.busy then { wait := .ltwait rd.toNat k }
      else if h.done then c.collect t rd.toNat k now
      else { writes := [(rd.toNat, 0, now + 1)] }))

/-- A waiting LTWAIT completes in the beat after the landing (R485, R503). -/
def execLtwaitComplete (t : Fin 28) (s : State) : Host.Outcome State Fault Refusal :=
  s.runC (fun c => match (c.tile t).wait with
    | .ltwait rd k =>
      let h := (c.tile t).ticket k
      if h.busy then c
      else if h.done then c.complete t (fun now => c.collect t rd k now)
      else c.complete t (fun now => { writes := [(rd, 0, now + 1)] })
    | _ => c)

/-! ### Events and locks (R488–R493) -/

/-- The region check of an access that needs R and W (R407, R489). -/
def Chip.protRw (c : Chip) (t a : Nat) : List (Nat × Nat) :=
  (if c.prot t 2 a 0 then [] else [(14, a)]) ++ (if c.prot t 2 a 1 then [] else [(15, a)])

def execEvpost (t : Fin 28) (z rs1 rs2 : BitVec 5) (code : BitVec 11) (s : State) : Host.Outcome State Fault Refusal :=
  s.runC (fun c => c.issue t
    { word := (easelWord (.evpost t z rs1 rs2 code)).toNat, illegal := z != 0, reads := [rs1.toNat, rs2.toNat] }
    (fun c _ =>
      let x := c.tile t
      { exc := c.protRw t 0x3C000000, after := fun c =>
          c.postWords (tileNode t) 0 (evCode 31 code.toNat) [BitVec.ofNat 32 (x.ux rs1), BitVec.ofNat 32 (x.ux rs2)] }))

/-- A LOCK request of a tile (R518, R550): in Shadow mode to the Primary's LOCK. -/
def Chip.lockRequest (c : Chip) (t op lock prio : Nat) (o : Owner) : Chip :=
  let a := (if c.shadow then 88 else 24) * 2 ^ 25 + 64 * lock
  c.request (tileNode t)
    { hdr := { c.tileHdr t 3 a with len := 3 }, words := [BitVec.ofNat 32 (lock + prio * 2 ^ 8 + op * 2 ^ 12), 0, 0, 0] } o

/-- Address that an operation on lock `n` is checked at (R489). -/
def lockGranule (n : Nat) : Nat := 0x30000000 + 64 * n

def execLkacq (t : Fin 28) (rd rs1 : BitVec 5) (z : BitVec 12) (prio : BitVec 4) (s : State) : Host.Outcome State Fault Refusal :=
  s.runC (fun c => c.issue t
    { word := (easelWord (.lkacq t rd rs1 z prio)).toNat, illegal := z != 0, sched := false,
      reads := [rs1.toNat], dests := [(rd.toNat, 1)] }
    (fun c _ =>
      let x := c.tile t
      let n := x.ux rs1 % 256
      let exc := c.protRw t (lockGranule n)
      match x.lkOut with
      | some q => { exc := exc, wait := .lkacq rd.toNat (q != (n, prio.toNat)) }
      | none => { exc := exc, wait := .lkacq rd.toNat false, after := fun c =>
          (c.setTile t { c.tile t with lkOut := some (n, prio.toNat), lkRsp := none }).lockRequest t 0 n prio.toNat (.lkacq n) }))

/-- The LKRSP of a waiting LKACQ has arrived (R490–R492). -/
def execLkacqComplete (t : Fin 28) (s : State) : Host.Outcome State Fault Refusal :=
  s.runC (fun c => match (c.tile t).wait, (c.tile t).lkRsp with
    | .lkacq rd stale, some (st, w) =>
      c.complete t (fun now =>
        { writes := [(rd, st % 16 + (if st = 0 then bits w 15 8 * 2 ^ 8 else 0) + b2n stale * 2 ^ 31, now + 1)],
          after := fun c => c.setTile t { c.tile t with lkOut := none, lkRsp := none } })
    | _, _ => c)

def execLkrel (t : Fin 28) (z rs1 z2 : BitVec 5) (z3 : BitVec 11) (s : State) : Host.Outcome State Fault Refusal :=
  s.runC (fun c => c.issue t
    { word := (easelWord (.lkrel t z rs1 z2 z3)).toNat, illegal := z != 0 || z2 != 0 || z3 != 0, reads := [rs1.toNat] }
    (fun c _ =>
      let n := (c.tile t).ux rs1 % 256
      { exc := c.protRw t (lockGranule n), after := fun c => c.lockRequest t 1 n 0 .lkrel }))

/-! ### System instructions (R494–R497) -/

def execMfs (t : Fin 28) (rd z : BitVec 5) (z2 : BitVec 4) (sr : BitVec 12) (s : State) : Host.Outcome State Fault Refusal :=
  s.runC (fun c => c.issue t
    { word := (easelWord (.mfs t rd z z2 sr)).toNat, usr := userRead sr.toNat, dests := [(rd.toNat, 1)],
      illegal := z != 0 || z2 != 0 || (c.sysRead t (c.tile t) 0 sr.toNat).isNone }
    (fun c now =>
      let x := c.tile t
      let v := (c.sysRead t x (c.ipendOf t) sr.toNat).getD 0
      { writes := [(rd.toNat, if sr = 1 ∧ x.user then bits v 7 6 * 2 ^ 6 else v, now + 1)] }))

def execMts (t : Fin 28) (rt z : BitVec 5) (z2 : BitVec 4) (sr : BitVec 12) (s : State) : Host.Outcome State Fault Refusal :=
  s.runC (fun c => c.issue t
    { word := (easelWord (.mts t rt z z2 sr)).toNat, usr := sr.toNat == 8, reads := [rt.toNat],
      illegal := z != 0 || z2 != 0 || (c.sysRead t (c.tile t) 0 sr.toNat).isNone }
    (fun c now => { lands := [{ land := now + 2, what := .mts sr.toNat ((c.tile t).ux rt) }] }))

/-- ECALL (R395, R496): its effect is the exception. -/
def execEcall (t : Fin 28) (z : BitVec 10) (code : BitVec 16) (s : State) : Host.Outcome State Fault Refusal :=
  let w := (easelWord (.ecall t z code)).toNat
  s.runC (fun c => c.issue t { word := w, illegal := z != 0, sched := false }
    (fun c _ => { exc := [(if (c.tile t).user then 8 else 9, w)] }))

/-- ERET (R396, R497). -/
def execEret (t : Fin 28) (z : BitVec 15) (s : State) : Host.Outcome State Fault Refusal :=
  s.runC (fun c => c.issue t
    { word := (easelWord (.eret t z)).toNat, illegal := z != 0, sched := false, usr := false }
    (fun c _ =>
      let x := c.tile t
      { jump := some (x.epc / 4 * 4), cost := 3, after := fun c =>
          let x := c.tile t
          c.setTile t { x with user := x.pmode == 2, ie := x.pie, ldepth := x.pld, exl := false, protx := x.prot } }))

/-- WFI (R405, R511). -/
def execWfi (t : Fin 28) (z : BitVec 15) (s : State) : Host.Outcome State Fault Refusal :=
  s.runC (fun c => c.issue t
    { word := (easelWord (.wfi t z)).toNat, illegal := z != 0, sched := false, usr := false }
    (fun _ _ => { after := fun c => if (c.eligible t).isSome then c else c.put (Tile.STATE (tileNode t)) 2 }))

/-- FENCE (R375, R392, R497). -/
def execFence (t : Fin 28) (z : BitVec 15) (s : State) : Host.Outcome State Fault Refusal :=
  s.runC (fun c => c.issue t
    { word := (easelWord (.fence t z)).toNat, illegal := z != 0 }
    (fun _ _ => { cost := 2, after := fun c => c.setTile t { c.tile t with protx := (c.tile t).prot } }))

/-- HALT: the end of a SCHED tile's round, or the stop of a P tile (R304, R409). -/
def execHalt (t : Fin 28) (z : BitVec 15) (s : State) : Host.Outcome State Fault Refusal :=
  s.runC (fun c => c.issue t
    { word := (easelWord (.halt t z)).toNat, illegal := z != 0, usr := false }
    (fun c _ =>
      let pc := (c.tile t).pc
      { after := fun c =>
          if isP t then c.tileStopped t 0 pc
          else (c.put (Tile.STATE (tileNode t)) 0).setTile t { c.tile t with halted := true } }))

/-! ### Interrupts and timers -/

/-- A line is eligible and the tile leaves WFI (R405). -/
def execWfiWake (t : Fin 28) (s : State) : Host.Outcome State Fault Refusal :=
  s.runC (fun c =>
    if isP t && c.f (Tile.STATE (tileNode t)) == 2 && (c.eligible t).isSome && !c.fenced (tileNode t) && !c.gated t then
      (c.put (Tile.STATE (tileNode t)) 1).setTile t { c.tile t with nextIssue := max c.clock (c.tile t).nextIssue }
    else c)

/-- A P tile takes an eligible interrupt (R401, R402, R417). -/
def execInterruptEntry (t : Fin 28) (s : State) : Host.Outcome State Fault Refusal :=
  s.runC (fun c =>
    let st := c.f (Tile.STATE (tileNode t))
    let d := c.settle t (max c.clock (c.tile t).nextIssue)
    if isP t && (st == 1 || st == 2) && !c.fenced (tileNode t) && !c.gated t && (d.tile t).ie then
      match d.eligible t with
      | some l => d.interrupt t l
      | none => c
    else c)

/-- Timer `j` passes from 1 to 0, or holds 0 (R403, R404). An MTS to its CNT that takes effect in the same beat is lost (R418). -/
def Tile.timerEnd (x : Tile) (j beat : Nat) : Tile :=
  let lost (p : Pend) : Bool := p.land == beat && (match p.what with | .mts sr _ => sr == 0x50 + 2 * j | _ => false)
  let x := { x with ipend := x.ipend ||| 2 ^ j, pend := x.pend.filter (fun p => !lost p) }
  let rld := if j = 0 then x.rld0 else x.rld1
  let x := if j = 0 then { x with cnt0 := rld } else { x with cnt1 := rld }
  if rld = 0 then { x with tmren := x.tmren - (x.tmren &&& 2 ^ j) } else x

def execTimerExpiry (t : Fin 28) (j : Fin 2) (s : State) : Host.Outcome State Fault Refusal :=
  s.runC (fun c =>
    let d := c.settle t (c.clock - 1)
    let x := d.tile t
    let cnt := if j = 0 then x.cnt0 else x.cnt1
    if isP t && bit x.tmren j && decide (cnt ≤ 1) then
      let d := d.setTile t (x.timerEnd j c.clock)
      (d.settled t).raiseLine t (2 ^ j.val)
    else c)

/-- A word whose single-bit error was corrected is written back (R372, R451). -/
def execEccWriteback (t : Fin 28) (imem : Bool) (a : BitVec 17) (s : State) : Host.Outcome State Fault Refusal :=
  s.runC (fun c =>
    let g := if imem then imemAddr t a.toNat else dmemAddr t a.toNat
    if a.toNat < (if imem then imemSize t else dmemSize t) ∧ c.eccAt g = 1 then c.setEcc g 0 else c)

end Sys2Proof.Machine
end

