-- ==== Sys2Proof/Machine/BusCmds.lean ====
section
/-! DEFINITION. The commands that are an access to a register or a memory word, the schedule switch that a register write
asks for, and packets from the twin (R233–R237, R347, R970). -/

namespace Sys2Proof.Machine

open Reg

/-! ### Any access -/

/-- An access that the outside makes with LEN and BE of its own. A write to a forwarding slot and a read that waits for a token are
taken as such requests (R281, R621); any other is judged and performed, and its outcome kept. -/
def Chip.busAccess (c : Chip) (u : LockUnit) (n off len be : Nat) (q : Sender) (write : Bool) (ws : List Word) : Chip :=
  let h := cmdHdr q n off len be write
  if n = 0 && write && slotReq h then { c with resp := none }.slotWr { hdr := h, words := ws }
  else if !write && c.judge n h false false 0 == stOk && c.mustWait n off then
    if parkPlaces ≤ (c.ni n).parked.length then { c with resp := some (stBusy, []) }
    else { c.setNi n { c.ni n with parked := (c.ni n).parked ++ [{ hdr := h }] } with resp := none }
  else c.cmdAccess u n off len be q write ws

/-- A write of one register word at a global address. -/
def Chip.wordWrite (c : Chip) (u : LockUnit) (a : Nat) (q : Sender) (w : Nat) : Chip := c.cmdWrite u (a / 0x2000000) (a % 0x2000000) q w

/-- A command that writes a register word. -/
def State.wr (s : State) (a : Nat) (q : Sender) (w : Nat) : Host.Outcome State Fault Refusal := s.run (fun u c => c.wordWrite u a q w)

/-- R234–R237, R970, R971. -/
def execRegisterWrite (node : Fin 49) (off : BitVec 25) (q : Sender) (be : BitVec 4) (len : Fin 16) (data : Word) (s : State) :
    Host.Outcome State Fault Refusal :=
  s.run (fun u c => c.busAccess u node off.toNat len be.toNat q true [data])

/-- R233–R237, R372–R374, R965, R966, R970: LEN follows from the words given, at most 16. -/
def execMemoryAccess (node : Fin 49) (off : BitVec 25) (q : Sender) (write : Bool) (be : BitVec 4) (data : List Word) (s : State) :
    Host.Outcome State Fault Refusal :=
  s.run (fun u c => c.busAccess u node off.toNat (min 16 (max 1 data.length) - 1) be.toNat q write (data.take 16))

/-! ### Rails and phases -/

/-- R36, R47, R48. -/
def execPhaseMapWrite (ph : Fin 96) (q : Sender) (data : Word) (s : State) : Host.Outcome State Fault Refusal :=
  s.wr (Phase.base ph) q data.toNat

/-- R88. -/
def execDutyWrite (ph : Fin 96) (q : Sender) (data : Word) (s : State) : Host.Outcome State Fault Refusal :=
  s.wr (Phase.TON ph).addr q data.toNat

/-- R123. -/
def execOcLatchedClear (ph : Fin 96) (q : Sender) (s : State) : Host.Outcome State Fault Refusal :=
  s.wr (Phase.OC_LATCHED ph).addr q (2 ^ (Phase.OC_LATCHED ph).lo)

/-- R104–R106: a write by a node, or by an AVSBus port's commit. -/
def execVsetWrite (r : Fin 16) (q : Sender) (port : Option (Fin 8)) (data : Word) (s : State) : Host.Outcome State Fault Refusal :=
  match port with
  | none => s.wr (Rail.VSET r).addr q data.toNat
  | some p => s.run (fun u c =>
      if c.fenced 18 then { c with resp := some (stFenced, []) }
      else
        let x := c.putWord u 18 ((Rail.VSET r).addr % 0x2000000) data.toNat { src := 0, tenant := 3 + p.val / 2, port := some p.val }
        { x.2 with resp := some (x.1, []) })

/-- R108: a write with EN set. -/
def execRailEnable (r : Fin 16) (q : Sender) (data : Word) (s : State) : Host.Outcome State Fault Refusal :=
  s.wr (Rail.EN r).addr q (setBits data.toNat 0 0 1)

/-- R109: a write with EN clear. -/
def execRailDisable (r : Fin 16) (q : Sender) (data : Word) (s : State) : Host.Outcome State Fault Refusal :=
  s.wr (Rail.EN r).addr q (setBits data.toNat 0 0 0)

/-- R124, R150. -/
def execRailRestart (r : Fin 16) (q : Sender) (s : State) : Host.Outcome State Fault Refusal :=
  s.wr (Rail.RESTART r).addr q (2 ^ (Rail.RESTART r).lo)

/-! ### Glaze -/

/-- R173–R175. -/
def execVddgSetWrite (q : Sender) (data : Word) (s : State) : Host.Outcome State Fault Refusal := s.wr Garr.base q data.toNat

/-- R187. -/
def execGmemWindowAccess (m : Fin 24) (a : Fin 4096) (q : Sender) (write : Bool) (be : BitVec 4) (data : List Word) (s : State) :
    Host.Outcome State Fault Refusal :=
  s.run (fun u c => c.busAccess u 10 (0x4000 * m + 4 * a) (min 16 (max 1 data.length) - 1) be.toNat q write (data.take 16))

/-- R189–R191. -/
def execInData (n : Fin 4) (k : Fin 8) (q : Sender) (data : Word) (s : State) : Host.Outcome State Fault Refusal :=
  s.wr (Gport.IN_DATA (gNode n) k).addr q data.toNat

/-- R193–R195, R281. -/
def execOutPop (n : Fin 4) (k : Fin 8) (q : Sender) (s : State) : Host.Outcome State Fault Refusal :=
  s.run (fun u c => c.busAccess u (gNode n) ((Gport.OUT_POP (gNode n) k).addr % 0x2000000) 0 15 q false [])

/-- R198. -/
def execSnapReq (n : Fin 4) (q : Sender) (data : Word) (s : State) : Host.Outcome State Fault Refusal :=
  s.wr (Gport.SNAP_REQ (gNode n)).addr q data.toNat

/-- R205. -/
def execProbeWrite (p : Fin 8) (q : Sender) (data : Word) (s : State) : Host.Outcome State Fault Refusal :=
  s.wr (Garr.PROBE_VIEW p).addr q data.toNat

/-! ### Network interfaces and tiles -/

/-- R246, R247. -/
def execRouteEntryWrite (n : Fin 49) (e : Fin 64) (q : Sender) (data : Word) (s : State) : Host.Outcome State Fault Refusal :=
  s.wr (Ni.ROUTEe_HI n e).addr q data.toNat

/-- R985. -/
def execNodeRst (n : Fin 49) (q : Sender) (s : State) : Host.Outcome State Fault Refusal := s.wr (Ni.NODE_RST n).addr q 1

/-- R399, R413. -/
def execIset (t : Fin 28) (q : Sender) (data : Word) (s : State) : Host.Outcome State Fault Refusal :=
  s.wr (Tile.ISET (tileNode t)).addr q data.toNat

/-- R267, R298. -/
def execTunnelReceive (s : State) : Host.Outcome State Fault Refusal :=
  s.runC (fun c =>
    if c.fenced 6 then
      match c.tw.rxq with
      | [] => c
      | p :: ps =>
        let c := { c with tw.rxq := ps }
        if p.hdr.vc = 2 then c.tunnelAnswer p.hdr stFenced else c.dropErr 6 p.hdr p.hdr.src
    else c.tunnelIn)

/-! ### The plane -/

/-- R345: SEL keeps its value. -/
def execPlaneRestart (q : Sender) (s : State) : Host.Outcome State Fault Refusal :=
  s.run (fun u c => c.wordWrite u Plane.STATE.addr q (2 ^ 8 + c.f Plane.CTL_SEL * 2 ^ 12))

/-- R347, R348. -/
def execSwitch (q : Sender) (sel : Fin 4) (s : State) : Host.Outcome State Fault Refusal :=
  s.wr Plane.STATE.addr q (2 ^ 9 + sel * 2 ^ 12)

/-- CFG has loaded and checked the schedule of a switch (R347, R354, R399). -/
def Chip.switchDone (c : Chip) (u : LockUnit) : Chip :=
  match c.pl.switchTo with
  | none => c
  | some n =>
    if c.f Plane.STATE ≠ plSwitching then c
    else
      let x := ({ c with pl.switchTo := none } : Chip).loadSched u c.pw.img n (c.b Power.SEALED) false
      match x.1 with
      | some e => x.2.schedRefused n e
      | none =>
        let c := ((x.2.put Plane.LOADED n).planeStart (x.2.f Plane.ROUND + 1)).post 31 4 2 []
        forN 4 (fun p c => c.raiseLine (24 + p) (2 ^ 8)) c

/-- R347. -/
def execSchedSwitched (s : State) : Host.Outcome State Fault Refusal := s.run (fun u c => c.switchDone u)

end Sys2Proof.Machine
end

