-- ==== Sys2Proof/Machine/GcfgCmds.lean ====
section
/-! DEFINITION. The commands of the Glaze configuration port, start-up, the scrubber and Overpaint (R844–R871). -/

namespace Sys2Proof.Machine

open Reg

/-- A write of GCFG.CMD: a command code and a region (R844). -/
def State.gcmd (s : State) (q : Sender) (code r : Nat) : Host.Outcome State Fault Refusal := s.wr Gcfg.base q (code + r * 2 ^ 8)

/-- R844. -/
def execNull (q : Sender) (s : State) : Host.Outcome State Fault Refusal := s.gcmd q 0 0

/-- R844, R845. -/
def execWcfg (q : Sender) (s : State) : Host.Outcome State Fault Refusal := s.gcmd q 1 0

/-- R844, R846. -/
def execRcfg (q : Sender) (s : State) : Host.Outcome State Fault Refusal := s.gcmd q 2 0

/-- R853–R855. -/
def execStart (q : Sender) (s : State) : Host.Outcome State Fault Refusal := s.gcmd q 3 0

/-- R857. -/
def execShutdown (q : Sender) (s : State) : Host.Outcome State Fault Refusal := s.gcmd q 4 0

/-- R844. -/
def execGrestore (q : Sender) (s : State) : Host.Outcome State Fault Refusal := s.gcmd q 5 0

/-- R866, R867. -/
def execOverpaintBegin (q : Sender) (r : Fin 8) (s : State) : Host.Outcome State Fault Refusal := s.gcmd q 6 r

/-- R869. -/
def execOverpaintEnd (q : Sender) (r : Fin 8) (s : State) : Host.Outcome State Fault Refusal := s.gcmd q 7 r

/-- R845, R848. -/
def execFdata (q : Sender) (data : Word) (s : State) : Host.Outcome State Fault Refusal := s.wr (Gcfg.base + 8) q data.toNat

/-- R846. -/
def execFdout (q : Sender) (s : State) : Host.Outcome State Fault Refusal :=
  s.run (fun u c => c.busAccess u 10 0x100100C 0 15 q false [])

/-- R847. -/
def execPlData (q : Sender) (data : Word) (s : State) : Host.Outcome State Fault Refusal := s.wr (Gcfg.base + 0x44) q data.toNat

/-- R849, R854; a refusal at step S6 ends the step (R858). -/
def execFabricCheckDone (s : State) : Host.Outcome State Fault Refusal := s.runC (fun c => c.fabricDone.endS6)

/-- R854, R870: the next start-up step of the array, or of a region. -/
def execStartupStep (region : Option (Fin 8)) (s : State) : Host.Outcome State Fault Refusal :=
  s.runC (fun c => match region with
    | none => c.startupStep.endS6
    | some r => c.regionStep r)

/-- R856, R858. -/
def execGlazeLockTmo (s : State) : Host.Outcome State Fault Refusal := s.runC (fun c => c.gLockTmo.endS6)

/-- R860–R864: `upsets` are the configuration words of the frame that changed since its last visit. -/
def execScrubVisit (upsets : List (Fin 96 × BitVec 16)) (s : State) : Host.Outcome State Fault Refusal :=
  s.runC (fun c => c.scrubVisit upsets)

/-- R869–R871. -/
def execRegionCheckDone (r : Fin 8) (s : State) : Host.Outcome State Fault Refusal := s.runC (fun c => c.regionDone r)

end Sys2Proof.Machine
end

