-- ==== Sys2Proof/Machine/GlazeCmds.lean ====
section
/-! DEFINITION. The commands of the Glaze array that no register write makes (R154–R217). -/

namespace Sys2Proof.Machine

/-- A level port issues a token with the level sampled (R176): of a droop spine the state holds it, and `level` is not looked at. -/
def execLevelPortToken (p : LevelPort) (level : Bool) (s : State) : Host.Outcome State Fault Refusal :=
  s.runC (fun c => match p with
    | .spine col k => c.levelPort (12 * col + k) (.spine col k) (c.spineLevel col k level)
    | .chan n k => c.inChanToken n k
    | .gio g => c.gioPort g level)

/-- R156. -/
def execGlazeStageCapture (col : Fin 16) (row : Fin 12) (m : Fin 16) (s : State) : Host.Outcome State Fault Refusal :=
  s.runC (fun c => c.stage col row m)

/-- R179. -/
def execOutputPortToken (p : Fin 208) (s : State) : Host.Outcome State Fault Refusal := s.runC (fun c => c.outPort p)

/-- R172, R990. -/
def execRingMeasurement (col : Fin 16) (ps : BitVec 16) (s : State) : Host.Outcome State Fault Refusal :=
  s.runC (fun c => c.ringMeasure col ps.toNat)

/-- R173. -/
def execVddgReached (s : State) : Host.Outcome State Fault Refusal := s.runC (fun c => c.vddgReached)

/-- R184, R185. -/
def execGmemAccess (m : Fin 24) (portB : Bool) (s : State) : Host.Outcome State Fault Refusal :=
  s.runC (fun c => c.gmemPort m portB)

/-- R193, R209. -/
def execOutChannelToken (n : Fin 4) (k : Fin 8) (s : State) : Host.Outcome State Fault Refusal :=
  s.runC (fun c => c.outChan n k)

/-- The counter of a SNAPSHOT group has drained (R197, R198): `line` is the level of its completion line, and the read waits while it is
low. -/
def execCounterCaptureDone (n : Fin 4) (k : Fin 8) (line : Bool) (s : State) : Host.Outcome State Fault Refusal :=
  s.runC (fun c => if line then c.capture n k else c)

end Sys2Proof.Machine
end

