-- ==== Sys2Proof/Machine/HubCmds.lean ====
section
/-! DEFINITION. The commands that hosts send through PMBus, I3C and AVSBus, and the HUB's timers (R567–R634). -/

namespace Sys2Proof.Machine

open Reg

/-- A transaction at a port. -/
def State.tx (s : State) (x : HostTx) (code : Nat) (write : Bool) (bytes : List Byte) : Host.Outcome State Fault Refusal :=
  s.runC (fun c => c.hostTx x code write bytes)

/-- Host bytes of a value that a command writes or reads. -/
def optBytes (k : Nat) {w : Nat} (v : Option (BitVec w)) : List Byte := match v with | some b => toBytes k b.toNat | none => []

/-! ### PMBus commands (R577–R579) -/

/-- R577. -/
def execPage (x : HostTx) (v : Option (BitVec 8)) (s : State) : Host.Outcome State Fault Refusal := s.tx x 0x00 v.isSome (optBytes 1 v)

/-- R578, R109. -/
def execOperation (x : HostTx) (v : Option (BitVec 8)) (s : State) : Host.Outcome State Fault Refusal := s.tx x 0x01 v.isSome (optBytes 1 v)

/-- R579. -/
def execClearFaults (x : HostTx) (s : State) : Host.Outcome State Fault Refusal := s.tx x 0x03 true []

/-- R578. -/
def execCapability (x : HostTx) (s : State) : Host.Outcome State Fault Refusal := s.tx x 0x19 false []

/-- R138. -/
def execVoutMode (x : HostTx) (s : State) : Host.Outcome State Fault Refusal := s.tx x 0x20 false []

/-- R105, R574. -/
def execVoutCommand (x : HostTx) (v : Option (BitVec 16)) (s : State) : Host.Outcome State Fault Refusal := s.tx x 0x21 v.isSome (optBytes 2 v)

/-- R578. -/
def execVoutMax (x : HostTx) (s : State) : Host.Outcome State Fault Refusal := s.tx x 0x24 false []

/-- R579. -/
def execStatusByte (x : HostTx) (s : State) : Host.Outcome State Fault Refusal := s.tx x 0x78 false []

/-- R579. -/
def execStatusWord (x : HostTx) (s : State) : Host.Outcome State Fault Refusal := s.tx x 0x79 false []

/-- R579. -/
def execStatusVout (x : HostTx) (s : State) : Host.Outcome State Fault Refusal := s.tx x 0x7A false []

/-- R579. -/
def execStatusIout (x : HostTx) (s : State) : Host.Outcome State Fault Refusal := s.tx x 0x7B false []

/-- R579. -/
def execStatusInput (x : HostTx) (s : State) : Host.Outcome State Fault Refusal := s.tx x 0x7C false []

/-- R579. -/
def execStatusTemperature (x : HostTx) (s : State) : Host.Outcome State Fault Refusal := s.tx x 0x7D false []

/-- R579. -/
def execStatusCml (x : HostTx) (s : State) : Host.Outcome State Fault Refusal := s.tx x 0x7E false []

/-- R139. -/
def execReadVin (x : HostTx) (s : State) : Host.Outcome State Fault Refusal := s.tx x 0x88 false []

/-- R139. -/
def execReadIin (x : HostTx) (s : State) : Host.Outcome State Fault Refusal := s.tx x 0x89 false []

/-- R138. -/
def execReadVout (x : HostTx) (s : State) : Host.Outcome State Fault Refusal := s.tx x 0x8B false []

/-- R139. -/
def execReadIout (x : HostTx) (s : State) : Host.Outcome State Fault Refusal := s.tx x 0x8C false []

/-- R139. -/
def execReadTemperature1 (x : HostTx) (s : State) : Host.Outcome State Fault Refusal := s.tx x 0x8D false []

/-- R139. -/
def execReadPout (x : HostTx) (s : State) : Host.Outcome State Fault Refusal := s.tx x 0x96 false []

/-- R578. -/
def execPmbusRevision (x : HostTx) (s : State) : Host.Outcome State Fault Refusal := s.tx x 0x98 false []

/-- R578. -/
def execMfrId (x : HostTx) (s : State) : Host.Outcome State Fault Refusal := s.tx x 0x99 false []

/-- R578. -/
def execMfrModel (x : HostTx) (s : State) : Host.Outcome State Fault Refusal := s.tx x 0x9A false []

/-- R578. -/
def execMfrRevision (x : HostTx) (s : State) : Host.Outcome State Fault Refusal := s.tx x 0x9B false []

/-! ### Manufacturer commands (R589–R597) -/

/-- R590. -/
def execMfrLock (x : HostTx) (seq lock prio op : BitVec 8) (s : State) : Host.Outcome State Fault Refusal :=
  s.tx x 0xD0 true [seq, lock, prio, op]

/-- R589. -/
def execMfrNoticeRead (x : HostTx) (s : State) : Host.Outcome State Fault Refusal := s.tx x 0xD1 false []

/-- R604, R605; a block holds at most 254 body bytes beside SEQ (R589). -/
def execMfrMsgSend (x : HostTx) (seq : BitVec 8) (body : List Byte) (s : State) : Host.Outcome State Fault Refusal :=
  s.tx x 0xD2 true (seq :: body.take 254)

/-- R589. -/
def execMfrMsgRead (x : HostTx) (s : State) : Host.Outcome State Fault Refusal := s.tx x 0xD3 false []

/-- R752. -/
def execMfrCntRead (x : HostTx) (node idx : BitVec 8) (s : State) : Host.Outcome State Fault Refusal := s.tx x 0xD4 true [node, idx]

/-- R591. -/
def execMfrRegRead (x : HostTx) (addr : BitVec 32) (s : State) : Host.Outcome State Fault Refusal :=
  s.tx x 0xD5 true (toBytes 4 addr.toNat)

/-- R591. -/
def execMfrRegWrite (x : HostTx) (seq : BitVec 8) (addr : BitVec 32) (data : Word) (s : State) : Host.Outcome State Fault Refusal :=
  s.tx x 0xD6 true (seq :: (toBytes 4 addr.toNat ++ toBytes 4 data.toNat))

/-- R589. -/
def execMfrTenantStatus (x : HostTx) (s : State) : Host.Outcome State Fault Refusal := s.tx x 0xD7 false []

/-- R589. -/
def execMfrRailRestart (x : HostTx) (v : BitVec 8) (s : State) : Host.Outcome State Fault Refusal := s.tx x 0xD8 true [v]

/-- R614. -/
def execMfrTenantReset (x : HostTx) (v : BitVec 8) (s : State) : Host.Outcome State Fault Refusal := s.tx x 0xD9 true [v]

/-! ### Timers and pins of the ports -/

/-- R592. -/
def execRetryCacheExpiry (t : Fin 8) (s : State) : Host.Outcome State Fault Refusal :=
  s.runC (fun c =>
    let h := c.ten t
    if h.cache.any RetryEntry.done then c.setTen t { h with cache := none } else c)

/-- R595. -/
def execStretchTimeout (p : Fin 2) (s : State) : Host.Outcome State Fault Refusal :=
  s.runC (fun c =>
    let h := c.ten (p + 1)
    if h.await.isSome then c.setTen (p + 1) { h with ack := false, await := none } else c)

/-- R575, R605. -/
def execSmbusBusTimeout (p : Fin 2) (s : State) : Host.Outcome State Fault Refusal :=
  s.runC (fun c => if c.portServes p false then ((c.fillDrop (p + 1)).hostOut (p + 1) false []).tenFault (p + 1) 10 else c)

/-- R612. -/
def execAlertResponse (p : Fin 2) (s : State) : Host.Outcome State Fault Refusal :=
  s.runC (fun c =>
    let h := c.portH p
    if h.alert then c.setPortH p { h with alert := false, answered := true } else c)

/-- R612. -/
def execAlertReassert (p : Fin 2) (s : State) : Host.Outcome State Fault Refusal :=
  s.runC (fun c =>
    let h := c.portH p
    if h.answered then c.setPortH p { h with alert := c.pendingCause (p + 1), answered := false } else c)

/-- R612: the retried in-band interrupt is taken, with its mandatory data byte. -/
def execIbiRetry (p : Fin 2) (s : State) : Host.Outcome State Fault Refusal :=
  s.runC (fun c =>
    let h := c.portH p
    match h.ibi with
    | some b => if h.ibiEn && !h.hdr then (c.setPortH p { h with ibi := none }).hostOut (p + 1) true (toBytes 1 b) else c
    | none => c)

/-! ### I3C (R581, R582) -/

/-- The port takes part on its I3C bus. -/
def Chip.i3cOn (c : Chip) (p : Nat) : Bool := c.portServes p true && !(c.portH p).hdr

/-- A common command code that the port answers. -/
def Chip.ccc (c : Chip) (p : Nat) (f : PortH → PortH) (bs : List Byte) : Chip :=
  if c.i3cOn p then (c.setPortH p (f (c.portH p))).hostOut (p + 1) true bs else c

/-- A directed code, to a port that has its dynamic address. -/
def Chip.cccDirect (c : Chip) (p : Nat) (f : PortH → PortH) (bs : List Byte) : Chip :=
  if (c.portH p).dyn.isSome then c.ccc p f bs else c

/-- A directed code that returns bytes the spec states no value for. -/
def Chip.cccFree (c : Chip) (p k : Nat) : Chip :=
  if c.i3cOn p && (c.portH p).dyn.isSome then
    let (v, c) := c.freeWord
    let (w, c) := c.freeWord
    c.hostOut (p + 1) true (toBytes k (v.toNat + w.toNat * 2 ^ 32))
  else c

/-- R581. -/
def execEntdaa (p : Fin 2) (addr : BitVec 7) (s : State) : Host.Outcome State Fault Refusal :=
  s.runC (fun c => if (c.portH p).dyn.isNone then c.ccc p (fun h => { h with dyn := some addr.toNat }) [] else c)

/-- R581: the static address is 0x30, or 0x38 at port B, plus PMADDR. -/
def execSetdasa (p : Fin 2) (stat addr : BitVec 7) (s : State) : Host.Outcome State Fault Refusal :=
  s.runC (fun c =>
    if (c.portH p).dyn.isNone && stat.toNat == 0x30 + 8 * p.val + c.f (PortQ.PMADDR p) then
      c.ccc p (fun h => { h with dyn := some addr.toNat }) []
    else c)

/-- R582. -/
def execRstdaa (p : Fin 2) (s : State) : Host.Outcome State Fault Refusal := s.runC (fun c => c.ccc p (fun h => { h with dyn := none }) [])

/-- R582, R612: bit 0 of the events byte is the in-band interrupt. -/
def execEnec (p : Fin 2) (ev : BitVec 8) (s : State) : Host.Outcome State Fault Refusal :=
  s.runC (fun c =>
    if bit ev.toNat 0 then
      let t := p.val + 1
      let b := if !(c.ten t).notices.isEmpty then 1 else if !(c.ten t).outbox.isEmpty || (c.ten t).pendTwin then 2 else 3
      let due := c.pendingCause t
      c.ccc p (fun h => { h with ibiEn := true, ibi := if due then some (h.ibi.getD b) else h.ibi }) []
    else c.ccc p id [])

/-- R582, R612. -/
def execDisec (p : Fin 2) (ev : BitVec 8) (s : State) : Host.Outcome State Fault Refusal :=
  s.runC (fun c => if bit ev.toNat 0 then c.ccc p (fun h => { h with ibiEn := false }) [] else c.ccc p id [])

/-- R582; the spec gives no provisioned ID: six free bytes. -/
def execGetpid (p : Fin 2) (s : State) : Host.Outcome State Fault Refusal := s.runC (fun c => c.cccFree p 6)

/-- R581. -/
def execGetbcr (p : Fin 2) (s : State) : Host.Outcome State Fault Refusal := s.runC (fun c => c.cccDirect p id [0x06])

/-- R581. -/
def execGetdcr (p : Fin 2) (s : State) : Host.Outcome State Fault Refusal := s.runC (fun c => c.cccDirect p id [0x00])

/-- R582; the spec gives the status no layout: two free bytes. -/
def execGetstatus (p : Fin 2) (s : State) : Host.Outcome State Fault Refusal := s.runC (fun c => c.cccFree p 2)

/-- R582; most significant byte first. -/
def execGetmwl (p : Fin 2) (s : State) : Host.Outcome State Fault Refusal :=
  s.runC (fun c => c.cccDirect p id (toBytes 2 (c.portH p).mwl).reverse)

/-- R582; most significant byte first. -/
def execGetmrl (p : Fin 2) (s : State) : Host.Outcome State Fault Refusal :=
  s.runC (fun c => c.cccDirect p id (toBytes 2 (c.portH p).mrl).reverse)

/-- R582. -/
def execSetmwl (p : Fin 2) (v : BitVec 16) (s : State) : Host.Outcome State Fault Refusal :=
  s.runC (fun c => c.ccc p (fun h => { h with mwl := v.toNat }) [])

/-- R582. -/
def execSetmrl (p : Fin 2) (v : BitVec 16) (s : State) : Host.Outcome State Fault Refusal :=
  s.runC (fun c => c.ccc p (fun h => { h with mrl := v.toNat }) [])

/-- R582. -/
def execHdrEntry (p : Fin 2) (s : State) : Host.Outcome State Fault Refusal :=
  s.runC (fun c => if c.portServes p true then c.setPortH p { c.portH p with hdr := true } else c)

/-- R582. -/
def execHdrExitPattern (p : Fin 2) (s : State) : Host.Outcome State Fault Refusal :=
  s.runC (fun c => c.setPortH p { c.portH p with hdr := false })

/-! ### AVSBus (R64, R585–R588) -/

/-- R64, R105, R587. -/
def execAvsWriteCommit (p : Fin 8) (sel : Fin 16) (mv : BitVec 16) (s : State) : Host.Outcome State Fault Refusal :=
  s.runC (fun c => c.avsWrite p sel (avsSet mv.toNat))

/-- R586, R587. -/
def execAvsWriteHold (p : Fin 8) (sel : Fin 16) (mv : BitVec 16) (s : State) : Host.Outcome State Fault Refusal :=
  s.runC (fun c => c.avsRail p sel (fun r c =>
    if c.shadow then c.avsNo p
    else if c.avsOwns p r then
      let h := c.avs p
      c.setAvs p { h with held := mset 0 h.held sel (avsSet mv.toNat + 1), ack := true, out := 0 }
    else c.avsNotOwner p))

/-- R140. -/
def execAvsVoltageRead (p : Fin 8) (sel : Fin 16) (s : State) : Host.Outcome State Fault Refusal :=
  s.runC (fun c => c.avsRead p sel (fun r c => c.avsOk p (rneDiv (c.f (Rail.VSENSE r)) 4).toNat))

/-- R585: a write of RATE_UP and RATE_DN under the ownership check of R586. -/
def execAvsSlewWrite (p : Fin 8) (sel : Fin 16) (up dn : BitVec 8) (s : State) : Host.Outcome State Fault Refusal :=
  s.runC (fun c => c.avsRail p sel (fun r c =>
    if c.shadow then c.avsNo p
    else if c.avsOwns p r then
      let a := (Rail.RATE_UP r).addr
      let w := setBits (setBits (c.reg a).toNat (Rail.RATE_UP r).hi (Rail.RATE_UP r).lo up.toNat) (Rail.RATE_DN r).hi (Rail.RATE_DN r).lo dn.toNat
      (c.avsOk p 0).avsOp p (c.f (Tenant.PRIO (3 + p / 2))) [(a, w)]
    else c.avsNotOwner p))

/-- R585. -/
def execAvsSlewRead (p : Fin 8) (sel : Fin 16) (s : State) : Host.Outcome State Fault Refusal :=
  s.runC (fun c => c.avsRead p sel (fun r c => c.avsOk p (c.f (Rail.RATE_UP r) + c.f (Rail.RATE_DN r) * 256)))

/-- R140: units of 10 mA. -/
def execAvsCurrentRead (p : Fin 8) (sel : Fin 16) (s : State) : Host.Outcome State Fault Refusal :=
  s.runC (fun c => c.avsRead p sel (fun r c => c.avsOk p (low 16 (rneDiv (c.fi (Rail.IRAIL r) * 25) 4))))

/-- R140: units of 0.1 °C. DEDUCED (notes/assumptions/111.md): of several TMONs of a rail the highest. -/
def execAvsTemperatureRead (p : Fin 8) (sel : Fin 16) (s : State) : Host.Outcome State Fault Refusal :=
  s.runC (fun c => c.avsRead p sel (fun r c => let x := c.railTemp r; x.2.avsOk p (low 16 (rneDiv (x.1 * 5) 4))))

/-- R588; the spec gives the status word no layout: a free value. -/
def execAvsStatusRead (p : Fin 8) (sel : Fin 16) (s : State) : Host.Outcome State Fault Refusal :=
  s.runC (fun c => c.avsRead p sel (fun _ c =>
    let (w, c) := c.freeWord
    (c.putB (Avs.ALERT p) false).avsOk p (w.toNat % 65536)))

/-- R585: the image value of VSET, as a committed write. -/
def execAvsResetDefault (p : Fin 8) (sel : Fin 16) (s : State) : Host.Outcome State Fault Refusal :=
  s.runC (fun c =>
    let v := match c.avsSel p sel with
      | some r => bits (mget 0 c.image (Rail.VSET r).addr).toNat (Rail.VSET r).hi (Rail.VSET r).lo
      | none => 0
    if sel.val = 15 then c.avsFrame p (fun c => c.avsNotOwner p) else c.avsWrite p sel v)

/-- R74: the record gives port, rail, beats and whether R65 was met. -/
def execAvsLate (p : Fin 8) (r : Fin 16) (beats : BitVec 16) (s : State) : Host.Outcome State Fault Refusal :=
  s.runC (fun c =>
    if beats.toNat ≤ 400 then c
    else c.post 0 1 16 [(8, p), (8, r), (16, beats.toNat), (8, b2n (c.avsMet p))])

/-! ### Rings, messages, notices, tenant resets -/

/-- R603. -/
def execRingTailWrite (t : Fin 8) (q : Sender) (data : Word) (s : State) : Host.Outcome State Fault Refusal :=
  s.run (fun u c => c.cmdWrite u 0 (0x1000000 + 0x40 * t + 0x10) q data.toNat)

/-- R608. -/
def execMsgToOutbox (s : State) : Host.Outcome State Fault Refusal := s.runC (fun c => c.msgOutbox)

/-- R609. -/
def execMsgToInbox (p : Fin 4) (s : State) : Host.Outcome State Fault Refusal := s.runC (fun c => c.msgInbox p)

/-- R611. -/
def execHubNoticeReceive (s : State) : Host.Outcome State Fault Refusal := s.runC (fun c => c.hubNotice)

/-- R614–R617: a PRIV write of 1 to TENn.RESET. -/
def execTenantReset (t : Fin 8) (q : Sender) (s : State) : Host.Outcome State Fault Refusal :=
  s.run (fun u c => c.cmdWrite u 0 (0x1000000 + 0x40 * t + 0x20) q 1)

/-- R617. -/
def execTenantResetEnd (t : Fin 8) (s : State) : Host.Outcome State Fault Refusal := s.runC (fun c => c.tenantResetEnd t)

/-! ### Forwarding -/

/-- R620, R621: nothing is forwarded outside Shadow mode. -/
def execForwardCommand (x : HostTx) (code : BitVec 8) (bytes : List Byte) (s : State) : Host.Outcome State Fault Refusal :=
  s.runC (fun c => if c.shadow then c.hostTx x code.toNat (!bytes.isEmpty || code == 0x03) bytes else c)

/-- R621: the oldest request at the HUB, if it is a WR to a forwarding slot. -/
def execForwardSlotWrite (s : State) : Host.Outcome State Fault Refusal :=
  s.runC (fun c =>
    match (c.ni 0).in2 with
    | p :: ps => if p.hdr.typ = 2 && slotReq p.hdr then (c.setNi 0 { c.ni 0 with in2 := ps }).slotWr p else c
    | [] => c)

end Sys2Proof.Machine
end

