-- ==== Sys2Proof/Machine/Pins.lean ====
section
/-! DEFINITION. What the balls show that no register holds: FAULT_N, and the level of a PWM ball under the boundary-scan
instructions, and the levels of the GIO balls (R41, R81, R130, R340, R649, R692, R700, R858, R886, R891, R893, R906, R936, R950–R957, R202–R204, R866). -/

namespace Sys2Proof.Machine

open Reg

/-- The identification register of a die (R951). -/
def idcode (d : Die) : Word :=
  match d with
  | .l => 0xA72405A7#32
  | .m => 0xA72415A7#32

/-- The instruction of a die's TAP. -/
def TapH.ir (t : TapH) (d : Die) : TapIr :=
  match d with
  | .l => t.l
  | .m => t.m

/-- The instruction that a code of a die's instruction register selects (R949, R950): 8 bits on the L-die, 6 on the M-die. -/
def tapSelect (d : Die) (code : Nat) : TapIr :=
  match code with
  | 0 => .extest
  | 1 => .idcode
  | 2 => .samplePreload
  | 5 => .highz
  | 6 => .clamp
  | 9 => match d with | .l => .extestPulse | .m => .bypass
  | 10 => match d with | .l => .extestTrain | .m => .bypass
  | _ => .bypass

/-- The die's identification, while IDCODE selects it (R951). -/
def TapH.word (t : TapH) (d : Die) : Option Word := if t.ir d = .idcode then some (idcode d) else none

/-- A TAP takes an instruction. -/
def TapH.select (t : TapH) (d : Die) (i : TapIr) : TapH :=
  match d with
  | .l => { t with l := i }
  | .m => { t with m := i }

/-- An instruction that lets the boundary cells decide the balls (R953). -/
def TapIr.drives (i : TapIr) : Bool :=
  match i with
  | .extest | .extestPulse | .extestTrain | .clamp => true
  | .idcode | .samplePreload | .highz | .bypass => false

/-- A PWM or GIO ball: high-impedance, low, high, or a PWM ball driven to mid level (R936). -/
inductive PinLevel where
  | z | low | high | mid
  deriving DecidableEq, Repr

/-- The code that a captured boundary cell holds. -/
def PinLevel.code (l : PinLevel) : Nat :=
  match l with
  | .z => 0
  | .low => 1
  | .high => 2
  | .mid => 3

/-- What the cluster makes of PWM ball `p` (R41, R81, R637, R936): a part that does not own the nets drives nothing, and one that does drives
MID as a level of its own. -/
def Chip.pwmCore (c : Chip) (p : Nat) : PinLevel :=
  if !c.driving then .z
  else if c.f (Phase.LEVEL p) = 0 then .low
  else if c.f (Phase.LEVEL p) = 1 then .high
  else .mid

/-- PWM ball `p` (R953, R955): the L-die carries the PWM balls. -/
def Chip.pwmPin (c : Chip) (p : Nat) : PinLevel :=
  if c.pw.vio33Low then .z
  else if c.tap.l.drives then (if mget false c.tap.cells p then .high else .low)
  else if c.tap.l = .highz then .z
  else c.pwmCore p

/-- What an open-drain ball makes of a level: HIGH releases it (R865). -/
def PinLevel.openDrain (l : PinLevel) : PinLevel := if l = .high then .z else l

/-- The level that the array gives GIO output ball `g`: high-impedance before RELEASE_OUT and in SHUTDOWN, and in Shadow mode without
SHADOW_DRV; its GIO_REST value while its source lies in a region at rest; else what its last token said, nothing before the first one
(R179, R203, R204, R865, R866). -/
def Chip.gioOut (c : Chip) (g : Nat) : PinLevel :=
  if !c.gl.rel || (c.shadow && !c.b (Garr.GIOn_SHADOW_DRV g)) then .z
  else match c.portSrc (112 + g) with
    | none => .z
    | some s =>
      if c.posRest s.pos then
        match c.f (Gcfg.GIO_REST (g / 16)) / 4 ^ (g % 16) % 4 with
        | 0 => .low
        | 1 => .high
        | _ => .z
      else match mget none c.gl.line (112 + g) with
        | none => .z
        | some b => if b then .high else .low

/-- What the part makes of ball GIOg by its KIND (R202). -/
def Chip.gioCore (c : Chip) (g : Nat) : PinLevel :=
  match c.f (Garr.GIOn_KIND g) with
  | 2 => c.gioOut g
  | 3 => (c.gioOut g).openDrain
  | _ => .z

/-- Ball GIOg (R950, R952): its boundary cell stands behind those of the 96 PWM balls. -/
def Chip.gioPin (c : Chip) (g : Nat) : PinLevel :=
  if c.tap.l.drives then (if mget false c.tap.cells (96 + g) then .high else .low)
  else if c.tap.l = .highz then .z
  else c.gioCore g

/-- Ball LSWn (R680, R685, R686): off; held at −18 V by the clamp of VALVE until the load current has decayed; or conducting, with its rise time
in µs while it starts and its limit in 1/8 A. -/
inductive LswBall where
  | off
  | clamp
  | on (rise limit : Nat)
  deriving DecidableEq, Repr

@[inherit_doc LswBall] def Chip.lswBall (c : Chip) (n : Nat) : LswBall :=
  if c.b (Lsw.CONDUCT n) then .on (if c.b (Lsw.START n) then c.lswRise n else 0) (c.lswLimit n)
  else if c.f (Lsw.PROFILE n) = 3 ∧ c.f (Lsw.IOUT n) ≠ 0 then .clamp
  else .off

/-- The ball OWN_OUT (R955). -/
def Chip.ownOutBall (c : Chip) : Bool := c.b Dip.OWN_OUT && !c.pw.vio33Low

/-- What SAMPLE captures of the PWM and GIO balls, and the levels preloaded into their cells (R950, R952). -/
def Chip.samplePreload (c : Chip) (cells : List (Fin 192 × Bool)) : Chip :=
  let seen := forN 96 (fun p m => mset 0 (mset 0 m p (c.pwmPin p).code) (96 + p) (c.gioPin p).code) c.tap.sampled
  { c with tap.sampled := seen, tap.cells := forL cells (fun e m => mset false m e.1 e.2) c.tap.cells }

/-- ALERT_A_N is asserted (R612, R906); released while VAUX is not good (R957). -/
def Chip.alertA (c : Chip) : Bool := c.pw.mode != .reset && ((c.portH 0).alert || c.deepAlert)

/-- A protection has latched a phase or a rail (R130). -/
def Chip.latchedFault (c : Chip) : Bool :=
  (List.range 96).any (fun p => c.b (Phase.OC_LATCHED p)) || (List.range 16).any (fun r => c.b (Rail.OFF_LATCHED r))

/-- A load-switch channel is LATCHED (R692). -/
def Chip.channelFault (c : Chip) : Bool := (List.range 16).any (fun n => c.b (Lsw.LATCHED n))

/-- Causes of FAULT_N beside those of the power state. -/
def Chip.faultCauses (c : Chip) : Bool :=
  c.latchedFault || c.channelFault || c.b Sw.WDT_EXP || c.b Garr.SLOW || c.b Gcfg.CRIT || c.b Gcfg.BOOT_FAIL || c.rl.overrun
    || c.f Plane.STATE == plFaulted || c.role == 4

/-- FAULT_N is asserted: never while VAUX is not good (R957), nor while S2 waits for VDDH (R886); always in DORMANT_FAULT and
IMAGE_HALT (R891, R893); in DEEP for a LATCHED channel (R906). -/
def Chip.faultN (c : Chip) : Bool :=
  match c.pw.mode with
  | .reset => false
  | .dormant => true
  | .halt => true
  | .deep => c.channelFault
  | .wake => if c.pw.step = 2 ∧ c.pw.vddh = false then false else c.faultCauses
  | .run => c.faultCauses
  | .deepRamp => c.faultCauses
  | .deepPersist => c.faultCauses

end Sys2Proof.Machine
end

