-- ==== Sys2Proof/Machine/JtagCmds.lean ====
section
/-! DEFINITION. The TAP instructions (R949–R953). -/

namespace Sys2Proof.Machine

/-- A die's TAP takes an instruction. -/
def State.tapGo (s : State) (d : Die) (i : TapIr) : Host.Outcome State Fault Refusal := s.runC (fun c => { c with tap := c.tap.select d i })

/-- R950, R953. -/
def execExtest (d : Die) (s : State) : Host.Outcome State Fault Refusal := s.tapGo d .extest

/-- R950, R951. -/
def execIdcode (d : Die) (s : State) : Host.Outcome State Fault Refusal := s.tapGo d .idcode

/-- R950, R952: the PWM balls belong to the L-die. -/
def execSamplePreload (d : Die) (cells : List (Fin 192 × Bool)) (s : State) : Host.Outcome State Fault Refusal :=
  s.runC (fun c =>
    let c := { c with tap := c.tap.select d .samplePreload }
    match d with
    | .l => c.samplePreload cells
    | .m => c)

/-- R950. -/
def execHighz (d : Die) (s : State) : Host.Outcome State Fault Refusal := s.tapGo d .highz

/-- R950, R953. -/
def execClamp (d : Die) (s : State) : Host.Outcome State Fault Refusal := s.tapGo d .clamp

/-- R950, R952, R953: the L-die only. -/
def execExtestPulse (s : State) : Host.Outcome State Fault Refusal := s.tapGo .l .extestPulse

/-- R950, R952, R953: the L-die only. -/
def execExtestTrain (s : State) : Host.Outcome State Fault Refusal := s.tapGo .l .extestTrain

/-- R950. -/
def execBypass (d : Die) (s : State) : Host.Outcome State Fault Refusal := s.tapGo d .bypass

end Sys2Proof.Machine
end

