-- ==== Sys2Proof/Machine/NetCmds.lean ====
section
/-! DEFINITION. The commands of the Lattice that no register write makes (R220–R300, R980, R986). -/

namespace Sys2Proof.Machine

/-- The HUB takes up what an event at its NI has answered. -/
def Chip.hubAfter (c : Chip) (n : Nat) : Chip := if n = 0 then c.hubTakeAll else c

/-- Output `p` of router `r` sends a flit, with what the link does to it (R225, R240–R244, R980). -/
def execFlitHop (r : Fin 49) (p : Fin 5) (e : LinkErr) (s : State) : Host.Outcome State Fault Refusal :=
  s.runC (fun c => c.hop r p e)

/-- R250–R253, R280. -/
def execPacketInject (n : Fin 49) (vc : Fin 4) (tag : Fin 64) (s : State) : Host.Outcome State Fault Refusal :=
  s.runC (fun c => (c.inject n vc tag).hubAfter n)

/-- R257. -/
def execResponseAccept (n : Fin 49) (s : State) : Host.Outcome State Fault Refusal := s.runC (fun c => (c.acceptRsp n).hubAfter n)

/-- R259, R262. -/
def execRequestTimeout (n : Fin 49) (tag : Fin 64) (s : State) : Host.Outcome State Fault Refusal :=
  s.runC (fun c => (c.requestTimeout n tag).hubAfter n)

/-- R259. -/
def execTagHoldbackEnd (n : Fin 49) (tag : Fin 64) (s : State) : Host.Outcome State Fault Refusal :=
  s.runC (fun c => c.tagRelease n tag)

/-- A request that waited for a tag issues under one that has come free (R256). -/
def execTagWaitIssue (n : Fin 49) (tag : Fin 64) (s : State) : Host.Outcome State Fault Refusal :=
  s.runC (fun c => (c.inject n 2 tag).hubAfter n)

/-- R249. -/
def execSieveRefill (n : Fin 49) (ten : Fin 8) (s : State) : Host.Outcome State Fault Refusal := s.runC (fun c => c.refill n ten)

/-- R252. -/
def execSieveWaitRelease (n : Fin 49) (ten : Fin 8) (vc : Fin 4) (tag : Fin 64) (s : State) :
    Host.Outcome State Fault Refusal :=
  s.runC (fun c => (c.sieveRelease n ten vc tag).hubAfter n)

end Sys2Proof.Machine
end

