-- ==== Sys2Proof/Machine/PlaneCmds.lean ====
section
/-! DEFINITION. The commands of the scheduled plane that no register write makes (R301–R345). -/

namespace Sys2Proof.Machine

/-- R301, R305, R318, R347; the end of a round is where a STANDBY entry goes on (R901). -/
def execPlaneBeat (late : Option (Fin 49 × Fin 5)) (s : State) : Host.Outcome State Fault Refusal :=
  s.runC (fun c => (c.planeBeat (late.map (fun p => (p.1.val, p.2.val)))).standbyStep)

/-- R303, R464. -/
def execRoundStart (s : State) : Host.Outcome State Fault Refusal := s.runC (fun c => c.roundStart)

/-- R312. -/
def execStreamCapture (b1 : Bool) (i : Fin 64) (s : State) : Host.Outcome State Fault Refusal :=
  s.runC (fun c => c.streamCapture b1 i)

/-- R309, R317. -/
def execSlotTx (n : Fin 49) (i : Fin 64) (s : State) : Host.Outcome State Fault Refusal := s.runC (fun c => c.slotTx n i)

/-- R322, R337. -/
def execVc0Arrival (n : Fin 49) (s : State) : Host.Outcome State Fault Refusal := s.runC (fun c => c.vc0Arrival n)

/-- R313, R337. -/
def execSlotDelivery (n : Fin 49) (i : Fin 64) (s : State) : Host.Outcome State Fault Refusal :=
  s.runC (fun c => c.slotDelivery n i)

/-- R319, R320, R359. -/
def execReplySample (g : Fin 4) (i : Fin 64) (s : State) : Host.Outcome State Fault Refusal :=
  s.runC (fun c => c.replySample g i)

/-- R320, R323. -/
def execPlaneHoldSample (g : Fin 4) (s : State) : Host.Outcome State Fault Refusal := s.runC (fun c => c.holdSample g)

/-- R324. -/
def execGlazeLate (g : Fin 4) (s : State) : Host.Outcome State Fault Refusal := s.runC (fun c => c.holdLate g)

/-- R330, R331. -/
def execDqxCommand (e : Fin 24) (s : State) : Host.Outcome State Fault Refusal := s.runC (fun c => c.dqxCommand e)

/-- R332, R333. -/
def execDqxReadData (e : Fin 24) (s : State) : Host.Outcome State Fault Refusal := s.runC (fun c => c.dqxData e)

/-- R337. -/
def execSchedFault (n : Fin 49) (r : FaultRec) (s : State) : Host.Outcome State Fault Refusal :=
  s.runC (fun c => c.reportFault n r)

/-- R345. -/
def execPlaneRestartStart (s : State) : Host.Outcome State Fault Refusal := s.runC (fun c => c.restartDone)

end Sys2Proof.Machine
end

