-- ==== Sys2Proof/Machine/PowerCmds.lean ====
section
/-! DEFINITION. The commands of waking, resets and power states (R883–R922, R955). -/

namespace Sys2Proof.Machine

open Reg

/-! ### Supplies and steps -/

/-- R884. -/
def execVauxLoss (s : State) : Host.Outcome State Fault Refusal := s.runC (fun c => c.powerOnReset)

/-- R884, R894. -/
def execPowerOnResetEnd (s : State) : Host.Outcome State Fault Refusal :=
  s.runC (fun c => if c.pw.mode = .reset then c.startWake 1 0 else c)

/-- A step whose end is only that its blocks are ready (R885). -/
def Chip.plainStep (c : Chip) (k : Nat) : Chip := if c.atStep k then c.stepDone else c

/-- R885, R895: the straps sampled. -/
def execStepS0 (pmaddr : BitVec 3) (pref : BitVec 2) (oscOk : Bool) (s : State) : Host.Outcome State Fault Refusal :=
  s.runC (fun c => c.stepS0 pmaddr.toNat pref.toNat oscOk)

/-- R885. -/
def execStepS1 (s : State) : Host.Outcome State Fault Refusal := s.runC (fun c => c.plainStep 1)

/-- R885, R886. -/
def execStepS2 (s : State) : Host.Outcome State Fault Refusal := s.runC (fun c => if c.pw.vddh then c.plainStep 2 else c)

/-- R885. -/
def execStepS3 (s : State) : Host.Outcome State Fault Refusal := s.runC (fun c => c.plainStep 3)

/-- R885. -/
def execStepS4 (s : State) : Host.Outcome State Fault Refusal := s.runC (fun c => c.plainStep 4)

/-- R885, R897. -/
def execStepS5 (s : State) : Host.Outcome State Fault Refusal := s.runC (fun c => c.stepS5)

/-- R885, R852, R897. -/
def execStepS6 (s : State) : Host.Outcome State Fault Refusal := s.runC (fun c => c.stepS6)

/-- R812, R821, R893. -/
def execStepS7 (fail : Option (BitVec 8)) (nor : List Byte) (s : State) : Host.Outcome State Fault Refusal :=
  s.runC (fun c => c.stepS7 (fail.map BitVec.toNat) nor)

/-- R885, R815–R819, R821, R893. -/
def execStepS8 (s : State) : Host.Outcome State Fault Refusal := s.run (fun u c => c.stepS8 u)

/-- R885, R648. -/
def execStepS9 (s : State) : Host.Outcome State Fault Refusal := s.runC (fun c => c.stepS9)

/-- R887. -/
def execStepS10 (us : Word) (s : State) : Host.Outcome State Fault Refusal := s.runC (fun c => c.stepS10 us.toNat)

/-- R885, R889–R891. -/
def execStepTimeout (b : StartBlock) (s : State) : Host.Outcome State Fault Refusal := s.runC (fun c => c.stepTimeout b)

/-- R885. -/
def execStepRetry (s : State) : Host.Outcome State Fault Refusal := s.runC (fun c => c.stepRetry)

/-! ### The always-on responder -/

/-- A transaction on PMBus A that the responder serves while it owns the balls, and the HUB otherwise (R892). -/
def Chip.onPmbusA (c : Chip) (pec : Option Bool) (code : Nat) (write : Bool) (bytes : List Byte)
    (serve : Chip → Chip) : Chip :=
  if c.responder then serve c else c.hostTx { port := 0, pec := pec } code write bytes

/-- The responder's STATUS_BYTE (R892, R906). -/
def Chip.responderStatus (c : Chip) : Byte := if c.pw.mode = .dormant || c.deepAlert then 0x41#8 else 0x40#8

/-- The wake record's four bytes (R892, R894). -/
def Chip.wakeRecord (c : Chip) : List Byte :=
  [c.f Power.WAKE_REASON, c.f Power.WAKE_FAIL, c.f Power.WAKE_FAIL_STEP, c.f Power.WAKE_ATTEMPTS].map (BitVec.ofNat 8)

/-- R892. -/
def execResponderStatusByte (s : State) : Host.Outcome State Fault Refusal :=
  s.runC (fun c => c.onPmbusA none 0x78 false [] (fun c => c.respond8 true [c.responderStatus]))

/-- R892, R894: the data of the block; the count byte and PEC frame it. -/
def execMfrWakeReason (s : State) : Host.Outcome State Fault Refusal :=
  s.runC (fun c => c.onPmbusA none 0xDA false [] (fun c => c.respond8 true c.wakeRecord))

/-- R891, R892, R905, R920: a wrong PEC byte is not acknowledged. -/
def execMfrWake (v : BitVec 8) (pec : Option Bool) (s : State) : Host.Outcome State Fault Refusal :=
  s.runC (fun c => c.onPmbusA pec 0xDB true [v] (fun c =>
    if pec = some false then c.respond8 false []
    else
      let c := c.respond8 true []
      if v = 0xA5#8 then c.mfrWake else c))

/-! ### Resets and supplies -/

/-- R895. -/
def execResetNAssert (s : State) : Host.Outcome State Fault Refusal := s.runC (fun c => c.resetN)

/-- R895. -/
def execWarmReset (q : Sender) (data : Word) (s : State) : Host.Outcome State Fault Refusal := s.wr Power.RESET.addr q data.toNat

/-- R886, R905, R908. -/
def execVddhGood (s : State) : Host.Outcome State Fault Refusal := s.runC (fun c => c.vddhGood)

/-- R883, R905, R908, R917. -/
def execVddhLoss (s : State) : Host.Outcome State Fault Refusal := s.runC (fun c => c.vddhLoss)

/-- R955. -/
def execVio33Low (s : State) : Host.Outcome State Fault Refusal := s.runC (fun c => { c with pw.vio33Low := true })

/-- R955. -/
def execVio33Return (s : State) : Host.Outcome State Fault Refusal := s.runC (fun c => { c with pw.vio33Low := false })

/-! ### Power states -/

/-- R900, R901, R914: POWER.CMD with STATE 1. -/
def execStandby (q : Sender) (key : BitVec 16) (s : State) : Host.Outcome State Fault Refusal :=
  s.wr (Power.base + 4) q (1 + key.toNat * 2 ^ 16)

/-- POWER.CMD with STATE 3, where the outside says how long the end of STANDBY takes (R903). -/
def Chip.runCmd (c : Chip) (q : Sender) (key us : Nat) : Chip :=
  let st := c.judge cfgNode (cmdHdr q cfgNode (Power.base % 0x2000000 + 4) 0 15 true) true false 0
  if st ≠ stOk then { c with resp := some (st, []) }
  else
    let x := c.powerCmd 3 key us
    { x.2 with resp := some (x.1, []) }

/-- R900, R903. -/
def execRun (q : Sender) (key : BitVec 16) (us : Word) (s : State) : Host.Outcome State Fault Refusal :=
  s.runC (fun c => c.runCmd q key.toNat us.toNat)

/-- R900, R904: POWER.CMD with STATE 2. -/
def execDeep (q : Sender) (key : BitVec 16) (s : State) : Host.Outcome State Fault Refusal :=
  s.wr (Power.base + 4) q (2 + key.toNat * 2 ^ 16)

/-- R904. -/
def execDeepRampDone (s : State) : Host.Outcome State Fault Refusal := s.runC (fun c => c.deepRampDone)

/-- R904. -/
def execDeepEntryComplete (s : State) : Host.Outcome State Fault Refusal := s.runC (fun c => c.deepDone)

end Sys2Proof.Machine
end

