-- ==== Sys2Proof/Machine/RailCmds.lean ====
section
/-! DEFINITION. The commands of rails, phases and sensing that no register write makes (R34–R36, R61, R85–R131,
R341–R343, R991). -/

namespace Sys2Proof.Machine

open Reg

/-- A PHASE_FORCE line that the array drives high on output port `ph` asserts at its cluster (R34 rule 3, R89, R179–R181). -/
def execPhaseForceAssert (ph : Fin 96) (s : State) : Host.Outcome State Fault Refusal :=
  s.runC (fun c => if c.lineAt ph && !(c.phase ph).force then c.forceOn ph else c)

/-- A PHASE_FORCE line that the array no longer drives high deasserts at its cluster (R89, R179–R181). -/
def execPhaseForceRelease (ph : Fin 96) (s : State) : Host.Outcome State Fault Refusal :=
  s.runC (fun c => if !c.lineAt ph && (c.phase ph).force then c.forceOff ph else c)

/-- A RAIL_CEIL line takes the level that the array drives on output port 96 + r (R120, R179–R181). -/
def execRailCeilChange (r : Fin 16) (s : State) : Host.Outcome State Fault Refusal :=
  s.runC (fun c => c.setRail r { c.rail r with ceilLine := c.lineAt (96 + r) })

/-- R86. -/
def execRailPeriodBoundary (r : Fin 16) (s : State) : Host.Outcome State Fault Refusal :=
  s.runC (fun c => c.boundaryIn r false)

/-- R85, R87, R89. -/
def execPhaseOnEdge (ph : Fin 96) (s : State) : Host.Outcome State Fault Refusal := s.runC (fun c => c.slotEdge ph)

/-- R87. -/
def execPhaseOffEdge (ph : Fin 96) (s : State) : Host.Outcome State Fault Refusal := s.runC (fun c => c.offEdge ph)

/-- A DUTY packet is delivered at cluster `w` under its RX entry `i` (R310, R313, R346, R364). -/
def execDutyPacketDelivery (w : Fin 6) (i : Fin 64) (s : State) : Host.Outcome State Fault Refusal :=
  s.runC (fun c => if c.f (Slot.SEL (clusterNode w) i) = 4 then c.slotDelivery (clusterNode w) i else c)

/-- R95, R100, R118. -/
def execImonSample (codes : List (BitVec 12)) (s : State) : Host.Outcome State Fault Refusal := s.runC (fun c => c.imon codes)

/-- R991. -/
def execBudgetOverrun (s : State) : Host.Outcome State Fault Refusal := s.runC (fun c => c.budgetOverrun)

/-- R61, R121 rank 2. -/
def execVsenseSample (r : Fin 16) (code : BitVec 13) (s : State) : Host.Outcome State Fault Refusal :=
  s.runC (fun c => c.vsense r code.toNat)

/-- R121 rank 5. -/
def execRailUv (r : Fin 16) (s : State) : Host.Outcome State Fault Refusal := s.runC (fun c => c.railUv r)

/-- 16 µs after an upward slew stops, under-voltage detection acts again (R126). -/
def execUvBlankEnd (r : Fin 16) (s : State) : Host.Outcome State Fault Refusal :=
  s.runC (fun c =>
    let h := c.rail r
    if h.slewing && decide (c.f (Rail.VNOW r) < c.slewTo r) then c else c.setRail r { h with uvBlank := false })

/-- R94, R121 rank 4, R127. -/
def execTmonSample (t : Fin 32) (code : BitVec 10) (s : State) : Host.Outcome State Fault Refusal :=
  s.runC (fun c => c.tmon t code.toNat)

/-- R121 rank 3. -/
def execVbus12Sample (code : BitVec 12) (s : State) : Host.Outcome State Fault Refusal := s.runC (fun c => c.vbus12 code.toNat)

/-- R128. -/
def execVbus48Sample (code : BitVec 12) (s : State) : Host.Outcome State Fault Refusal := s.runC (fun c => c.vbus48 code.toNat)

/-- R98, R102. -/
def execDroopAssert (r : Fin 16) (k : Fin 4) (v : BitVec 13) (s : State) : Host.Outcome State Fault Refusal :=
  s.runC (fun c => c.droopOn r k v.toNat)

/-- R101. -/
def execDroopDeassert (r : Fin 16) (k : Fin 4) (v : BitVec 13) (s : State) : Host.Outcome State Fault Refusal :=
  s.runC (fun c => c.droopOff r k v.toNat)

/-- R121 ranks 1 and 7, R123. -/
def execPhaseOc (ph : Fin 96) (code : BitVec 12) (s : State) : Host.Outcome State Fault Refusal :=
  s.runC (fun c => c.phaseOc ph code.toNat)

/-- R106. -/
def execSlewTick (r : Fin 16) (s : State) : Host.Outcome State Fault Refusal := s.runC (fun c => c.slewTick r)

/-- The ramp of R109 ends: VNOW has reached 0.200 V, or 10 ms have passed. -/
def execRailOffComplete (r : Fin 16) (s : State) : Host.Outcome State Fault Refusal :=
  s.runC (fun c => if (c.rail r).ramping then c.railMid r else c)

/-- The first period boundary 8 free beats or more after the fault: the rail of a FALLBACK group passes to the law
(R341). -/
def execFallbackEntry (r : Fin 16) (s : State) : Host.Outcome State Fault Refusal :=
  s.runC (fun c => if (c.rail r).fbDue then c.boundaryIn r true else c)

/-- R343; with HOLD_LIM 0 the HOLD has no limit. -/
def execHoldLimitExpiry (g : Fin 8) (s : State) : Host.Outcome State Fault Refusal :=
  s.runC (fun c => if c.f (Plane.HOLD_LIMg g) = 0 then c else c.holdExpire g)

end Sys2Proof.Machine
end

