-- ==== Sys2Proof/Machine/RecordCmds.lean ====
section
/-! DEFINITION. The commands of events, counters, trace, the Sketchbook and the non-volatile cells (R732–R832). -/

namespace Sys2Proof.Machine

open Reg

/-! ### Events and counters -/

/-- R736–R740: from SEQ's LOCAL port or its NI; with `held` the stamp buffer does not drain yet. -/
def execEventReceive (loc held : Bool) (s : State) : Host.Outcome State Fault Refusal := s.runC (fun c => c.takeEvent loc held)

/-- R739. -/
def execSeqOvf (s : State) : Host.Outcome State Fault Refusal := s.runC (fun c => c.seqOvf)

/-- R743. -/
def execEventRingTailWrite (r : Fin 4) (q : Sender) (data : Word) (s : State) : Host.Outcome State Fault Refusal :=
  s.wr (Seq.EVRr_HEAD r).addr q data.toNat

/-- R746, R751: a free beat. -/
def execCounterTick (s : State) : Host.Outcome State Fault Refusal := s.runC (fun c => c.freeBeat)

/-- R748: FREEZE, which shares the word, keeps its value. -/
def execBankClr (n : Fin 49) (q : Sender) (s : State) : Host.Outcome State Fault Refusal :=
  s.run (fun u c => c.wordWrite u (Bank.BANK_CLR n).addr q (1 + c.f (Bank.BANK_FREEZE n) * 2))

/-- R748. -/
def execCcClr (q : Sender) (s : State) : Host.Outcome State Fault Refusal :=
  s.run (fun u c => c.wordWrite u Seq.CC_CLR.addr q (1 + c.f Seq.CC_FREEZE * 2))

/-! ### Trace -/

/-- R755–R758. -/
def execSample (k : Fin 8) (q : Sender) (data : Word) (s : State) : Host.Outcome State Fault Refusal :=
  s.wr (Trc.SAMPLE k).addr q data.toNat

/-- R759. -/
def execFlush (k : Fin 8) (q : Sender) (s : State) : Host.Outcome State Fault Refusal :=
  s.wr (Trc.FLUSH k).addr q 1

/-- R760. -/
def execTracePageWrite (k : Fin 8) (s : State) : Host.Outcome State Fault Refusal := s.runC (fun c => c.tracePageWrite k)

/-! ### Sketchbook -/

/-- R762: `temp` in 0.125 °C. -/
def execSkbSecondTick (temp : Int) (s : State) : Host.Outcome State Fault Refusal := s.runC (fun c => c.skbSecond temp)

/-- R762, R763. -/
def execSkbMsTick (s : State) : Host.Outcome State Fault Refusal := s.runC (fun c => c.skbMs)

/-- R764. -/
def execDroopEpisodeEnd (r : Fin 16) (s : State) : Host.Outcome State Fault Refusal := s.runC (fun c => c.skbDroop r)

/-- The automatic persist's interval ends (R771). -/
def execPersistTimer (s : State) : Host.Outcome State Fault Refusal :=
  s.runC (fun c => if c.skb.counting then c.persist else c)

/-- R771, R785. -/
def execPersistNow (q : Sender) (s : State) : Host.Outcome State Fault Refusal := s.wr Skb.PERSIST_NOW.addr q 1

/-- R770, R771: the persist hands its next page to NVC. -/
def execSkbPersist (s : State) : Host.Outcome State Fault Refusal := s.runC (fun c => c.persistStep)

/-! ### Non-volatile cells -/

/-- R799, R800. -/
def execCmdWrite (q : Sender) (data : Word) (s : State) : Host.Outcome State Fault Refusal := s.wr Nvc.base q data.toNat

/-- R801, R918: a reset that waits lets no further page write start. -/
def execNvPageWriteStart (s : State) : Host.Outcome State Fault Refusal :=
  s.runC (fun c => if c.pw.resetDue = 0 then c.nvGo Chip.nvStart else c)

/-- R797, R803, R805–R808. -/
def execNvErasePulseDone (clean : Bool) (s : State) : Host.Outcome State Fault Refusal := s.runC (fun c => c.nvGo (fun c => c.nvErased clean))

/-- R797, R803, R805–R808. -/
def execNvProgramPulseDone (good : Bool) (s : State) : Host.Outcome State Fault Refusal :=
  s.runC (fun c => c.nvGo (fun c => c.nvProgrammed good))

/-- R794–R796. -/
def execNvWindowRead (a : BitVec 22) (q : Sender) (len : Fin 16) (s : State) : Host.Outcome State Fault Refusal :=
  s.run (fun u c => c.busAccess u 42 a.toNat len 15 q false [])

/-- R825. -/
def execKeycmd (q : Sender) (data : Word) (s : State) : Host.Outcome State Fault Refusal := s.wr Img.KEYCMD_SLOT.addr q data.toNat

end Sys2Proof.Machine
end

