-- ==== Sys2Proof/Machine/Reset.lean ====
section
/-! DEFINITION. Node resets: what each node's own chapter adds to the reset of its network interface (R209, R273–R278, R358, R414, R415,
R510, R545, R549, R619, R673, R787, R873, R982, R985). -/

namespace Sys2Proof.Machine

open Reg

/-- The pipeline of a tile is cleared (R414): nothing that has not landed lands; its tickets and an outstanding LKACQ are freed
(R510). Registers, accumulators and flags stay. -/
def Tile.flushed (x : Tile) : Tile :=
  { x with pend := [], wait := .none, tk := [], lkOut := none, lkRsp := none, glz := [], stage := [], dqw := none, halted := true, nextIssue := 0 }

/-- The system registers of a P tile without N in their Survives entry return to their Reset entries (R391, R415). -/
def Tile.sysReset (x : Tile) : Tile :=
  { x with user := false, ie := false, pie := false, exl := false, pmode := 0, pld := 0, epc := 0, ecause := 0, eval := 0, vbase := 0,
           scratch0 := 0, scratch1 := 0, ldepth := 0, lc0 := 0, ls0 := 0, le0 := 0, lc1 := 0, ls1 := 0, le1 := 0, deferred := false,
           ienab := 0, ipend := 0, ipriolo := 0, ipriohi := 0, cnt0 := 0, rld0 := 0, cnt1 := 0, rld1 := 0, tmren := 0, prot := [], protx := [] }

/-- An operation of a host that a node reset of the HUB interrupts ends with NODE_FENCED (R580, R619). -/
def Chip.opFenced (c : Chip) (t : Nat) (op : HostOp) : Chip :=
  let bs := if c.shadow then [] else opBytes op.code op.seq stFenced []
  ((c.latErr t op.page op.code stFenced).finishOp t op stFenced bs).fwdDone t op.fwd stFenced bs

/-- A node reset at a G port (R209): its port block is at reset already, and its input channels start again from INIT, or empty. -/
def Chip.portReset (c : Chip) (g : Nat) : Chip :=
  forN 8 (fun k c => { c.setInChan g k {} with gl.snap := mset false c.gl.snap (8 * g + k) false }) c

/-- What a node's chapter adds, its register fields apart. -/
def Chip.nodeOwn (c : Chip) (n : Nat) : Chip :=
  if eNodes.contains n then
    let t := tileAt n
    { c.setTile t (c.tile t).flushed with
      pl.dq := mset {} c.pl.dq t { mget {} c.pl.dq t with out := [], inq := [] } }
  else if pNodes.contains n then
    let t := tileAt n
    let c := c.setTile t { ((c.tile t).flushed.sysReset) with pc := c.f (Tile.ENTRY n) % imemSize t, nextIssue := c.clock }
    (if c.pw.mode = .run then c.put (Tile.STATE n) 1 else c).lockReset 0 (some n) 1
  else if gNodes.contains n then c.portReset (gNodes.idxOf n)
  else if n = 0 then forN 8 (fun t c => forL (c.ten t).ops (fun op c => c.opFenced t op) c) c
  else if n = 31 then { (c.eStates 1 0).eStates 2 0 with pl := { c.pl with holds := [], holdLen := 0, restart := false, switchTo := none } }.grpOut
  else c

/-- A slot table that holds any TX or RX entry (R337 FENCE). -/
def Chip.hasSlots (c : Chip) (n : Nat) : Bool := (List.range 64).any (fun i => c.isTx n i || c.isRx n i)

/-- Scheduled flits and Glaze requests that wait at a node are lost with its reset (R278, R358); the second flit of a packet partly
sent follows with POISON set (R275). -/
def Chip.slotsLost (c : Chip) (n : Nat) : Chip :=
  { c with pl.eject := mset [] c.pl.eject n [],
           pl.second := c.pl.second.map (fun e => if e.1 = n then (n, e.2.map (fun x => (x.1, { x.2 with poison := true }))) else e),
           pl.req := c.pl.req.filter (fun e => e.1 / 64 != n),
           pl.reply := c.pl.reply.filter (fun e => e.1 / 64 != n), pl.capture := c.pl.capture.filter (fun e => e.1 / 64 != n) }

/-- A node reset begins. The link of a part whose DIP is reset leaves UP with cause NODE_RST (R673). Fields of the node's window without
N return to reset (R14); a slot table in use raises FENCE (R337). -/
def Chip.nodeReset (c : Chip) (n : Nat) : Chip :=
  if c.fenced n then c.setNi n { c.ni n with rstDue := false }
  else
    let up := c.linkUp
    let c := (c.niReset n).slotsLost n
    let c := if n = 6 then c.tunnelReset.linkDown .nodeRst else c
    let c := c.resetRegs svN (fun a => decide (nodeBase n + 0x1000000 ≤ a) && decide (a < niBase n))
    let c := if n = 6 && up then c.put Dip.LAST_DOWN (causeCode .nodeRst) else c
    let c := (c.nodeOwn n).skbAdd 831 1
    if c.hasSlots n then c.schedFault n { kind := 7 } else c

/-- A write of 1 to NODE_RST still waits for its response to leave (R985). -/
def Chip.rstAnswering (c : Chip) (n : Nat) : Bool := (c.ni n).rsp.any (fun p => p.hdr.typ == 7 && p.hdr.offset == 0x1F0000C)

/-- R985: the reset that a write of NODE_RST, or a stopped tile, asked for begins once the write's response has left. -/
def execNodeResetBegin (n : Fin 49) (s : State) : Host.Outcome State Fault Refusal :=
  s.runC (fun c => if (c.ni n).rstDue && !c.rstAnswering n then c.nodeReset n else c)

/-- R982: the node reports ready. -/
def execNodeResetEnd (n : Fin 49) (s : State) : Host.Outcome State Fault Refusal := s.runC (fun c => if c.fenced n then c.niReady n else c)

end Sys2Proof.Machine
end

