-- ==== Sys2Proof/Machine/SwitchCmds.lean ====
section
/-! DEFINITION. The commands of the load-switch channels (R677–R721). -/

namespace Sys2Proof.Machine

open Reg

/-! ### Registers -/

/-- R679, R682, R711. -/
def execChannelModeWrite (n : Fin 16) (q : Sender) (mode : BitVec 2) (s : State) : Host.Outcome State Fault Refusal :=
  s.wr (Lsw.MODE n).addr q mode.toNat

/-- R682, R683: word +0x00 or +0x04 of the channel's block. -/
def execChannelConfigWrite (n : Fin 16) (q : Sender) (off : Fin 2) (data : Word) (s : State) : Host.Outcome State Fault Refusal :=
  s.wr (Lsw.base n + 4 * off) q data.toNat

/-- R684: MODE, which shares the word, keeps its value. -/
def execLatchClr (n : Fin 16) (q : Sender) (s : State) : Host.Outcome State Fault Refusal :=
  s.run (fun u c => c.wordWrite u (Lsw.LATCH_CLR n).addr q (2 ^ 8 + c.f (Lsw.MODE n)))

/-- R699, R702. -/
def execWdtKick (q : Sender) (data : Word) (s : State) : Host.Outcome State Fault Refusal := s.wr Sw.WDT_KICK.addr q data.toNat

/-- R711–R714. -/
def execMirrorWordWrite (n : Fin 16) (q : Sender) (data : Word) (s : State) : Host.Outcome State Fault Refusal :=
  s.wr (Sw.base + 0x80 + 4 * n) q data.toNat

/-! ### Protections -/

/-- R689, R690: `cur` in the unit of IOUT. -/
def execLswOc (n : Fin 16) (cur : BitVec 12) (s : State) : Host.Outcome State Fault Refusal := s.runC (fun c => c.lswOc n cur.toNat)

/-- R689, R691. -/
def execPauseEnd (n : Fin 16) (s : State) : Host.Outcome State Fault Refusal := s.runC (fun c => c.pauseEnd n)

/-- R689. -/
def execTripsReset (n : Fin 16) (s : State) : Host.Outcome State Fault Refusal := s.runC (fun c => c.tripsReset n)

/-- R685. -/
def execBlankingEnd (n : Fin 16) (s : State) : Host.Outcome State Fault Refusal :=
  s.runC (fun c => if c.b (Lsw.CONDUCT n) then c.putB (Lsw.START n) false else c)

/-- R693, R694. -/
def execLswTherm (n : Fin 16) (tj : Int) (dt : BitVec 8) (s : State) : Host.Outcome State Fault Refusal :=
  s.runC (fun c => c.lswTherm n tj dt.toNat)

/-- R694. -/
def execThermClear (n : Fin 16) (tj : Int) (dt : BitVec 8) (s : State) : Host.Outcome State Fault Refusal :=
  s.runC (fun c => c.thermClear n tj dt.toNat)

/-- R717. -/
def execChannelSample (n : Fin 16) (iout : BitVec 12) (tj : BitVec 9) (dt : BitVec 8) (s : State) : Host.Outcome State Fault Refusal :=
  s.runC (fun c => c.lswSample n iout.toNat tj.toNat dt.toNat)

/-! ### FOLLOW inputs and the watchdog -/

/-- R695. -/
def execFollowInputEdge (n : Fin 16) (level : Bool) (s : State) : Host.Outcome State Fault Refusal := s.runC (fun c => c.followEdge n level)

/-- R695: the bar on a rising edge, or the one on an opposite edge. -/
def execFollowBarEnd (n : Fin 16) (rise : Bool) (s : State) : Host.Outcome State Fault Refusal := s.runC (fun c => c.followBar n rise)

/-- R699, R700, R703: the watchdog counts from the end of step S10. -/
def execLswWdt (s : State) : Host.Outcome State Fault Refusal := s.runC (fun c => if c.pw.mode = .run then c.wdtExpire else c)

/-! ### Bus dips and retention -/

/-- R704, R707. -/
def execLswBusOff (s : State) : Host.Outcome State Fault Refusal := s.runC (fun c => c.busOff)

/-- R705. -/
def execLswBusReturn (s : State) : Host.Outcome State Fault Refusal := s.runC (fun c => c.busReturn)

/-- R705, R706. -/
def execReturnSlot (s : State) : Host.Outcome State Fault Refusal := s.runC (fun c => c.returnSlot)

/-- R709. -/
def execLswRetainLost (s : State) : Host.Outcome State Fault Refusal := s.runC (fun c => c.retainLost)

end Sys2Proof.Machine
end

