-- ==== Sys2Proof/Machine/TwinCmds.lean ====
section
/-! DEFINITION. The commands of the Diptych link and the twin pair (R635–R676). -/

namespace Sys2Proof.Machine

open Reg

/-- A write of 1 to one bit of DIP.CTL; LINK_HOLD, which shares the word, keeps its value. -/
def State.dipBit (s : State) (q : Sender) (w : Nat) : Host.Outcome State Fault Refusal :=
  s.run (fun u c => c.wordWrite u Dip.base q (w + c.f Dip.CTL_LINK_HOLD * 2 ^ 8))

/-! ### Heartbeats and the link -/

/-- R646. -/
def execHeartbeatSend (s : State) : Host.Outcome State Fault Refusal := s.runC (fun c => c.heartbeatSend)

/-- R66, R641, R644: `ack` is the frame's ACKSEQ; none says that its FCRC is not good, and such a HEARTBEAT changes nothing. -/
def execHeartbeatReceive (w uid : BitVec 64) (ack : Option (BitVec 8)) (s : State) : Host.Outcome State Fault Refusal :=
  s.runC (fun c => match ack with | some a => (c.ackFrames a.toNat).heartbeat w.toNat uid.toNat | none => c)

/-- R66, R656. -/
def execPrimarySilent (s : State) : Host.Outcome State Fault Refusal := s.runC (fun c => c.primarySilent)

/-- R642. -/
def execLinkTrainStart (s : State) : Host.Outcome State Fault Refusal := s.runC (fun c => c.linkTrain)

/-- R642. -/
def execLinkUp (w uid : BitVec 64) (s : State) : Host.Outcome State Fault Refusal := s.runC (fun c => c.linkUpOn w.toNat uid.toNat)

/-- R642. -/
def execLinkTrainTimeout (s : State) : Host.Outcome State Fault Refusal := s.runC (fun c => c.linkTrainFail)

/-- R642, R643. -/
def execTwinLinkDown (cause : LinkCause) (s : State) : Host.Outcome State Fault Refusal := s.runC (fun c => c.linkDown cause)

/-- R642. -/
def execLinkRst (q : Sender) (s : State) : Host.Outcome State Fault Refusal := s.dipBit q 1

/-- R267, R638–R641, R644. -/
def execLatticeFrameReceive (lane0 lane1 : List Block) (skew : BitVec 8) (s : State) : Host.Outcome State Fault Refusal :=
  s.runC (fun c => c.latticeFrame { lane0 := lane0, lane1 := lane1, skew := skew })

/-- R644 rule 1. -/
def execAckReceive (seq : BitVec 8) (good : Bool) (s : State) : Host.Outcome State Fault Refusal :=
  s.runC (fun c => if good then c.ackFrames seq.toNat else c)

/-- R644 rule 5. -/
def execNakReceive (seq : BitVec 8) (good : Bool) (s : State) : Host.Outcome State Fault Refusal :=
  s.runC (fun c => if good then c.nakFrames seq.toNat else c)

/-- R644 rule 5. -/
def execReplayTimeout (s : State) : Host.Outcome State Fault Refusal := s.runC (fun c => c.replayTimeout)

/-- R645. -/
def execReplayLimit (s : State) : Host.Outcome State Fault Refusal :=
  s.runC (fun c => if c.tw.held.isEmpty then c else c.linkDown .replay)

/-! ### Epochs and hand-over -/

/-- R652. -/
def execEpochStart (s : State) : Host.Outcome State Fault Refusal := s.run (fun u c => c.epochStart u)

/-- R652. -/
def execEpochNow (q : Sender) (s : State) : Host.Outcome State Fault Refusal := s.dipBit q 4

/-- R644, R653, R655: `ack` is the frame's ACKSEQ; none says that its FCRC is not good. -/
def execStateFrameReceive (fseq : BitVec 8) (ack : Option (BitVec 8)) (fr : StateFrame) (s : State) : Host.Outcome State Fault Refusal :=
  s.runC (fun c => c.stateFrame fseq.toNat (ack.map BitVec.toNat) fr)

/-- R654, R655. -/
def execEpochApplyDone (s : State) : Host.Outcome State Fault Refusal := s.runC (fun c => c.applyDone)

/-- R658. -/
def execHandover (q : Sender) (s : State) : Host.Outcome State Fault Refusal := s.dipBit q 2

/-- R658 step 3. -/
def execHandoverRelease (s : State) : Host.Outcome State Fault Refusal := s.runC (fun c => c.handoverRelease)

/-- R658. -/
def execHandoverFail (s : State) : Host.Outcome State Fault Refusal := s.runC (fun c => c.handoverFail)

/-! ### Roles, takeover and the drive -/

/-- R648. -/
def execNegTimeout (s : State) : Host.Outcome State Fault Refusal := s.runC (fun c => c.negTimeout)

/-- R656, R657, R669. -/
def execTakeNAssert (s : State) : Host.Outcome State Fault Refusal := s.runC (fun c => c.takeN)

/-- R669: a new Primary acts on TAKE_N again. -/
def execTakeNDeasserted (s : State) : Host.Outcome State Fault Refusal :=
  s.runC (fun c => { c.putB Dip.TAKE_N true with tw.ignoreTake := false })

/-- R659, R662, R664: `high` gives each rail's mean PWM high time in its last period in which a phase switched, in ticks. -/
def execTakeoverQualified (high : List (BitVec 17)) (s : State) : Host.Outcome State Fault Refusal := s.runC (fun c => c.takeGap high)

/-- R659. -/
def execTakeoverDrive (s : State) : Host.Outcome State Fault Refusal := s.runC (fun c => c.takeDrive)

/-- R660, R661. -/
def execOwnInSample (level : Bool) (s : State) : Host.Outcome State Fault Refusal := s.runC (fun c => c.ownSample level)

/-- R637, R648, R671. -/
def execOwnInAssert (s : State) : Host.Outcome State Fault Refusal := s.runC (fun c => c.ownAssert)

/-- R637. -/
def execOwnInDeassert (s : State) : Host.Outcome State Fault Refusal := s.runC (fun c => c.ownDeassert)

/-- R661. -/
def execWithdrawRetry (s : State) : Host.Outcome State Fault Refusal := s.runC (fun c => c.withdrawRetry)

/-- R661: the part has driven for 1 ms. -/
def execWithdrawCountRestart (s : State) : Host.Outcome State Fault Refusal :=
  s.runC (fun c => if c.b Dip.OWN_OUT && !c.driveOff then { c with tw.k := 0 } else c)

/-- R666. -/
def execTwinOkLapse (s : State) : Host.Outcome State Fault Refusal := s.runC (fun c => c.twinLapse)

end Sys2Proof.Machine
end

