-- ==== Sys2Proof/Machine/Dispatch.lean ====
section
/-! DEFINITION. The dispatch: one arm per command, each a direct call of the command's meaning. -/

namespace Sys2Proof.Machine

def exec (i : Instr) (s : State) : Host.Outcome State Fault Refusal :=
  match i with
  | .registerWrite node off q be len data => Sys2Proof.Machine.execRegisterWrite node off q be len data s
  | .memoryAccess node off q write be data => Sys2Proof.Machine.execMemoryAccess node off q write be data s
  | .phaseMapWrite ph q data => Sys2Proof.Machine.execPhaseMapWrite ph q data s
  | .phaseForceAssert ph => Sys2Proof.Machine.execPhaseForceAssert ph s
  | .phaseForceRelease ph => Sys2Proof.Machine.execPhaseForceRelease ph s
  | .railCeilChange r => Sys2Proof.Machine.execRailCeilChange r s
  | .railPeriodBoundary r => Sys2Proof.Machine.execRailPeriodBoundary r s
  | .phaseOnEdge ph => Sys2Proof.Machine.execPhaseOnEdge ph s
  | .phaseOffEdge ph => Sys2Proof.Machine.execPhaseOffEdge ph s
  | .dutyWrite ph q data => Sys2Proof.Machine.execDutyWrite ph q data s
  | .dutyPacketDelivery w k => Sys2Proof.Machine.execDutyPacketDelivery w k s
  | .imonSample codes => Sys2Proof.Machine.execImonSample codes s
  | .budgetOverrun => Sys2Proof.Machine.execBudgetOverrun s
  | .vsenseSample r code => Sys2Proof.Machine.execVsenseSample r code s
  | .railUv r => Sys2Proof.Machine.execRailUv r s
  | .uvBlankEnd r => Sys2Proof.Machine.execUvBlankEnd r s
  | .tmonSample t code => Sys2Proof.Machine.execTmonSample t code s
  | .vbus12Sample code => Sys2Proof.Machine.execVbus12Sample code s
  | .vbus48Sample code => Sys2Proof.Machine.execVbus48Sample code s
  | .droopAssert r k v => Sys2Proof.Machine.execDroopAssert r k v s
  | .droopDeassert r k v => Sys2Proof.Machine.execDroopDeassert r k v s
  | .phaseOc ph code => Sys2Proof.Machine.execPhaseOc ph code s
  | .ocLatchedClear ph q => Sys2Proof.Machine.execOcLatchedClear ph q s
  | .vsetWrite r q port data => Sys2Proof.Machine.execVsetWrite r q port data s
  | .slewTick r => Sys2Proof.Machine.execSlewTick r s
  | .railEnable r q data => Sys2Proof.Machine.execRailEnable r q data s
  | .railDisable r q data => Sys2Proof.Machine.execRailDisable r q data s
  | .railOffComplete r => Sys2Proof.Machine.execRailOffComplete r s
  | .railRestart r q => Sys2Proof.Machine.execRailRestart r q s
  | .fallbackEntry r => Sys2Proof.Machine.execFallbackEntry r s
  | .holdLimitExpiry g => Sys2Proof.Machine.execHoldLimitExpiry g s
  | .levelPortToken p level => Sys2Proof.Machine.execLevelPortToken p level s
  | .glazeStageCapture col row m => Sys2Proof.Machine.execGlazeStageCapture col row m s
  | .outputPortToken p => Sys2Proof.Machine.execOutputPortToken p s
  | .ringMeasurement col ps => Sys2Proof.Machine.execRingMeasurement col ps s
  | .vddgSetWrite q data => Sys2Proof.Machine.execVddgSetWrite q data s
  | .vddgReached => Sys2Proof.Machine.execVddgReached s
  | .gmemAccess m portB => Sys2Proof.Machine.execGmemAccess m portB s
  | .gmemWindowAccess m a q write be data => Sys2Proof.Machine.execGmemWindowAccess m a q write be data s
  | .inData n k q data => Sys2Proof.Machine.execInData n k q data s
  | .outChannelToken n k => Sys2Proof.Machine.execOutChannelToken n k s
  | .outPop n k q => Sys2Proof.Machine.execOutPop n k q s
  | .parkedReadComplete n => Sys2Proof.Machine.execParkedReadComplete n s
  | .snapReq n q data => Sys2Proof.Machine.execSnapReq n q data s
  | .counterCaptureDone n k line => Sys2Proof.Machine.execCounterCaptureDone n k line s
  | .probeWrite p q data => Sys2Proof.Machine.execProbeWrite p q data s
  | .flitHop r p e => Sys2Proof.Machine.execFlitHop r p e s
  | .requestAccept n => Sys2Proof.Machine.execRequestAccept n s
  | .packetInject n vc tag => Sys2Proof.Machine.execPacketInject n vc tag s
  | .responseAccept n => Sys2Proof.Machine.execResponseAccept n s
  | .requestTimeout n tag => Sys2Proof.Machine.execRequestTimeout n tag s
  | .tagHoldbackEnd n tag => Sys2Proof.Machine.execTagHoldbackEnd n tag s
  | .tagWaitIssue n tag => Sys2Proof.Machine.execTagWaitIssue n tag s
  | .sieveRefill n ten => Sys2Proof.Machine.execSieveRefill n ten s
  | .sieveWaitRelease n ten vc tag => Sys2Proof.Machine.execSieveWaitRelease n ten vc tag s
  | .routeEntryWrite n e q data => Sys2Proof.Machine.execRouteEntryWrite n e q data s
  | .nodeRst n q => Sys2Proof.Machine.execNodeRst n q s
  | .nodeResetBegin n => Sys2Proof.Machine.execNodeResetBegin n s
  | .nodeResetEnd n => Sys2Proof.Machine.execNodeResetEnd n s
  | .tunnelReceive => Sys2Proof.Machine.execTunnelReceive s
  | .planeBeat late => Sys2Proof.Machine.execPlaneBeat late s
  | .roundStart => Sys2Proof.Machine.execRoundStart s
  | .streamCapture b1 k => Sys2Proof.Machine.execStreamCapture b1 k s
  | .slotTx n k => Sys2Proof.Machine.execSlotTx n k s
  | .vc0Arrival n => Sys2Proof.Machine.execVc0Arrival n s
  | .slotDelivery n k => Sys2Proof.Machine.execSlotDelivery n k s
  | .replySample g k => Sys2Proof.Machine.execReplySample g k s
  | .planeHoldSample g => Sys2Proof.Machine.execPlaneHoldSample g s
  | .glazeLate g => Sys2Proof.Machine.execGlazeLate g s
  | .dqxCommand e => Sys2Proof.Machine.execDqxCommand e s
  | .dqxReadData e => Sys2Proof.Machine.execDqxReadData e s
  | .schedFault n r => Sys2Proof.Machine.execSchedFault n r s
  | .planeRestart q => Sys2Proof.Machine.execPlaneRestart q s
  | .planeRestartStart => Sys2Proof.Machine.execPlaneRestartStart s
  | .switch q sel => Sys2Proof.Machine.execSwitch q sel s
  | .schedSwitched => Sys2Proof.Machine.execSchedSwitched s
  | .add t rd rs1 rs2 => Sys2Proof.Machine.execAdd t rd rs1 rs2 s
  | .addS t rd rs1 rs2 => Sys2Proof.Machine.execAddS t rd rs1 rs2 s
  | .sub t rd rs1 rs2 => Sys2Proof.Machine.execSub t rd rs1 rs2 s
  | .subS t rd rs1 rs2 => Sys2Proof.Machine.execSubS t rd rs1 rs2 s
  | .and_ t rd rs1 rs2 => Sys2Proof.Machine.execAnd t rd rs1 rs2 s
  | .or_ t rd rs1 rs2 => Sys2Proof.Machine.execOr t rd rs1 rs2 s
  | .xor_ t rd rs1 rs2 => Sys2Proof.Machine.execXor t rd rs1 rs2 s
  | .sll t rd rs1 rs2 => Sys2Proof.Machine.execSll t rd rs1 rs2 s
  | .srl t rd rs1 rs2 => Sys2Proof.Machine.execSrl t rd rs1 rs2 s
  | .sra t rd rs1 rs2 => Sys2Proof.Machine.execSra t rd rs1 rs2 s
  | .slli t rd rs1 sh => Sys2Proof.Machine.execSlli t rd rs1 sh s
  | .srli t rd rs1 sh => Sys2Proof.Machine.execSrli t rd rs1 sh s
  | .srai t rd rs1 sh => Sys2Proof.Machine.execSrai t rd rs1 sh s
  | .slt t rd rs1 rs2 => Sys2Proof.Machine.execSlt t rd rs1 rs2 s
  | .sltu t rd rs1 rs2 => Sys2Proof.Machine.execSltu t rd rs1 rs2 s
  | .min t rd rs1 rs2 => Sys2Proof.Machine.execMin t rd rs1 rs2 s
  | .minU t rd rs1 rs2 => Sys2Proof.Machine.execMinU t rd rs1 rs2 s
  | .max t rd rs1 rs2 => Sys2Proof.Machine.execMax t rd rs1 rs2 s
  | .maxU t rd rs1 rs2 => Sys2Proof.Machine.execMaxU t rd rs1 rs2 s
  | .abs t rd rs1 z => Sys2Proof.Machine.execAbs t rd rs1 z s
  | .clz t rd rs1 z => Sys2Proof.Machine.execClz t rd rs1 z s
  | .sat t rd rs1 n => Sys2Proof.Machine.execSat t rd rs1 n s
  | .satU t rd rs1 n => Sys2Proof.Machine.execSatU t rd rs1 n s
  | .addi t rd rs1 imm => Sys2Proof.Machine.execAddi t rd rs1 imm s
  | .andi t rd rs1 imm => Sys2Proof.Machine.execAndi t rd rs1 imm s
  | .ori t rd rs1 imm => Sys2Proof.Machine.execOri t rd rs1 imm s
  | .xori t rd rs1 imm => Sys2Proof.Machine.execXori t rd rs1 imm s
  | .lui t rd z imm => Sys2Proof.Machine.execLui t rd z imm s
  | .mul t rd rs1 rs2 => Sys2Proof.Machine.execMul t rd rs1 rs2 s
  | .mulh t rd rs1 rs2 => Sys2Proof.Machine.execMulh t rd rs1 rs2 s
  | .mulhU t rd rs1 rs2 => Sys2Proof.Machine.execMulhU t rd rs1 rs2 s
  | .mulq15 t rd rs1 rs2 => Sys2Proof.Machine.execMulq15 t rd rs1 rs2 s
  | .mulq31 t rd rs1 rs2 => Sys2Proof.Machine.execMulq31 t rd rs1 rs2 s
  | .mulq15R t rd rs1 rs2 => Sys2Proof.Machine.execMulq15R t rd rs1 rs2 s
  | .mulq31R t rd rs1 rs2 => Sys2Proof.Machine.execMulq31R t rd rs1 rs2 s
  | .macq15 t z ad rs1 rs2 => Sys2Proof.Machine.execMacq15 t z ad rs1 rs2 s
  | .macq31 t z ad rs1 rs2 => Sys2Proof.Machine.execMacq31 t z ad rs1 rs2 s
  | .macq31R t z ad rs1 rs2 => Sys2Proof.Machine.execMacq31R t z ad rs1 rs2 s
  | .msuq15 t z ad rs1 rs2 => Sys2Proof.Machine.execMsuq15 t z ad rs1 rs2 s
  | .msuq31 t z ad rs1 rs2 => Sys2Proof.Machine.execMsuq31 t z ad rs1 rs2 s
  | .msuq31R t z ad rs1 rs2 => Sys2Proof.Machine.execMsuq31R t z ad rs1 rs2 s
  | .accrQ31 t rd z as_ z2 sh r => Sys2Proof.Machine.execAccrQ31 t rd z as_ z2 sh r s
  | .accrQ15 t rd z as_ z2 sh r => Sys2Proof.Machine.execAccrQ15 t rd z as_ z2 sh r s
  | .accrHi t rd z as_ z2 z3 => Sys2Proof.Machine.execAccrHi t rd z as_ z2 z3 s
  | .accrLo t rd z as_ z2 z3 => Sys2Proof.Machine.execAccrLo t rd z as_ z2 z3 s
  | .accwPair t z ad rs1 rs2 z2 => Sys2Proof.Machine.execAccwPair t z ad rs1 rs2 z2 s
  | .accwQ31 t z ad rs1 rs2 z2 => Sys2Proof.Machine.execAccwQ31 t z ad rs1 rs2 z2 s
  | .accwQ15 t z ad rs1 rs2 z2 => Sys2Proof.Machine.execAccwQ15 t z ad rs1 rs2 z2 s
  | .accz t z ad z2 z3 => Sys2Proof.Machine.execAccz t z ad z2 z3 s
  | .tbli t rd rs1 rs2 z r sg k => Sys2Proof.Machine.execTbli t rd rs1 rs2 z r sg k s
  | .ldw t rd rs1 imm => Sys2Proof.Machine.execLdw t rd rs1 imm s
  | .ldh t rd rs1 imm => Sys2Proof.Machine.execLdh t rd rs1 imm s
  | .ldhu t rd rs1 imm => Sys2Proof.Machine.execLdhu t rd rs1 imm s
  | .ldb t rd rs1 imm => Sys2Proof.Machine.execLdb t rd rs1 imm s
  | .ldbu t rd rs1 imm => Sys2Proof.Machine.execLdbu t rd rs1 imm s
  | .stw t rt rs1 imm => Sys2Proof.Machine.execStw t rt rs1 imm s
  | .sth t rt rs1 imm => Sys2Proof.Machine.execSth t rt rs1 imm s
  | .stb t rt rs1 imm => Sys2Proof.Machine.execStb t rt rs1 imm s
  | .beq t rs2 rs1 imm => Sys2Proof.Machine.execBeq t rs2 rs1 imm s
  | .bne t rs2 rs1 imm => Sys2Proof.Machine.execBne t rs2 rs1 imm s
  | .blt t rs2 rs1 imm => Sys2Proof.Machine.execBlt t rs2 rs1 imm s
  | .bge t rs2 rs1 imm => Sys2Proof.Machine.execBge t rs2 rs1 imm s
  | .bltu t rs2 rs1 imm => Sys2Proof.Machine.execBltu t rs2 rs1 imm s
  | .bgeu t rs2 rs1 imm => Sys2Proof.Machine.execBgeu t rs2 rs1 imm s
  | .jal t rd z imm => Sys2Proof.Machine.execJal t rd z imm s
  | .jalr t rd rs1 imm => Sys2Proof.Machine.execJalr t rd rs1 imm s
  | .loop t z rs1 imm => Sys2Proof.Machine.execLoop t z rs1 imm s
  | .slottx t z rs1 z2 z3 n6 => Sys2Proof.Machine.execSlottx t z rs1 z2 z3 n6 s
  | .slotrx t rd z z2 hi ch => Sys2Proof.Machine.execSlotrx t rd z z2 hi ch s
  | .glzrd t rd z z2 pair ch => Sys2Proof.Machine.execGlzrd t rd z z2 pair ch s
  | .glzwr t z rs1 z2 z3 => Sys2Proof.Machine.execGlzwr t z rs1 z2 z3 s
  | .dqpush t z rs1 rs2 z2 => Sys2Proof.Machine.execDqpush t z rs1 rs2 z2 s
  | .dqpop t rd z z2 z3 => Sys2Proof.Machine.execDqpop t rd z z2 z3 s
  | .dqwait t z n z2 k => Sys2Proof.Machine.execDqwait t z n z2 k s
  | .ltrd t z tk rs1 imm => Sys2Proof.Machine.execLtrd t z tk rs1 imm s
  | .ltwr t z tk rs1 rs2 z2 => Sys2Proof.Machine.execLtwr t z tk rs1 rs2 z2 s
  | .ltWaitIssue t => Sys2Proof.Machine.execLtWaitIssue t s
  | .ticketLanding t k => Sys2Proof.Machine.execTicketLanding t k s
  | .ltwait t rd rs1 z z2 => Sys2Proof.Machine.execLtwait t rd rs1 z z2 s
  | .ltwaitComplete t => Sys2Proof.Machine.execLtwaitComplete t s
  | .evpost t z rs1 rs2 code => Sys2Proof.Machine.execEvpost t z rs1 rs2 code s
  | .lkacq t rd rs1 z prio => Sys2Proof.Machine.execLkacq t rd rs1 z prio s
  | .lkacqComplete t => Sys2Proof.Machine.execLkacqComplete t s
  | .lkrel t z rs1 z2 z3 => Sys2Proof.Machine.execLkrel t z rs1 z2 z3 s
  | .mfs t rd z z2 sr => Sys2Proof.Machine.execMfs t rd z z2 sr s
  | .mts t rt z z2 sr => Sys2Proof.Machine.execMts t rt z z2 sr s
  | .ecall t z code => Sys2Proof.Machine.execEcall t z code s
  | .eret t z => Sys2Proof.Machine.execEret t z s
  | .wfi t z => Sys2Proof.Machine.execWfi t z s
  | .wfiWake t => Sys2Proof.Machine.execWfiWake t s
  | .fence t z => Sys2Proof.Machine.execFence t z s
  | .halt t z => Sys2Proof.Machine.execHalt t z s
  | .interruptEntry t => Sys2Proof.Machine.execInterruptEntry t s
  | .timerExpiry t j => Sys2Proof.Machine.execTimerExpiry t j s
  | .iset t q data => Sys2Proof.Machine.execIset t q data s
  | .eccWriteback t imem a => Sys2Proof.Machine.execEccWriteback t imem a s
  | .lockAcquire q orig lock prio => Sys2Proof.Machine.execLockAcquire q orig lock prio s
  | .lockTry q orig lock prio => Sys2Proof.Machine.execLockTry q orig lock prio s
  | .lockRelease q orig lock => Sys2Proof.Machine.execLockRelease q orig lock s
  | .noticeSendPending => Sys2Proof.Machine.execNoticeSendPending s
  | .noticeDelivery p => Sys2Proof.Machine.execNoticeDelivery p s
  | .lockHoldTmo lock => Sys2Proof.Machine.execLockHoldTmo lock s
  | .lockForce lock q => Sys2Proof.Machine.execLockForce lock q s
  | .lockQuarantineEnd t n => Sys2Proof.Machine.execLockQuarantineEnd t n s
  | .page x v => Sys2Proof.Machine.execPage x v s
  | .operation x v => Sys2Proof.Machine.execOperation x v s
  | .clearFaults x => Sys2Proof.Machine.execClearFaults x s
  | .capability x => Sys2Proof.Machine.execCapability x s
  | .voutMode x => Sys2Proof.Machine.execVoutMode x s
  | .voutCommand x v => Sys2Proof.Machine.execVoutCommand x v s
  | .voutMax x => Sys2Proof.Machine.execVoutMax x s
  | .statusByte x => Sys2Proof.Machine.execStatusByte x s
  | .statusWord x => Sys2Proof.Machine.execStatusWord x s
  | .statusVout x => Sys2Proof.Machine.execStatusVout x s
  | .statusIout x => Sys2Proof.Machine.execStatusIout x s
  | .statusInput x => Sys2Proof.Machine.execStatusInput x s
  | .statusTemperature x => Sys2Proof.Machine.execStatusTemperature x s
  | .statusCml x => Sys2Proof.Machine.execStatusCml x s
  | .readVin x => Sys2Proof.Machine.execReadVin x s
  | .readIin x => Sys2Proof.Machine.execReadIin x s
  | .readVout x => Sys2Proof.Machine.execReadVout x s
  | .readIout x => Sys2Proof.Machine.execReadIout x s
  | .readTemperature1 x => Sys2Proof.Machine.execReadTemperature1 x s
  | .readPout x => Sys2Proof.Machine.execReadPout x s
  | .pmbusRevision x => Sys2Proof.Machine.execPmbusRevision x s
  | .mfrId x => Sys2Proof.Machine.execMfrId x s
  | .mfrModel x => Sys2Proof.Machine.execMfrModel x s
  | .mfrRevision x => Sys2Proof.Machine.execMfrRevision x s
  | .mfrLock x seq lock prio op => Sys2Proof.Machine.execMfrLock x seq lock prio op s
  | .mfrNoticeRead x => Sys2Proof.Machine.execMfrNoticeRead x s
  | .mfrMsgSend x seq body => Sys2Proof.Machine.execMfrMsgSend x seq body s
  | .mfrMsgRead x => Sys2Proof.Machine.execMfrMsgRead x s
  | .mfrCntRead x node idx => Sys2Proof.Machine.execMfrCntRead x node idx s
  | .mfrRegRead x addr => Sys2Proof.Machine.execMfrRegRead x addr s
  | .mfrRegWrite x seq addr data => Sys2Proof.Machine.execMfrRegWrite x seq addr data s
  | .mfrTenantStatus x => Sys2Proof.Machine.execMfrTenantStatus x s
  | .mfrRailRestart x v => Sys2Proof.Machine.execMfrRailRestart x v s
  | .mfrTenantReset x v => Sys2Proof.Machine.execMfrTenantReset x v s
  | .retryCacheExpiry t => Sys2Proof.Machine.execRetryCacheExpiry t s
  | .stretchTimeout p => Sys2Proof.Machine.execStretchTimeout p s
  | .smbusBusTimeout p => Sys2Proof.Machine.execSmbusBusTimeout p s
  | .alertResponse p => Sys2Proof.Machine.execAlertResponse p s
  | .alertReassert p => Sys2Proof.Machine.execAlertReassert p s
  | .ibiRetry p => Sys2Proof.Machine.execIbiRetry p s
  | .entdaa p addr => Sys2Proof.Machine.execEntdaa p addr s
  | .setdasa p stat addr => Sys2Proof.Machine.execSetdasa p stat addr s
  | .rstdaa p => Sys2Proof.Machine.execRstdaa p s
  | .enec p ev => Sys2Proof.Machine.execEnec p ev s
  | .disec p ev => Sys2Proof.Machine.execDisec p ev s
  | .getpid p => Sys2Proof.Machine.execGetpid p s
  | .getbcr p => Sys2Proof.Machine.execGetbcr p s
  | .getdcr p => Sys2Proof.Machine.execGetdcr p s
  | .getstatus p => Sys2Proof.Machine.execGetstatus p s
  | .getmwl p => Sys2Proof.Machine.execGetmwl p s
  | .getmrl p => Sys2Proof.Machine.execGetmrl p s
  | .setmwl p v => Sys2Proof.Machine.execSetmwl p v s
  | .setmrl p v => Sys2Proof.Machine.execSetmrl p v s
  | .hdrExitPattern p => Sys2Proof.Machine.execHdrExitPattern p s
  | .avsWriteCommit p sel mv => Sys2Proof.Machine.execAvsWriteCommit p sel mv s
  | .avsWriteHold p sel mv => Sys2Proof.Machine.execAvsWriteHold p sel mv s
  | .avsVoltageRead p sel => Sys2Proof.Machine.execAvsVoltageRead p sel s
  | .avsSlewWrite p sel up dn => Sys2Proof.Machine.execAvsSlewWrite p sel up dn s
  | .avsSlewRead p sel => Sys2Proof.Machine.execAvsSlewRead p sel s
  | .avsCurrentRead p sel => Sys2Proof.Machine.execAvsCurrentRead p sel s
  | .avsTemperatureRead p sel => Sys2Proof.Machine.execAvsTemperatureRead p sel s
  | .avsStatusRead p sel => Sys2Proof.Machine.execAvsStatusRead p sel s
  | .avsResetDefault p sel => Sys2Proof.Machine.execAvsResetDefault p sel s
  | .avsLate p r beats => Sys2Proof.Machine.execAvsLate p r beats s
  | .ringTailWrite t q data => Sys2Proof.Machine.execRingTailWrite t q data s
  | .msgToOutbox => Sys2Proof.Machine.execMsgToOutbox s
  | .msgToInbox p => Sys2Proof.Machine.execMsgToInbox p s
  | .hubNoticeReceive => Sys2Proof.Machine.execHubNoticeReceive s
  | .tenantReset t q => Sys2Proof.Machine.execTenantReset t q s
  | .tenantResetEnd t => Sys2Proof.Machine.execTenantResetEnd t s
  | .forwardCommand x code bytes => Sys2Proof.Machine.execForwardCommand x code bytes s
  | .forwardSlotWrite => Sys2Proof.Machine.execForwardSlotWrite s
  | .heartbeatSend => Sys2Proof.Machine.execHeartbeatSend s
  | .heartbeatReceive w uid ack => Sys2Proof.Machine.execHeartbeatReceive w uid ack s
  | .primarySilent => Sys2Proof.Machine.execPrimarySilent s
  | .takeNAssert => Sys2Proof.Machine.execTakeNAssert s
  | .takeoverQualified high => Sys2Proof.Machine.execTakeoverQualified high s
  | .takeoverDrive => Sys2Proof.Machine.execTakeoverDrive s
  | .ownInSample level => Sys2Proof.Machine.execOwnInSample level s
  | .ownInAssert => Sys2Proof.Machine.execOwnInAssert s
  | .withdrawRetry => Sys2Proof.Machine.execWithdrawRetry s
  | .linkTrainStart => Sys2Proof.Machine.execLinkTrainStart s
  | .linkUp w uid => Sys2Proof.Machine.execLinkUp w uid s
  | .linkTrainTimeout => Sys2Proof.Machine.execLinkTrainTimeout s
  | .twinLinkDown cause => Sys2Proof.Machine.execTwinLinkDown cause s
  | .linkRst q => Sys2Proof.Machine.execLinkRst q s
  | .latticeFrameReceive lane0 lane1 skew => Sys2Proof.Machine.execLatticeFrameReceive lane0 lane1 skew s
  | .ackReceive seq good => Sys2Proof.Machine.execAckReceive seq good s
  | .nakReceive seq good => Sys2Proof.Machine.execNakReceive seq good s
  | .replayTimeout => Sys2Proof.Machine.execReplayTimeout s
  | .replayLimit => Sys2Proof.Machine.execReplayLimit s
  | .epochStart => Sys2Proof.Machine.execEpochStart s
  | .epochNow q => Sys2Proof.Machine.execEpochNow q s
  | .stateFrameReceive fseq ack fr => Sys2Proof.Machine.execStateFrameReceive fseq ack fr s
  | .epochApplyDone => Sys2Proof.Machine.execEpochApplyDone s
  | .handover q => Sys2Proof.Machine.execHandover q s
  | .handoverRelease => Sys2Proof.Machine.execHandoverRelease s
  | .handoverFail => Sys2Proof.Machine.execHandoverFail s
  | .negTimeout => Sys2Proof.Machine.execNegTimeout s
  | .channelModeWrite n q mode => Sys2Proof.Machine.execChannelModeWrite n q mode s
  | .channelConfigWrite n q off data => Sys2Proof.Machine.execChannelConfigWrite n q off data s
  | .latchClr n q => Sys2Proof.Machine.execLatchClr n q s
  | .lswOc n cur => Sys2Proof.Machine.execLswOc n cur s
  | .pauseEnd n => Sys2Proof.Machine.execPauseEnd n s
  | .tripsReset n => Sys2Proof.Machine.execTripsReset n s
  | .blankingEnd n => Sys2Proof.Machine.execBlankingEnd n s
  | .lswTherm n tj dt => Sys2Proof.Machine.execLswTherm n tj dt s
  | .thermClear n tj dt => Sys2Proof.Machine.execThermClear n tj dt s
  | .followInputEdge n level => Sys2Proof.Machine.execFollowInputEdge n level s
  | .followBarEnd n rise => Sys2Proof.Machine.execFollowBarEnd n rise s
  | .channelSample n iout tj dt => Sys2Proof.Machine.execChannelSample n iout tj dt s
  | .wdtKick q data => Sys2Proof.Machine.execWdtKick q data s
  | .lswWdt => Sys2Proof.Machine.execLswWdt s
  | .lswBusOff => Sys2Proof.Machine.execLswBusOff s
  | .lswBusReturn => Sys2Proof.Machine.execLswBusReturn s
  | .returnSlot => Sys2Proof.Machine.execReturnSlot s
  | .lswRetainLost => Sys2Proof.Machine.execLswRetainLost s
  | .mirrorWordWrite n q data => Sys2Proof.Machine.execMirrorWordWrite n q data s
  | .eventReceive loc held => Sys2Proof.Machine.execEventReceive loc held s
  | .seqOvf => Sys2Proof.Machine.execSeqOvf s
  | .eventRingTailWrite r q data => Sys2Proof.Machine.execEventRingTailWrite r q data s
  | .counterTick => Sys2Proof.Machine.execCounterTick s
  | .bankClr n q => Sys2Proof.Machine.execBankClr n q s
  | .ccClr q => Sys2Proof.Machine.execCcClr q s
  | .sample k q data => Sys2Proof.Machine.execSample k q data s
  | .flush k q => Sys2Proof.Machine.execFlush k q s
  | .tracePageWrite k => Sys2Proof.Machine.execTracePageWrite k s
  | .skbSecondTick temp => Sys2Proof.Machine.execSkbSecondTick temp s
  | .skbMsTick => Sys2Proof.Machine.execSkbMsTick s
  | .droopEpisodeEnd r => Sys2Proof.Machine.execDroopEpisodeEnd r s
  | .persistTimer => Sys2Proof.Machine.execPersistTimer s
  | .persistNow q => Sys2Proof.Machine.execPersistNow q s
  | .skbPersist => Sys2Proof.Machine.execSkbPersist s
  | .cmdWrite q data => Sys2Proof.Machine.execCmdWrite q data s
  | .nvPageWriteStart => Sys2Proof.Machine.execNvPageWriteStart s
  | .nvErasePulseDone clean => Sys2Proof.Machine.execNvErasePulseDone clean s
  | .nvProgramPulseDone good => Sys2Proof.Machine.execNvProgramPulseDone good s
  | .nvWindowRead a q len => Sys2Proof.Machine.execNvWindowRead a q len s
  | .keycmd q data => Sys2Proof.Machine.execKeycmd q data s
  | .null q => Sys2Proof.Machine.execNull q s
  | .wcfg q => Sys2Proof.Machine.execWcfg q s
  | .rcfg q => Sys2Proof.Machine.execRcfg q s
  | .start q => Sys2Proof.Machine.execStart q s
  | .shutdown q => Sys2Proof.Machine.execShutdown q s
  | .grestore q => Sys2Proof.Machine.execGrestore q s
  | .overpaintBegin q r => Sys2Proof.Machine.execOverpaintBegin q r s
  | .overpaintEnd q r => Sys2Proof.Machine.execOverpaintEnd q r s
  | .fdata q data => Sys2Proof.Machine.execFdata q data s
  | .fdout q => Sys2Proof.Machine.execFdout q s
  | .plData q data => Sys2Proof.Machine.execPlData q data s
  | .fabricCheckDone => Sys2Proof.Machine.execFabricCheckDone s
  | .startupStep region => Sys2Proof.Machine.execStartupStep region s
  | .glazeLockTmo => Sys2Proof.Machine.execGlazeLockTmo s
  | .scrubVisit upsets => Sys2Proof.Machine.execScrubVisit upsets s
  | .regionCheckDone r => Sys2Proof.Machine.execRegionCheckDone r s
  | .vauxLoss => Sys2Proof.Machine.execVauxLoss s
  | .powerOnResetEnd => Sys2Proof.Machine.execPowerOnResetEnd s
  | .stepS0 pmaddr pref oscOk => Sys2Proof.Machine.execStepS0 pmaddr pref oscOk s
  | .stepS1 => Sys2Proof.Machine.execStepS1 s
  | .stepS2 => Sys2Proof.Machine.execStepS2 s
  | .stepS3 => Sys2Proof.Machine.execStepS3 s
  | .stepS4 => Sys2Proof.Machine.execStepS4 s
  | .stepS5 => Sys2Proof.Machine.execStepS5 s
  | .stepS6 => Sys2Proof.Machine.execStepS6 s
  | .stepS7 fail nor => Sys2Proof.Machine.execStepS7 fail nor s
  | .stepS8 => Sys2Proof.Machine.execStepS8 s
  | .stepS9 => Sys2Proof.Machine.execStepS9 s
  | .stepS10 us => Sys2Proof.Machine.execStepS10 us s
  | .stepTimeout b => Sys2Proof.Machine.execStepTimeout b s
  | .stepRetry => Sys2Proof.Machine.execStepRetry s
  | .responderStatusByte => Sys2Proof.Machine.execResponderStatusByte s
  | .mfrWakeReason => Sys2Proof.Machine.execMfrWakeReason s
  | .mfrWake v pec => Sys2Proof.Machine.execMfrWake v pec s
  | .resetNAssert => Sys2Proof.Machine.execResetNAssert s
  | .warmReset q data => Sys2Proof.Machine.execWarmReset q data s
  | .vddhGood => Sys2Proof.Machine.execVddhGood s
  | .vddhLoss => Sys2Proof.Machine.execVddhLoss s
  | .vio33Low => Sys2Proof.Machine.execVio33Low s
  | .standby q key => Sys2Proof.Machine.execStandby q key s
  | .run q key us => Sys2Proof.Machine.execRun q key us s
  | .deep q key => Sys2Proof.Machine.execDeep q key s
  | .deepRampDone => Sys2Proof.Machine.execDeepRampDone s
  | .deepEntryComplete => Sys2Proof.Machine.execDeepEntryComplete s
  | .extest d => Sys2Proof.Machine.execExtest d s
  | .idcode d => Sys2Proof.Machine.execIdcode d s
  | .samplePreload d cells => Sys2Proof.Machine.execSamplePreload d cells s
  | .highz d => Sys2Proof.Machine.execHighz d s
  | .clamp d => Sys2Proof.Machine.execClamp d s
  | .extestPulse => Sys2Proof.Machine.execExtestPulse s
  | .extestTrain => Sys2Proof.Machine.execExtestTrain s
  | .bypass d => Sys2Proof.Machine.execBypass d s
  | .ownInDeassert => Sys2Proof.Machine.execOwnInDeassert s
  | .takeNDeasserted => Sys2Proof.Machine.execTakeNDeasserted s
  | .withdrawCountRestart => Sys2Proof.Machine.execWithdrawCountRestart s
  | .twinOkLapse => Sys2Proof.Machine.execTwinOkLapse s
  | .vio33Return => Sys2Proof.Machine.execVio33Return s
  | .hdrEntry p => Sys2Proof.Machine.execHdrEntry p s

end Sys2Proof.Machine
end

