-- ==== Sys2Proof/WellFormed.lean ====
section
/-! DEFINITION. Which commands the outside can send: bounds that the operands' types do not carry. `exec` is total on every command;
an ill-formed one stands for nothing that happens at the block's balls. -/

namespace Sys2Proof

namespace Machine

/-- Every field of a header is within its width (R229). -/
def Hdr.fits (h : Hdr) : Bool :=
  decide (h.route < 2 ^ 36) && decide (h.vc < 4) && decide (h.prio < 4) && decide (h.typ < 16) && decide (h.src < 128)
    && decide (h.dst < 128) && decide (h.tag < 64) && decide (h.gen < 4) && decide (h.tenant < 8) && decide (h.len < 16)
    && decide (h.offset < 2 ^ 25) && decide (h.status < 16) && decide (h.be < 16)

/-- The lanes carry one frame: 1 to 16 blocks, the first on lane 0 (R639, R640). -/
def Lanes.fits (l : Lanes) : Bool :=
  decide (1 ≤ l.lane0.length) && decide (l.lane0.length ≤ 8) && decide (l.lane1.length ≤ l.lane0.length)
    && decide (l.lane0.length ≤ l.lane1.length + 1)

/-- A packet carries at most four data flits, 16 words (R231). -/
def Pkt.fits (p : Pkt) : Bool := p.hdr.fits && decide (p.words.length ≤ 16)

end Machine

/-- No key stands twice. -/
def distinctKeys {n : Nat} {α : Type} (l : List (Fin n × α)) : Bool := decide ((l.map (fun e => e.1)).Nodup)

/-- The command is one that the outside can send. -/
def Instr.wellFormed (i : Instr) : Bool :=
  match i with
  -- R229: one to sixteen words
  | .memoryAccess _ _ _ _ _ data => decide (1 ≤ data.length) && decide (data.length ≤ 16)
  | .gmemWindowAccess _ _ _ _ _ data => decide (1 ≤ data.length) && decide (data.length ≤ 16)
  -- R95: one code of each phase
  | .imonSample codes => decide (codes.length = 96)
  -- R589: a block of at most 255 bytes, the sequence byte among them
  | .mfrMsgSend _ _ body => decide (body.length ≤ 254)
  | .forwardCommand _ _ bytes => decide (bytes.length ≤ 255)
  -- R662: the high time of each rail
  | .takeoverQualified high => decide (high.length = 16)
  -- R639, R640: a header block and at most 15 data blocks, dealt to the lanes in turn
  | .latticeFrameReceive lane0 lane1 skew => Machine.Lanes.fits { lane0 := lane0, lane1 := lane1, skew := skew }
  -- R641: at most 14 epoch words behind the descriptor
  | .stateFrameReceive _ _ (.data _ _ ws) => decide (ws.length ≤ 14)
  -- R861: each word of the frame once
  | .scrubVisit upsets => distinctKeys upsets
  -- R952: each cell once
  | .samplePreload _ cells => distinctKeys cells
  | _ => true

end Sys2Proof
end

