-- ==== Sys2Proof/Safety.lean ====
section
/-! DEFINITION. What counts as a sound state, in the terms the statements use. -/

namespace Sys2Proof.Safety

open Sys2Proof.Machine

/-- LOCK holds what its rules allow: one wait of each requester (R531), at most 512 waits (R530), each on a held lock (R523, R526); so did
the LOCK that the resets or timeouts of this beat found. -/
def lockSound (s : State) : Prop := s.lock.sound = true ∧ ∀ w, s.chip.lockWas = some w → w.unit.sound = true

/-- The memory's canonical form: addresses strictly rising, no entry that equals what an unlisted address reads as. -/
def memSound (s : State) : Prop :=
  Map.wf (0 : Byte) s.chip.mem = true ∧ Map.wf (0 : Byte) s.chip.xmem = true ∧ Map.wf (0xFF : Byte) s.chip.nvc.cells = true

/-- Every waiting command is one that the outside can send. -/
def pendingWellFormed (s : State) : Prop := ∀ i ∈ s.pending, i.wellFormed = true

end Sys2Proof.Safety
end

