-- ==== Sys2Proof/Certificates/Slice0/Obligations.lean ====
section
/-! DEFINITION. The statements about the model, for the provers. -/

namespace Sys2Proof.Slice0

open Sys2Proof.Machine

/-- The command answers a next state, and `P` holds of it. -/
abbrev Ends (i : Instr) (s : State) (P : State → Prop) : Prop := ∃ t, exec i s = .next t ∧ P t

/-- No earlier command has left an act for LOCK: so it is between commands (`Obligations.EveryCommandAnswers`). -/
abbrev Between (s : State) : Prop := s.chip.lockActs = []

/-- The access ended with a status and no data, and changed nothing. -/
def Refuses (s t : State) (st : Nat) : Prop := t = { s with chip := { s.chip with resp := some (st, []) } }

/-- IMEM, DMEM, SRAM, the trace memory, the Glaze memories and the cells of the non-volatile memory are as before. -/
def SameMemory (s t : State) : Prop :=
  t.chip.mem = s.chip.mem ∧ t.chip.xmem = s.chip.xmem ∧ t.chip.gl.gmem = s.chip.gl.gmem ∧ t.chip.nvc.cells = s.chip.nvc.cells

/-- Every register word outside `R` is as before. -/
def SameRegsBut (R : Nat → Prop) (s t : State) : Prop := ∀ a, ¬ R a → t.chip.reg a = s.chip.reg a

/-- The error words of node `n`'s NI (R289): an event that finds the send queue full, or the node fenced, counts there. -/
def NiErr (n a : Nat) : Prop := niBase n + 0x10 ≤ a ∧ a < niBase n + 0x50

/-- R732–R735: node `n` posts the event of an index in a class, with its payload fields (width, value), where its send queue has room. -/
def Posts (s t : State) (n cls idx : Nat) (fields : List (Nat × Nat)) : Prop :=
  s.chip.fenced n = false → (s.chip.ni n).send3.length < 8 → (t.chip.ni n).send3 = (s.chip.ni n).send3 ++
    [evtPkt n 0 (evCode cls idx) (s.chip.ni n).sseq (toWords ((packWidth 0 fields + 31) / 32) (packFields 0 fields))]

/-- R288, R289: node `n`'s NI counts a packet that it discards and sets ERR.DROP. The LATTICE_ERR that this may lead to, which ERR_EVT allows,
can itself find the send queue full: a second drop. -/
def CountsDrop (s t : State) (n : Nat) : Prop :=
  t.chip.f (Reg.Ni.ERR_DROP n) = 1 ∧ min (2 ^ 32 - 1) (s.chip.f (Reg.Ni.DROP_CNT n) + 1) ≤ t.chip.f (Reg.Ni.DROP_CNT n)
    ∧ (bit (s.chip.f (Reg.Ni.ERR_EVT n)) 6 = false → t.chip.f (Reg.Ni.DROP_CNT n) = min (2 ^ 32 - 1) (s.chip.f (Reg.Ni.DROP_CNT n) + 1))

/-- No event of the hardware has updated, in this beat, a field that software can write (R21, R22). -/
abbrev NoUpdate (s : State) : Prop := ∀ a, mget 0 s.chip.hwBits a = 0

/-- LOCK has performed no reset and no hold timeout in this beat (R560, R563). -/
abbrev LockQuiet (s : State) : Prop := ∀ w, s.chip.lockWas = some w → w.beat ≠ s.chip.clock

/-- The sender is HUB, for an AVSBus tenant (R567). -/
abbrev forAvs (q : Sender) : Bool := q.src == 0 && decide (3 ≤ q.tenant.val) && decide (q.tenant.val ≤ 6)

/-- The part as an access to node `n` at `off` finds it: what a tile has stored and is due by now is in its DMEM (R304, R446). -/
def seenAt (s : State) (n : Fin 49) (off : BitVec 25) : Chip :=
  if memKind n off.toNat = some .dmem then s.chip.settled (tileAt n) else s.chip

/-- A sender that may write node `n`'s default registers: PRIV or tenant 0 (R969), and the node is not fenced. -/
abbrev May (s : State) (n : Nat) (q : Sender) : Prop := s.chip.fenced n = false ∧ (q.priv = true ∨ q.tenant = 0)

/-- A sender with PRIV, at a node that is not fenced. -/
abbrev MayPriv (s : State) (n : Nat) (q : Sender) : Prop := s.chip.fenced n = false ∧ q.priv = true

/-- Node `n` hands one more packet, with `P`, to its response queue. -/
def Answers (s t : State) (n : Nat) (P : Pkt → Prop) : Prop := ∃ p, (t.chip.ni n).rsp = (s.chip.ni n).rsp ++ [p] ∧ P p

/-- R239, R240: node `n` hands flits `fl` to its router on channel `vc`: the first at once, each further one as a credit comes; those not handed
over yet wait at its NI, in order. -/
def Hands (s t : State) (n vc : Nat) (fl : List Flit) : Prop :=
  ∃ k, 0 < k ∧ t.chip.queue n 0 vc = s.chip.queue n 0 vc ++ fl.take k ∧ t.chip.outFlits n vc = fl.drop k

/-- Node `n` with the refills of this beat, which come before an admission (R292). -/
def refilled (s : State) (n : Nat) : Chip := s.chip.refills n

/-- Router `r` after its node's NI has handed it the flits for which it holds credits (R240). -/
def fed (s : State) (r : Nat) : Chip := forN 4 (fun vc c => c.feed r vc) s.chip

/-- R250–R255, R261, R292: command `i` sends request `a` of tenant `x` from node `n` under tag `k` by route `r`: the tag is in flight and its
timer runs; at priority 3 only with P3_EN and a token, else at 2 and counted; its Sieve, once refilled, pays for its flits at priority 3 and
under LIMIT. -/
def SendsRequest (s : State) (n : Fin 49) (k : Fin 64) (x : Nat) (a : Ask) (rest : List Ask) (r : Nat) (i : Instr) : Prop :=
  ∀ p3, p3 = (a.pkt.hdr.prio == 3 && s.chip.b (Reg.Ni.SIEVEt_P3_EN n x) && (refilled s n).hasToken n x) →
  ∀ h, h = { a.pkt.hdr with route := r, prio := if a.pkt.hdr.prio = 3 ∧ p3 = false then 2 else a.pkt.hdr.prio,
                            tag := k, gen := (s.chip.tag n k).gen, src := n } →
  Ends i s fun t => (t.chip.ni n).asks = rest ∧ (t.chip.ni n).rr = x
    ∧ t.chip.tag n k = { s.chip.tag n k with busy := true, owner := a.owner, hdr := h, timer := true }
    ∧ Hands s t n 2 (Pkt.flits { a.pkt with hdr := h })
    ∧ t.chip.tokens n x = (refilled s n).tokens n x - (if p3 = true ∨ s.chip.f (Reg.Ni.SIEVEt_LIMIT n x) = 1 then 1024 * (a.pkt.size : Int) else 0)
    ∧ t.chip.f (Reg.Ni.DEMOTE_CNT n) = min (2 ^ 32 - 1) (s.chip.f (Reg.Ni.DEMOTE_CNT n) + if a.pkt.hdr.prio = 3 ∧ p3 = false then 1 else 0)

/-- R309: the header of the scheduled packet of TX entry `i` of node `n`, by route `r`. -/
def slotHdr (s : State) (n i r : Nat) : Hdr :=
  { route := r, src := n, dst := s.chip.f (Reg.Slot.PEER n i), tag := s.chip.f (Reg.Slot.CHAN n i) }

/-- R309, R315, R321: the packet of TX entry `i` with DATA `d` is injected: its first flit at the entry's beat, behind what the NI still holds,
the second one in the next plane beat. -/
def Injects (s t : State) (n i r d : Nat) : Prop :=
  t.chip.queue n 0 0 ++ t.chip.outFlits n 0 = s.chip.queue n 0 0 ++ s.chip.outFlits n 0 ++
    [{ head := true, tail := s.chip.f (Reg.Slot.LEN2 n i) == 0, words := toWords 2 d, hdr := slotHdr s n i r }]
  ∧ (s.chip.canInject n 0 = true → t.chip.outFlits n 0 = [])
  ∧ (s.chip.f (Reg.Slot.LEN2 n i) ≠ 0 → mget none t.chip.pl.second n =
      some (s.chip.pl.abs + 1, { tail := true, words := toWords 4 (d / 2 ^ 64), hdr := slotHdr s n i r }))

/-- A read of an output channel's OUT_POP word, with the other fields of header `h`. -/
def popRead (n k : Nat) (h : Hdr) : Pkt :=
  { hdr := { h with typ := 1, len := 0, be := 15, offset := (Reg.Gport.OUT_POP (gNode n) k).addr % 0x2000000 } }

/-- REGISTER_WRITE of one whole word at a global address. -/
abbrev writeTo (a : Nat) (q : Sender) (v : Word) : Instr :=
  .registerWrite (Fin.ofNat 49 (a / 0x2000000)) (BitVec.ofNat 25 (a % 0x2000000)) q 15 0 v

/-- The block takes writes from PRIV only (R413, R544, R623, R699, R774, R776, R829, R844, R910, R969); the switches' WDT_KICK apart. -/
def privOnly : Blk → Bool
  | .tile | .gcfg | .dip | .lunit | .seq | .img | .plane | .power | .skb | .ni => true
  | _ => false

/-- The word takes writes from PRIV and tenant 0 alone (R969); HUB writes VSET and the slew rates of a rail for the AVSBus tenants too (R104). -/
def defaultOnly (q : Sender) : Blk × Nat → Bool
  | (.rail _, o) => !(forAvs q && (o == 4 || o == 8))
  | (b, _) => match b with
  | .avs _ | .port _ | .dq | .phase _ | .sense _ | .board | .tmon _ | .gport _ | .garr | .ident | .dqx _ => true
  | _ => false

end Sys2Proof.Slice0

open Sys2Proof Sys2Proof.Machine Sys2Proof.Machine.Reg Sys2Proof.Slice0

/-! ### The machine -/

/-- A step runs the command at the front of the queue, with the queue's rest. -/
def Sys2Proof.Slice0.FrontCommandRuns : Prop :=
  ∀ (s : State) (i : Instr) (rest : List Instr), step { s with pending := i :: rest } = exec i { s with pending := rest }

/-- With nothing waiting the block idles: the model's choice (notes/assumptions/1.md). -/
def Sys2Proof.Slice0.EmptyQueueIdles : Prop := ∀ s : State, s.pending = [] → step s = .next s

/-- A step runs the command at the front of the queue, with the queue's rest. With nothing waiting the block idles: the model's choice
(notes/assumptions/1.md). -/
def Obligations.StepRunsTheFrontCommand : Prop :=
  FrontCommandRuns ∧ EmptyQueueIdles

/-- Every command, in every state, answers a next state; it leaves the queue as it is and no act for LOCK behind. -/
def Obligations.EveryCommandAnswers : Prop :=
  ∀ (i : Instr) (s : State), ∃ t, exec i s = .next t ∧ t.pending = s.pending ∧ Between t

/-- R531, R530, R523: from a LOCK that its rules allow every step leads to one: a requester waits at most once, at most 512 waits
stand, and each on a held lock; so does the LOCK that the resets or timeouts of the present beat found. -/
def Obligations.LockStaysSound : Prop :=
  ∀ s t : State, Safety.lockSound s → Between s → step s = .next t → Safety.lockSound t

/-- The state after reset has a sound LOCK, canonical memories, an empty queue, and no act for LOCK. -/
def Obligations.ResetIsSound : Prop :=
  Safety.lockSound State.reset ∧ Safety.memSound State.reset ∧ State.reset.pending = [] ∧ Between State.reset

/-! ### Rails, phases and sensing -/

/-- R93, R94, R121, R128 and R717: what a sample leaves in its field. The fields are as wide as their tables say. -/
def Obligations.SamplesAreHeld : Prop :=
  ∀ s : State, Between s →
    (∀ (r : Fin 16) (v : BitVec 13), Ends (.vsenseSample r v) s fun t => t.chip.f (Rail.VSENSE r) = v.toNat)
    ∧ (∀ v : BitVec 12, Ends (.vbus12Sample v) s fun t => t.chip.f Board.VBUS12 = v.toNat)
    ∧ (∀ v : BitVec 12, Ends (.vbus48Sample v) s fun t => t.chip.f Board.VBUS48 = v.toNat)
    ∧ (∀ (k : Fin 32) (v : BitVec 10), Ends (.tmonSample k v) s fun t =>
        t.chip.f (Tmon.TEMP k) = low 12 (((v.toNat : Int) - s.chip.f (Tmon.TOFS k)) * s.chip.f (Tmon.TGAIN k) / 2 ^ 8))
    ∧ (∀ codes : List (BitVec 12), Ends (.imonSample codes) s fun t => ∀ (p : Fin 96) (h : p.val < codes.length),
        t.chip.f (Phase.IPH p) = low 16 (((codes[p].toNat : Int) - s.chip.f (Sense.IOFS p)) * s.chip.f (Sense.IGAIN p) / 2 ^ 14))
    ∧ (∀ (n : Fin 16) (i : BitVec 12) (tj : BitVec 9) (dt : BitVec 8), Ends (.channelSample n i tj dt) s fun t =>
        t.chip.f (Lsw.IOUT n) = i.toNat ∧ t.chip.f (Lsw.TJ n) = tj.toNat ∧ t.chip.f (Lsw.DT n) = dt.toNat)

/-- R98 and R101: a comparator asserts below its threshold (UNDER) or above it (OVER), and deasserts past DROOP_HYST; its bit of
STATUS.DROOP follows. -/
def Sys2Proof.Slice0.DroopComparatorsFollowTheirThresholds : Prop :=
  ∀ (s : State) (r : Fin 16) (k : Fin 4) (v : BitVec 13), Between s →
    ((s.chip.comp r k).held = false → s.chip.droopBit r k = false →
      (if s.chip.polOver r k then 8 * (s.chip.comp r k).dac < v.toNat else v.toNat < 8 * (s.chip.comp r k).dac) →
      Ends (.droopAssert r k v) s fun t => t.chip.droopBit r k = true)
    ∧ (s.chip.droopBit r k = true →
      (if s.chip.polOver r k then v.toNat + s.chip.droopHyst r ≤ 8 * (s.chip.comp r k).dac
        else 8 * (s.chip.comp r k).dac + s.chip.droopHyst r ≤ v.toNat) →
      Ends (.droopDeassert r k v) s fun t => t.chip.droopBit r k = false)

/-- R89, R90, R136: a PHASE_FORCE line that the array drives high is in effect on a phase that its rail has mapped and that is not latched off,
where the rail is enabled, not latched off and under no crowbar: FORCED says so; its release clears it. R120: the RAIL_CEIL line takes the
level that the array drives, but not in a Shadow, nor in STANDBY. -/
def Sys2Proof.Slice0.FastPathLinesActAtTheClusters : Prop :=
  ∀ s : State, Between s →
    (∀ p : Fin 96, s.chip.shadow = false → s.chip.f Power.STATE ≠ 1 → s.chip.outLine p = true → (s.chip.phase p).force = false →
      Ends (.phaseForceAssert p) s fun t => (t.chip.phase p).force = true
        ∧ (s.chip.f (Phase.STATE p) ≠ 0 → (s.chip.phase p).leave = 0 → s.chip.f (Phase.OC_LATCHED p) = 0 →
          s.chip.enabled (s.chip.f (Phase.RAIL p)) = true → s.chip.f (Rail.OFF_LATCHED (s.chip.f (Phase.RAIL p))) = 0 →
          s.chip.f (Rail.OV_ACTIVE (s.chip.f (Phase.RAIL p))) = 0 → t.chip.f (Phase.FORCED p) = 1))
    ∧ (∀ p : Fin 96, s.chip.lineAt p = false → (s.chip.phase p).force = true →
      Ends (.phaseForceRelease p) s fun t => (t.chip.phase p).force = false ∧ t.chip.f (Phase.FORCED p) = 0)
    ∧ (∀ r : Fin 16, Ends (.railCeilChange r) s fun t =>
        (t.chip.rail r).ceilLine = (s.chip.outLine (96 + r) && !s.chip.shadow && decide (s.chip.f Power.STATE ≠ 1)))

/-- R89, R98, R101, R120: the droop comparators, and the lines of the array at the clusters. -/
def Obligations.FastPathComparatorsAndLinesAct : Prop :=
  DroopComparatorsFollowTheirThresholds ∧ FastPathLinesActAtTheClusters

/-- R87, R89: the on-edge of an ACTIVE phase that may drive takes HIGH for the ton that its duty gives, or the forced one; the off-edge takes a HIGH phase LOW.
R121 ranks 1 and 7: a trip takes it LOW for the rest of the period, and a trip in the last of OC_LATCH_N consecutive periods latches
the phase off at MID; PSTAT counts the trip. -/
def Obligations.PhaseEdgesDriveTheLevels : Prop :=
  ∀ (s : State) (p : Fin 96), Between s →
    (s.chip.f (Phase.STATE p) = 2 → (s.chip.phase p).replaced = false → (s.chip.phase p).duty = [] →
      s.chip.mayTurnOn p = true → s.chip.f (Rail.FALLBACK (s.chip.f (Phase.RAIL p))) = 0 →
      ∀ ton, ton = (if s.chip.inForce p = true then s.chip.forcedTon p
        else tonOf (s.chip.rail (s.chip.f (Phase.RAIL p))).par (s.chip.phase p).ton) → ton ≠ 0 →
      Ends (.phaseOnEdge p) s fun t => t.chip.f (Phase.LEVEL p) = 1 ∧ (t.chip.phase p).onFor = ton)
    ∧ (s.chip.f (Phase.LEVEL p) = 1 → Ends (.phaseOffEdge p) s fun t => t.chip.f (Phase.LEVEL p) = 0)
    ∧ (∀ code : BitVec 12, s.chip.f (Phase.LEVEL p) = 1 → (s.chip.phase p).tripped = false → s.chip.tripCode p < code.toNat →
      Ends (.phaseOc p code) s fun t => (t.chip.phase p).tripped = true
        ∧ t.chip.f (Phase.OC_CNT p) = min 255 (s.chip.f (Phase.OC_CNT p) + 1)
        ∧ (if max 1 (s.chip.f (Sense.OC_LATCH_N p)) ≤ (s.chip.phase p).trips + 1 then
            t.chip.f (Phase.LEVEL p) = 2 ∧ t.chip.f (Phase.OC_LATCHED p) = 1
          else t.chip.f (Phase.LEVEL p) = 0))

/-- R106: a tick of the slew engine moves VNOW by whole steps of 0.5 mV towards its end and no further. R126: blanking ends where the
engine does not move upwards. R109: the end of the ramp puts OFF_CAUSE 5. R121 rank 5: the under-voltage latch. R991: BUDGET_OVERRUN
holds FAULT_N. -/
def Sys2Proof.Slice0.RailWatchesAndRampsAct : Prop :=
  ∀ s : State, Between s →
    (∀ r : Fin 16, (s.chip.rail r).slewing = true → s.chip.f (Rail.VNOW r) < s.chip.slewTo r → Ends (.slewTick r) s fun t =>
        t.chip.f (Rail.VNOW r)
          = min (s.chip.slewTo r) (s.chip.f (Rail.VNOW r) + ((s.chip.rail r).acc + s.chip.slewRate r) / 10))
    ∧ (∀ r : Fin 16, (s.chip.rail r).slewing = true → s.chip.slewTo r ≤ s.chip.f (Rail.VNOW r) → Ends (.slewTick r) s fun t =>
        t.chip.f (Rail.VNOW r)
          = max (s.chip.slewTo r) (s.chip.f (Rail.VNOW r) - ((s.chip.rail r).acc + s.chip.slewRate r) / 10))
    ∧ (∀ r : Fin 16, (s.chip.rail r).slewing = false → Ends (.uvBlankEnd r) s fun t => (t.chip.rail r).uvBlank = false)
    ∧ (∀ r : Fin 16, (s.chip.rail r).ramping = true → Ends (.railOffComplete r) s fun t =>
        t.chip.f (Rail.OFF_CAUSE r) = 5 ∧ (t.chip.rail r).ramping = false)
    ∧ (∀ r : Fin 16, (s.chip.rail r).uvBelow = true → (s.chip.rail r).uvBlank = false → s.chip.mapped r ≠ [] → s.chip.live r = true → s.chip.f (Rail.OFF_LATCHED r) = 0 →
        s.chip.f (Rail.OV_ACTIVE r) = 0 → (s.chip.rail r).latchPend = 0 → Ends (.railUv r) s fun t =>
        t.chip.f (Rail.OFF_LATCHED r) = 1 ∧ t.chip.f (Rail.OFF_CAUSE r) = 2)
    ∧ (s.chip.f Board.CLAMPED = 1 → 125 ≤ s.chip.rl.overCnt → s.chip.rl.overrun = false →
        Ends .budgetOverrun s fun t => t.chip.rl.overrun = true)

/-- R110: a period boundary hands the clusters the rail's parameters. R341: a rail whose FALLBACK is due passes to the law at the
boundary, out of HOLD. R343: after HOLD_LIM a rail in HOLD is due for FALLBACK. -/
def Sys2Proof.Slice0.PeriodBoundariesTakeOver : Prop :=
  ∀ s : State, Between s →
    (∀ r : Fin 16, Ends (.railPeriodBoundary r) s fun t => (t.chip.rail r).par = s.chip.params r)
    ∧ (∀ r : Fin 16, (s.chip.rail r).fbDue = true → s.chip.f (Rail.FALLBACK r) = 0 → Ends (.fallbackEntry r) s fun t =>
        t.chip.f (Rail.FALLBACK r) = 1 ∧ t.chip.f (Rail.HOLD r) = 0 ∧ (t.chip.rail r).fbDue = false)
    ∧ (∀ (g : Fin 8) (r : Fin 16), s.chip.f (Plane.HOLD_LIMg g) ≠ 0 → s.chip.group r = g → s.chip.f (Rail.HOLD r) = 1 →
        s.chip.f (Rail.FALLBACK r) = 0 → Ends (.holdLimitExpiry g) s fun t => (t.chip.rail r).fbDue = true)

/-- R106, R109, R110, R121, R126, R341, R343, R991: the slew engine, the rail watches and the period boundaries. -/
def Obligations.RailWatchesAndPeriodBoundariesAct : Prop :=
  RailWatchesAndRampsAct ∧ PeriodBoundariesTakeOver


/-! ### Accesses -/

/-- Each command that names one register word is the write of that word at its address: every refusal of R970 and R971 holds for it as
for REGISTER_WRITE. -/
def Obligations.RegisterRowsAreRegisterWrites : Prop :=
  ∀ (s : State) (q : Sender) (d : Word),
    (∀ p : Fin 96, exec (.phaseMapWrite p q d) s = exec (writeTo (Phase.RAIL p).addr q d) s ∧ exec (.dutyWrite p q d) s = exec (writeTo (Phase.TON p).addr q d) s
      ∧ exec (.ocLatchedClear p q) s = exec (writeTo (Phase.OC_LATCHED p).addr q (BitVec.ofNat 32 (2 ^ (Phase.OC_LATCHED p).lo))) s)
    ∧ (∀ r : Fin 16, exec (.vsetWrite r q none d) s = exec (writeTo (Rail.VSET r).addr q d) s ∧ exec (.railEnable r q d) s = exec (writeTo (Rail.EN r).addr q (d ||| 1)) s
      ∧ exec (.railDisable r q d) s = exec (writeTo (Rail.EN r).addr q (d &&& ~~~1)) s ∧ exec (.railRestart r q) s = exec (writeTo (Rail.RESTART r).addr q (1 <<< 31)) s)
    ∧ (exec (.vddgSetWrite q d) s = exec (writeTo Garr.VDDG_SET.addr q d) s ∧ exec (.wdtKick q d) s = exec (writeTo Sw.WDT_KICK.addr q d) s
      ∧ exec (.persistNow q) s = exec (writeTo Skb.PERSIST_NOW.addr q 1) s ∧ exec (.cmdWrite q d) s = exec (writeTo Nvc.CMD_PAGE.addr q d) s
      ∧ exec (.keycmd q d) s = exec (writeTo Img.KEYCMD_SLOT.addr q d) s ∧ exec (.fdata q d) s = exec (writeTo Gcfg.FDATA.addr q d) s
      ∧ exec (.plData q d) s = exec (writeTo Gcfg.PL_DATA.addr q d) s ∧ exec (.warmReset q d) s = exec (writeTo Power.RESET.addr q d) s)
    ∧ (∀ (n : Fin 4) (k : Fin 8), exec (.inData n k q d) s = exec (writeTo (Gport.IN_DATA (gNode n) k).addr q d) s
      ∧ exec (.snapReq n q d) s = exec (writeTo (Gport.SNAP_REQ (gNode n)).addr q d) s)
    ∧ (∀ p : Fin 8, exec (.probeWrite p q d) s = exec (writeTo (Garr.PROBE_VIEW p).addr q d) s ∧ exec (.sample p q d) s = exec (writeTo (Trc.SAMPLE p).addr q d) s
      ∧ exec (.flush p q) s = exec (writeTo (Trc.FLUSH p).addr q 1) s)
    ∧ (∀ r : Fin 4, exec (.eventRingTailWrite r q d) s = exec (writeTo (Seq.EVRr_TAIL r).addr q d) s)
    ∧ (∀ (n : Fin 49) (e : Fin 64), exec (.routeEntryWrite n e q d) s = exec (writeTo (Ni.ROUTEe_HI n e).addr q d) s
      ∧ exec (.nodeRst n q) s = exec (writeTo (Ni.NODE_RST n).addr q 1) s)
    ∧ (∀ t : Fin 28, exec (.iset t q d) s = exec (writeTo (Tile.ISET (tileNode t)).addr q d) s)
    ∧ (∀ n : Fin 16, exec (.mirrorWordWrite n q d) s = exec (writeTo (Sw.base + 0x80 + 4 * n) q d) s)

/-- R233–R237, R970, R987: a fenced node refuses first; then an address off a word, or a register access of more than one whole word;
then an address that holds nothing; then the sender's right. A refused write changes nothing, and its answer says why. -/
def Obligations.WritesAreRefusedInOrder : Prop :=
  ∀ (s : State) (n : Fin 49) (off : BitVec 25) (q : Sender) (be : BitVec 4) (len : Fin 16) (d : Word), Between s → n ≠ 0 →
    (s.chip.fenced n = true → Ends (.registerWrite n off q be len d) s fun t => Refuses s t stFenced)
    ∧ (s.chip.fenced n = false →
      (off.toNat % 4 ≠ 0 ∨ (0x1000000 ≤ off.toNat ∧ (len ≠ 0 ∨ be ≠ 15)) →
        Ends (.registerWrite n off q be len d) s fun t => Refuses s t stAlign)
      ∧ (off.toNat % 4 = 0 → len = 0 → be = 15 → 0x1000000 ≤ off.toNat →
        (blkOf n off.toNat = none → Ends (.registerWrite n off q be len d) s fun t => Refuses s t stAddr)
        ∧ ((blkOf n off.toNat).any (fun x => privOnly x.1) = true → q.priv = false → Ends (.registerWrite n off q be len d) s fun t => Refuses s t stPriv)
        ∧ ((blkOf n off.toNat).any (defaultOnly q) = true → q.priv = false → q.tenant ≠ 0 →
          Ends (.registerWrite n off q be len d) s fun t => Refuses s t stDenied)))

/-- Access codes, R11, R12, R21, R24, R38: where the hardware has updated none of them in the same beat, an RW field takes the value written, and a reserved encoding leaves it; a write-locked field takes
it before SEAL, and under SEAL stays, the write of another value answering SEALED; a field above its sealed ceiling takes the ceiling;
an RO field stays. A W1C field clears where ones are written, but not where the hardware sets it in the same beat. -/
def Obligations.WrittenFieldsFollowTheirAccessCodes : Prop :=
  ∀ (s : State) (q : Sender) (d : Word), Between s → May s 18 q →
    ((∀ a, a ≠ (Ni.ERR_TMO 18).addr → mget 0 s.chip.hwBits a = 0) →
    (∀ p : Fin 48, Ends (writeTo (Sense.IOFS (48 + p)).addr q d) s fun t => t.chip.f (Sense.IOFS (48 + p)) = bits d.toNat 11 0
        ∧ t.chip.f (Sense.IGAIN (48 + p)) = bits d.toNat 31 16 ∧ t.chip.resp = some (stOk, []))
    ∧ (∀ r : Fin 16, Ends (writeTo (Rail.PER r).addr q d) s fun t => t.chip.f (Rail.PER r) = min 102400 (max 8534 (bits d.toNat 16 0)))
    ∧ (∀ r : Fin 16, s.chip.b Power.SEALED = false → Ends (writeTo (Rail.VOUT_MAX r).addr q d) s fun t =>
        t.chip.f (Rail.VOUT_MAX r) = bits d.toNat 11 0 ∧ t.chip.resp = some (stOk, []))
    ∧ (∀ r : Fin 16, s.chip.b Power.SEALED = true → Ends (writeTo (Rail.VOUT_MAX r).addr q d) s fun t =>
        t.chip.f (Rail.VOUT_MAX r) = s.chip.f (Rail.VOUT_MAX r)
        ∧ (bits d.toNat 11 0 ≠ s.chip.f (Rail.VOUT_MAX r) → t.chip.resp = some (stSealed, [])))
    ∧ (∀ r : Fin 16, Ends (writeTo (Rail.ICEIL r).addr q d) s fun t =>
        t.chip.f (Rail.ICEIL r) = min (s.chip.f (Rail.IOUT_MAX r)) (bits d.toNat 31 16))
    ∧ (∀ r : Fin 16, Ends (writeTo (Rail.VSENSE r).addr q d) s fun t => t.chip.f (Rail.VSENSE r) = s.chip.f (Rail.VSENSE r)
        ∧ t.chip.f (Rail.IRAIL r) = s.chip.f (Rail.IRAIL r))
    ∧ (∀ r : Fin 16, bits d.toNat 4 1 = 3 → Ends (writeTo (Rail.SP_OWNER r).addr q d) s fun t =>
        t.chip.f (Rail.SP_OWNER r) = s.chip.f (Rail.SP_OWNER r)))
    ∧ (MayPriv s 18 q → Ends (writeTo (Ni.ERR_TMO 18).addr q d) s fun t =>
        t.chip.f (Ni.ERR_TMO 18) = if bit d.toNat (Ni.ERR_TMO 18).lo = true ∧ bit (mget 0 s.chip.hwBits (Ni.ERR_TMO 18).addr) (Ni.ERR_TMO 18).lo = false
          then 0 else s.chip.f (Ni.ERR_TMO 18))

/-- R8, R233, R235, R372, R965: a write to DMEM or SRAM stores its words, the lowest byte at the lowest address, and no other byte, after what
the tile itself has stored by then (R304, R446). -/
def Sys2Proof.Slice0.MemoryWritesStoreTheirWords : Prop :=
  ∀ (s : State) (n : Fin 49) (off : BitVec 25) (q : Sender) (ws : List Word), Between s → May s n q →
    (memKind n off.toNat = some .dmem ∨ memKind n off.toNat = some .sram) → off.toNat % 4 = 0 → 0 < ws.length →
    off.toNat % 64 + 4 * ws.length ≤ 64 → Ends (.memoryAccess n off q true 15 ws) s fun t =>
      t.chip.resp = some (stOk, [])
      ∧ (∀ i (h : i < ws.length), t.chip.bytesAt (gAddr n off.toNat + 4 * i) 4 = ws[i].toNat)
      ∧ (∀ a, (a < gAddr n off.toNat ∨ gAddr n off.toNat + 4 * ws.length ≤ a) → t.chip.byte a = (seenAt s n off).byte a)
      ∧ (∀ a, t.chip.reg a = (seenAt s n off).reg a) ∧ (Safety.memSound s → Safety.memSound t)

/-- R235: a partial write stores the bytes that BE names. -/
def Sys2Proof.Slice0.PartialWritesStoreTheirBytes : Prop :=
  ∀ (s : State) (n : Fin 49) (off : BitVec 25) (q : Sender) (be : BitVec 4) (w : Word), Between s → May s n q →
    (memKind n off.toNat = some .dmem ∨ memKind n off.toNat = some .sram) → off.toNat % 4 = 0 → (seenAt s n off).eccAt (gAddr n off.toNat) = 0 →
    Ends (.memoryAccess n off q true be [w]) s fun t => t.chip.resp = some (stOk, [])
      ∧ (∀ k : Fin 4, t.chip.byte (gAddr n off.toNat + k) =
          if bit be.toNat k then BitVec.ofNat 8 (w.toNat / 2 ^ (8 * k.val)) else (seenAt s n off).byte (gAddr n off.toNat + k))
      ∧ (∀ a, (a < gAddr n off.toNat ∨ gAddr n off.toNat + 4 ≤ a) → t.chip.byte a = (seenAt s n off).byte a)

/-- R8, R233, R235, R372, R965: whole and partial writes of memory. -/
def Obligations.MemoryWritesStoreTheirBytes : Prop :=
  MemoryWritesStoreTheirWords ∧ PartialWritesStoreTheirBytes

/-- R235, R304, R372, R965: a read of DMEM or SRAM answers the words, with what the tile has stored by then, and changes nothing where all are
good; a single-bit error is corrected
and counted; an uncorrectable word answers DATA_ERR. -/
def Obligations.MemoryReadsAnswerTheirWords : Prop :=
  ∀ (s : State) (n : Fin 49) (off : BitVec 25) (q : Sender) (ws : List Word), Between s → May s n q → off.toNat % 4 = 0 →
    0 < ws.length → off.toNat % 64 + 4 * ws.length ≤ 64 →
    ((memKind n off.toNat = some .dmem ∨ memKind n off.toNat = some .sram) →
      (∀ i, i < ws.length → (seenAt s n off).eccAt (gAddr n off.toNat + 4 * i) = 0) → Ends (.memoryAccess n off q false 15 ws) s fun t =>
        t = { s with chip := { seenAt s n off with resp := some (stOk,
          (List.range ws.length).map (fun i => BitVec.ofNat 32 ((seenAt s n off).bytesAt (gAddr n off.toNat + 4 * i) 4))) } })
    ∧ (memKind n off.toNat = some .dmem → ws.length = 1 → (seenAt s n off).eccAt (gAddr n off.toNat) = 1 →
      Ends (.memoryAccess n off q false 15 ws) s fun t => t.chip.eccAt (gAddr n off.toNat) = 0
        ∧ t.chip.f (Tile.ECC_CORR n) = min 65535 (s.chip.f (Tile.ECC_CORR n) + 1)
        ∧ t.chip.resp = some (stOk, [BitVec.ofNat 32 ((seenAt s n off).bytesAt (gAddr n off.toNat) 4)]))
    ∧ (memKind n off.toNat = some .dmem → ws.length = 1 → (seenAt s n off).eccAt (gAddr n off.toNat) = 2 →
      Ends (.memoryAccess n off q false 15 ws) s fun t => t.chip.resp = some (stData, [])
        ∧ t.chip.f (Tile.ECC_UNCORR n) = min 65535 (s.chip.f (Tile.ECC_UNCORR n) + 1))

/-! ### Writes to rails and phases -/

/-- R36 and R47: a map change waits in the cluster. R88: a duty waits 4 beats. R123, R152: OC_LATCHED clears and the trip count starts
again. R104, R105: VSET takes its owner's value, clamped to VOUT_MAX; another source is NOT_OWNER and changes nothing. R108, R109: EN
starts the rail or the ramp down. R129: RESTART clears the latch, its cause and the count, and where the bus is low still the rail latches
again at once. The writes find no update by the hardware in the same beat (R21, R22), nor an AVSBus write of the rail's VSET. -/
def Obligations.WritesActOnRailsAndPhases : Prop :=
  ∀ (s : State) (q : Sender) (d : Word), Between s → NoUpdate s → (∀ r : Fin 16, (mget {} s.chip.rl.vset r.val).beat ≠ s.chip.clock + 1) →
    (∀ p : Fin 96, May s (clusterNode (p / 16)) q → bits d.toNat 5 4 ≠ 3 → Ends (.phaseMapWrite p q d) s fun t =>
        (t.chip.phase p).pend = some (bits d.toNat 3 0, bits d.toNat 5 4) ∧ t.chip.resp = some (stOk, []))
    ∧ (∀ p : Fin 96, May s (clusterNode (p / 16)) q → s.chip.shadow = false → Ends (.dutyWrite p q d) s fun t =>
        t.chip.f (Phase.TON p) = bits d.toNat 16 0 ∧ (t.chip.phase p).duty.getLast? = some (s.chip.clock, bits d.toNat 16 0))
    ∧ (∀ p : Fin 96, May s (clusterNode (p / 16)) q → s.chip.f (Phase.OC_LATCHED p) = 1 → Ends (.ocLatchedClear p q) s fun t =>
        t.chip.f (Phase.OC_LATCHED p) = 0 ∧ (t.chip.phase p).trips = 0)
    ∧ (∀ r : Fin 16, May s 18 q → s.chip.f (Rail.SP_OWNER r) = 0 → q.tenant = 0 → Ends (.vsetWrite r q none d) s fun t =>
        t.chip.f (Rail.VSET r) = min (s.chip.f (Rail.VOUT_MAX r)) (bits d.toNat 11 0) ∧ t.chip.resp = some (stOk, []))
    ∧ (∀ r : Fin 16, MayPriv s 18 q → forAvs q = false → (s.chip.f (Rail.SP_OWNER r) ≠ 0 ∨ q.tenant ≠ 0) →
        Ends (.vsetWrite r q none d) s fun t => Refuses s t stNotOwner)
    ∧ (∀ (r : Fin 16) (p : Fin 8), s.chip.fenced 18 = false → s.chip.f (Rail.SP_OWNER r) = 8 + p →
        Ends (.vsetWrite r q (some p) d) s fun t =>
          t.chip.f (Rail.VSET r) = min (s.chip.f (Rail.VOUT_MAX r)) (bits d.toNat 11 0) ∧ t.chip.resp = some (stOk, []))
    ∧ (∀ r : Fin 16, May s 18 q → s.chip.f (Rail.EN r) = 0 → s.chip.b Power.SEALED = true → s.chip.f Power.STATE = 0 →
        Ends (.railEnable r q d) s fun t => t.chip.f (Rail.EN r) = 1 ∧ (t.chip.rail r).ramping = false ∧ t.chip.live r = !(s.chip.rail r).off)
    ∧ (∀ r : Fin 16, May s 18 q → s.chip.f (Rail.EN r) = 1 → (s.chip.rail r).off = false → s.chip.f (Rail.OFF_LATCHED r) = 0 →
        Ends (.railDisable r q d) s fun t => t.chip.f (Rail.EN r) = 0 ∧ (t.chip.rail r).ramping = true)
    ∧ (∀ r : Fin 16, s.chip.fenced 18 = false → forAvs q = true → 8 ≤ s.chip.f (Rail.SP_OWNER r) →
        (s.chip.f (Rail.SP_OWNER r) - 8) / 2 + 3 = q.tenant.val → Ends (.vsetWrite r q none d) s fun t =>
          t.chip.f (Rail.VSET r) = min (s.chip.f (Rail.VOUT_MAX r)) (bits d.toNat 11 0) ∧ t.chip.resp = some (stOk, []))
    ∧ (∀ r : Fin 16, May s 18 q → s.chip.causeHeld r = false → Ends (.railRestart r q) s fun t =>
        t.chip.f (Rail.OFF_LATCHED r) = 0 ∧ t.chip.f (Rail.OV_COUNT r) = 0 ∧ t.chip.f (Rail.OFF_CAUSE r) = 0)
    ∧ (∀ r : Fin 16, May s 18 q → s.chip.rl.busLow = 2 → s.chip.f (Rail.EN r) = 1 → s.chip.f Power.STATE = 0 →
        (s.chip.rail r).off = false → s.chip.f (Rail.OV_ACTIVE r) = 0 → Ends (.railRestart r q) s fun t =>
        t.chip.f (Rail.OFF_LATCHED r) = 1 ∧ t.chip.f (Rail.OFF_CAUSE r) = 3)

/-! ### Easel tiles -/

namespace Sys2Proof.Slice0

/-- g[n] of tile `t`: 32 bits (R376). -/
def gReg (s : State) (t : Fin 28) (n : BitVec 5) : BitVec 32 := BitVec.ofNat 32 ((s.chip.tile t).reg n.toNat)

/-- a[n] of tile `t`: 64 bits (R376). -/
def aReg (s : State) (t : Fin 28) (n : BitVec 2) : BitVec 64 := BitVec.ofNat 64 ((s.chip.tile t).reg (32 + n.toNat))

/-- sat(v, n) and usat(v, n) of R18. -/
def satI (n : Nat) (v : Int) : Int := max (-2 ^ (n - 1)) (min (2 ^ (n - 1) - 1) v)
@[inherit_doc satI] def usatI (n : Nat) (v : Int) : Int := max 0 (min (2 ^ n - 1) v)

/-- The low 16 bits of g[n] as a signed number, the Q1.15 operand (R426). -/
def q15 (s : State) (t : Fin 28) (n : BitVec 5) : Int := ((gReg s t n).setWidth 16).toInt

/-- The beat in which tile `t` issues when nothing earlier is under way in it: plane beats for an E tile (R384, R385). -/
def issuesAt (s : State) (t : Fin 28) : Nat := if isP t then max s.chip.clock (s.chip.tile t).nextIssue else s.chip.pl.abs

/-- Tile `t` may issue, nothing earlier is under way in it, and its fetch meets no exception and no ECC error. -/
abbrev Ready (s : State) (t : Fin 28) : Prop :=
  Between s ∧ s.chip.canIssue t = true ∧ (s.chip.tile t).pend = [] ∧ (s.chip.tile t).glz = [] ∧ s.chip.fetchExc t = []
    ∧ s.chip.eccAt (imemAddr t (s.chip.tile t).pc) = 0

/-- The words of node `n` that the issue of an instruction may change: its counters (R746), and its NI's error words where a
counter's event finds no room. -/
def IssueRegs (n a : Nat) : Prop := NiErr n a ∨ (niBase n + 0x600 ≤ a ∧ a < niBase n + 0x640)

/-- What the issue of an instruction of tile `t` leaves: other tiles, all memory, every register word outside `IssueRegs`. -/
def TileFrame (s u : State) (t : Fin 28) : Prop :=
  (∀ k, k ≠ t.val → u.chip.tile k = s.chip.tile k) ∧ SameMemory s u ∧ SameRegsBut (IssueRegs (tileNode t)) s u

/-- The PC goes on to the next word, where no hardware loop is open. -/
def GoesOn (s u : State) (t : Fin 28) : Prop :=
  (s.chip.tile t).ldepth = 0 → (u.chip.tile t).pc = ((s.chip.tile t).pc + 4) % 65536

/-- Register `rd` (g0–g31, a0–a3 at 32–35) takes `v`, `lat` beats after the issue and not before, and no other register changes; a
write to g0 is discarded (R376, R379). -/
def Lands (s u : State) (t : Fin 28) (rd lat v : Nat) : Prop :=
  ∀ L n, ((u.chip.settle t L).tile t).reg n = if n = rd ∧ rd ≠ 0 ∧ issuesAt s t + lat ≤ L then v else (s.chip.tile t).reg n

/-- The instruction computes: `rd` takes `v` after `lat` beats, FLAGS.SAT is set with it where `sat`, and nothing else changes. -/
def Computes (i : Instr) (s : State) (t : Fin 28) (rd lat v : Nat) (sat : Bool) : Prop :=
  Ends i s fun u => Lands s u t rd lat v
    ∧ (∀ L, ((u.chip.settle t L).tile t).sat = ((s.chip.tile t).sat || (sat && decide (issuesAt s t + lat ≤ L))))
    ∧ GoesOn s u t ∧ TileFrame s u t

/-- A saturating result of `n` bits in register `rd`. -/
def Saturates (i : Instr) (s : State) (t : Fin 28) (rd : BitVec 5) (lat n : Nat) (v : Int) : Prop :=
  Computes i s t rd.toNat lat (BitVec.ofInt 32 (satI n v)).toNat (satI n v != v)

/-- A result that goes into an accumulator. -/
def Accumulates (i : Instr) (s : State) (t : Fin 28) (ad : BitVec 2) (v : Int) : Prop :=
  Computes i s t (32 + ad.toNat) 3 (BitVec.ofInt 64 (satI 64 v)).toNat (satI 64 v != v)

end Sys2Proof.Slice0

/-- R433, R434, R376, R379: the results of the ALU group with two register operands, one beat after the issue. -/
def Sys2Proof.Slice0.AluResultsOfTwoRegisters : Prop :=
  ∀ (s : State) (t : Fin 28) (rd rs1 rs2 : BitVec 5), Ready s t → ∀ a, a = gReg s t rs1 → ∀ b, b = gReg s t rs2 →
    Computes (.add t rd rs1 rs2) s t rd.toNat 1 (a + b).toNat false
    ∧ Saturates (.addS t rd rs1 rs2) s t rd 1 32 (a.toInt + b.toInt)
    ∧ Computes (.sub t rd rs1 rs2) s t rd.toNat 1 (a - b).toNat false
    ∧ Saturates (.subS t rd rs1 rs2) s t rd 1 32 (a.toInt - b.toInt)
    ∧ Computes (.and_ t rd rs1 rs2) s t rd.toNat 1 (a &&& b).toNat false
    ∧ Computes (.or_ t rd rs1 rs2) s t rd.toNat 1 (a ||| b).toNat false
    ∧ Computes (.xor_ t rd rs1 rs2) s t rd.toNat 1 (a ^^^ b).toNat false
    ∧ Computes (.sll t rd rs1 rs2) s t rd.toNat 1 (a <<< (b.toNat % 32)).toNat false
    ∧ Computes (.srl t rd rs1 rs2) s t rd.toNat 1 (a >>> (b.toNat % 32)).toNat false
    ∧ Computes (.sra t rd rs1 rs2) s t rd.toNat 1 (a.sshiftRight (b.toNat % 32)).toNat false
    ∧ Computes (.slt t rd rs1 rs2) s t rd.toNat 1 (if a.toInt < b.toInt then 1 else 0) false
    ∧ Computes (.sltu t rd rs1 rs2) s t rd.toNat 1 (if a.toNat < b.toNat then 1 else 0) false
    ∧ Computes (.min t rd rs1 rs2) s t rd.toNat 1 (if b.toInt < a.toInt then b else a).toNat false
    ∧ Computes (.max t rd rs1 rs2) s t rd.toNat 1 (if a.toInt < b.toInt then b else a).toNat false
    ∧ Computes (.minU t rd rs1 rs2) s t rd.toNat 1 (min a.toNat b.toNat) false
    ∧ Computes (.maxU t rd rs1 rs2) s t rd.toNat 1 (max a.toNat b.toNat) false

/-- R433–R435: the results of the ALU group with one register operand, and of the immediates. ABS saturates the most negative number;
CLZ counts 32 zeros of 0. -/
def Sys2Proof.Slice0.AluResultsOfOneRegister : Prop :=
  ∀ (s : State) (t : Fin 28) (rd rs1 k : BitVec 5) (imm : BitVec 16), Ready s t → ∀ a, a = gReg s t rs1 →
    Computes (.slli t rd rs1 k) s t rd.toNat 1 (a <<< k.toNat).toNat false
    ∧ Computes (.srli t rd rs1 k) s t rd.toNat 1 (a >>> k.toNat).toNat false
    ∧ Computes (.srai t rd rs1 k) s t rd.toNat 1 (a.sshiftRight k.toNat).toNat false
    ∧ Saturates (.abs t rd rs1 0) s t rd 1 32 a.toInt.natAbs
    ∧ Computes (.clz t rd rs1 0) s t rd.toNat 1 (if a = 0 then 32 else 31 - a.toNat.log2) false
    ∧ Saturates (.sat t rd rs1 k) s t rd 1 (k.toNat + 1) a.toInt
    ∧ Computes (.satU t rd rs1 k) s t rd.toNat 1 (usatI (k.toNat + 1) a.toInt).toNat (usatI (k.toNat + 1) a.toInt != a.toInt)
    ∧ Computes (.addi t rd rs1 imm) s t rd.toNat 1 (a + imm.signExtend 32).toNat false
    ∧ Computes (.andi t rd rs1 imm) s t rd.toNat 1 (a &&& imm.setWidth 32).toNat false
    ∧ Computes (.ori t rd rs1 imm) s t rd.toNat 1 (a ||| imm.setWidth 32).toNat false
    ∧ Computes (.xori t rd rs1 imm) s t rd.toNat 1 (a ^^^ imm.setWidth 32).toNat false
    ∧ Computes (.lui t rd 0 imm) s t rd.toNat 1 (imm.toNat * 65536) false

/-- R433–R435, R376, R379: the results of the ALU group and of the immediates, one beat after the issue. -/
def Obligations.AluResults : Prop :=
  AluResultsOfTwoRegisters ∧ AluResultsOfOneRegister

/-- R427, R436–R439: products, the accumulators, and their reads and writes. A product lands after 3 beats; .R rounds to nearest even,
without .R the quotient is rounded down. -/
def Sys2Proof.Slice0.MultiplyResults : Prop :=
  ∀ (s : State) (t : Fin 28) (rd rs1 rs2 : BitVec 5), Ready s t → ∀ a, a = gReg s t rs1 → ∀ b, b = gReg s t rs2 →
    Computes (.mul t rd rs1 rs2) s t rd.toNat 3 (a * b).toNat false
    ∧ Computes (.mulh t rd rs1 rs2) s t rd.toNat 3 (BitVec.ofInt 32 (a.toInt * b.toInt / 2 ^ 32)).toNat false
    ∧ Computes (.mulhU t rd rs1 rs2) s t rd.toNat 3 (a.toNat * b.toNat / 2 ^ 32) false
    ∧ Saturates (.mulq15 t rd rs1 rs2) s t rd 3 16 (q15 s t rs1 * q15 s t rs2 / 2 ^ 15)
    ∧ Saturates (.mulq15R t rd rs1 rs2) s t rd 3 16 (rneDiv (q15 s t rs1 * q15 s t rs2) (2 ^ 15))
    ∧ Saturates (.mulq31 t rd rs1 rs2) s t rd 3 32 (a.toInt * b.toInt / 2 ^ 31)
    ∧ Saturates (.mulq31R t rd rs1 rs2) s t rd 3 32 (rneDiv (a.toInt * b.toInt) (2 ^ 31))

@[inherit_doc Sys2Proof.Slice0.MultiplyResults] def Sys2Proof.Slice0.AccumulatorResults : Prop :=
  ∀ (s : State) (t : Fin 28) (rd rs1 rs2 k : BitVec 5) (m : BitVec 2), Ready s t →
    ∀ a, a = gReg s t rs1 → ∀ b, b = gReg s t rs2 → ∀ v, v = aReg s t m →
    Accumulates (.macq15 t 0 m rs1 rs2) s t m (v.toInt + q15 s t rs1 * q15 s t rs2 * 2 ^ 17)
    ∧ Accumulates (.macq31 t 0 m rs1 rs2) s t m (v.toInt + a.toInt * b.toInt / 2 ^ 15)
    ∧ Accumulates (.macq31R t 0 m rs1 rs2) s t m (v.toInt + rneDiv (a.toInt * b.toInt) (2 ^ 15))
    ∧ Accumulates (.msuq15 t 0 m rs1 rs2) s t m (v.toInt - q15 s t rs1 * q15 s t rs2 * 2 ^ 17)
    ∧ Accumulates (.msuq31 t 0 m rs1 rs2) s t m (v.toInt - a.toInt * b.toInt / 2 ^ 15)
    ∧ Accumulates (.msuq31R t 0 m rs1 rs2) s t m (v.toInt - rneDiv (a.toInt * b.toInt) (2 ^ 15))
    ∧ Saturates (.accrQ31 t rd 0 m 0 k 0) s t rd 3 32 (v.toInt * 2 ^ k.toNat / 2 ^ 16)
    ∧ Saturates (.accrQ31 t rd 0 m 0 k 1) s t rd 3 32 (rneDiv (v.toInt * 2 ^ k.toNat) (2 ^ 16))
    ∧ Saturates (.accrQ15 t rd 0 m 0 k 0) s t rd 3 16 (v.toInt * 2 ^ k.toNat / 2 ^ 32)
    ∧ Saturates (.accrQ15 t rd 0 m 0 k 1) s t rd 3 16 (rneDiv (v.toInt * 2 ^ k.toNat) (2 ^ 32))
    ∧ Computes (.accrHi t rd 0 m 0 0) s t rd.toNat 3 (v.toNat / 2 ^ 32) false
    ∧ Computes (.accrLo t rd 0 m 0 0) s t rd.toNat 3 (v.toNat % 2 ^ 32) false
    ∧ Computes (.accwPair t 0 m rs1 rs2 0) s t (32 + m.toNat) 1 (b.toNat * 2 ^ 32 + a.toNat) false
    ∧ Computes (.accwQ31 t 0 m rs1 0 0) s t (32 + m.toNat) 1 (BitVec.ofInt 64 (a.toInt * 2 ^ 16)).toNat false
    ∧ Computes (.accwQ15 t 0 m rs1 0 0) s t (32 + m.toNat) 1 (BitVec.ofInt 64 (q15 s t rs1 * 2 ^ 32)).toNat false
    ∧ Computes (.accz t 0 m 0 0) s t (32 + m.toNat) 1 0 false

/-- R427, R436–R439: products, the accumulators, and their reads and writes. -/
def Obligations.MultiplyAndAccumulatorResults : Prop :=
  MultiplyResults ∧ AccumulatorResults

namespace Sys2Proof.Slice0

/-- The address of a load or store: g[rs1] plus the sign-extended offset (R442). -/
def loadAddr (s : State) (t : Fin 28) (rs1 : BitVec 5) (imm : BitVec 16) : Nat := (gReg s t rs1 + imm.signExtend 32).toNat

/-- A read of `n` bytes of DMEM at `a` meets no exception (R442, R447): aligned, inside, allowed, and its word good. -/
abbrev Readable (s : State) (t : Fin 28) (a n : Nat) : Prop :=
  a % n = 0 ∧ a + n - 1 < dmemSize t ∧ s.chip.prot t 1 a 0 = true ∧ s.chip.eccAt (dmemAddr t a) = 0

/-- The same for a store. -/
abbrev Writable (s : State) (t : Fin 28) (a n : Nat) : Prop :=
  a % n = 0 ∧ a + n - 1 < dmemSize t ∧ s.chip.prot t 1 a 1 = true ∧ s.chip.eccAt (dmemAddr t a) = 0

/-- A store of the `n` low bytes of g[rt] lands 2 beats after the issue and not before: the bytes from the store's address take them,
lowest first, and every other byte is as before; no register changes. -/
def Stores (i : Instr) (s : State) (t : Fin 28) (rt rs1 : BitVec 5) (imm : BitVec 16) (n : Nat) : Prop :=
  Ends i s fun u =>
    (∀ L a, (u.chip.settle t L).byte a =
      if issuesAt s t + 2 ≤ L ∧ dmemAddr t (loadAddr s t rs1 imm) ≤ a ∧ a < dmemAddr t (loadAddr s t rs1 imm) + n then
        BitVec.ofNat 8 ((gReg s t rt).toNat / 256 ^ (a - dmemAddr t (loadAddr s t rs1 imm)))
      else s.chip.byte a)
    ∧ (∀ L k, ((u.chip.settle t L).tile t).reg k = (s.chip.tile t).reg k) ∧ GoesOn s u t ∧ TileFrame s u t

/-- A jump to `a`: the PC takes it, the next issue comes 2 beats after. -/
def Jumps (s u : State) (t : Fin 28) (a : Int) : Prop :=
  (u.chip.tile t).pc = (BitVec.ofInt 32 a).toNat % 65536 ∧ (u.chip.tile t).nextIssue = issuesAt s t + 2

/-- A jump target that meets no exception (R461): a word of the tile's IMEM. -/
abbrev Target (t : Fin 28) (a : Int) : Prop := a % 4 = 0 ∧ 0 ≤ a ∧ a < imemSize t

/-- A conditional branch: taken, it jumps; not taken, it goes on, with the next issue one beat after. Nothing else changes. -/
def Branches (i : Instr) (s : State) (t : Fin 28) (imm : BitVec 16) (cond : Prop) : Prop :=
  (cond → Target t ((s.chip.tile t).pc + 4 * imm.toInt) → Ends i s fun u =>
    Jumps s u t ((s.chip.tile t).pc + 4 * imm.toInt) ∧ (∀ n, (u.chip.tile t).reg n = (s.chip.tile t).reg n) ∧ TileFrame s u t)
  ∧ (¬ cond → Ends i s fun u => GoesOn s u t ∧ (u.chip.tile t).nextIssue = issuesAt s t + 1
      ∧ (∀ n, (u.chip.tile t).reg n = (s.chip.tile t).reg n) ∧ TileFrame s u t)

/-- Entry `i` of tile `t`'s slot table is the TX entry of a selector at the next plane beat (R317). -/
abbrev NextEntry (s : State) (t : Fin 28) (sel i : Nat) : Prop :=
  s.chip.txEntry (tileNode t) (s.chip.beatPlus (s.chip.f Plane.PBEAT) 1) sel = some i

/-- The tile is an E tile, which runs the SCHED mode; a P tile; a P tile in its SUPER mode (R386). -/
abbrev isE (t : Fin 28) : Prop := isP t = false
@[inherit_doc isE] abbrev inSuper (s : State) (t : Fin 28) : Prop := isP t = true ∧ (s.chip.tile t).user = false

/-- The node asks its network interface to send one more request. -/
def Asks (s u : State) (n : Nat) (P : Pkt → Prop) : Prop :=
  ∃ k, (u.chip.ni n).asks = (s.chip.ni n).asks ++ [k] ∧ P k.pkt

/-- A system register takes a value 2 beats after the MTS issues (R392, R494). -/
def TakesTwoLater {α : Type} (s u : State) (t : Fin 28) (f : Tile → α) (v : α) : Prop :=
  ∀ L, issuesAt s t + 2 ≤ L → f ((u.chip.settle t L).tile t) = v

end Sys2Proof.Slice0

/-- R442–R444: loads of words, and of signed and unsigned parts, land 2 beats after the issue; the lowest byte lies lowest (R7). -/
def Sys2Proof.Slice0.LoadsLandTheirBytes : Prop :=
  ∀ (s : State) (t : Fin 28) (rd rs1 : BitVec 5) (imm : BitVec 16), Ready s t → ∀ a, a = loadAddr s t rs1 imm →
    (Readable s t a 4 → Computes (.ldw t rd rs1 imm) s t rd.toNat 2 (s.chip.bytesAt (dmemAddr t a) 4) false)
    ∧ (Readable s t a 2 → Computes (.ldhu t rd rs1 imm) s t rd.toNat 2 (s.chip.bytesAt (dmemAddr t a) 2) false
      ∧ Computes (.ldh t rd rs1 imm) s t rd.toNat 2
          ((BitVec.ofNat 16 (s.chip.bytesAt (dmemAddr t a) 2)).signExtend 32).toNat false)
    ∧ (Readable s t a 1 → Computes (.ldbu t rd rs1 imm) s t rd.toNat 2 (s.chip.byte (dmemAddr t a)).toNat false
      ∧ Computes (.ldb t rd rs1 imm) s t rd.toNat 2 ((s.chip.byte (dmemAddr t a)).signExtend 32).toNat false)

/-- R442, R445, R446: stores of words and of parts land 2 beats after the issue. -/
def Sys2Proof.Slice0.StoresLandTheirBytes : Prop :=
  ∀ (s : State) (t : Fin 28) (rt rs1 : BitVec 5) (imm : BitVec 16), Ready s t → ∀ a, a = loadAddr s t rs1 imm →
    (Writable s t a 4 → Stores (.stw t rt rs1 imm) s t rt rs1 imm 4)
    ∧ (Writable s t a 2 → Stores (.sth t rt rs1 imm) s t rt rs1 imm 2)
    ∧ (Writable s t a 1 → Stores (.stb t rt rs1 imm) s t rt rs1 imm 1)

/-- R442–R446: loads and stores. -/
def Obligations.LoadsAndStoresMoveBytes : Prop :=
  LoadsLandTheirBytes ∧ StoresLandTheirBytes

/-- R440: TBLI interpolates between two neighbouring entries of a table of signed halfwords; the result lands after 4 beats. -/
def Obligations.TableInterpolates : Prop :=
  ∀ (s : State) (t : Fin 28) (rd rs1 rs2 : BitVec 5) (r sg : BitVec 1) (k : BitVec 4), Ready s t → 1 ≤ k.toNat → k.toNat ≤ 12 →
    ∀ v, v = (if sg = 1 then ((gReg s t rs1).toNat % 65536 + 32768) % 65536 else (gReg s t rs1).toNat % 65536) →
    ∀ a, a = ((gReg s t rs2).toNat + 2 * (v / 2 ^ (16 - k.toNat))) % 2 ^ 32 → ∀ b, b = (a + 2) % 2 ^ 32 →
    Readable s t a 2 → Readable s t b 2 →
    ∀ y0, y0 = (BitVec.ofNat 16 (s.chip.bytesAt (dmemAddr t a) 2)).toInt → ∀ y1, y1 = (BitVec.ofNat 16 (s.chip.bytesAt (dmemAddr t b) 2)).toInt →
    Computes (.tbli t rd rs1 rs2 0 r sg k) s t rd.toNat 4
      (BitVec.ofInt 32 (y0 + if r = 1 then rneDiv ((y1 - y0) * (v % 2 ^ (16 - k.toNat) : Nat)) (2 ^ (16 - k.toNat))
        else (y1 - y0) * (v % 2 ^ (16 - k.toNat) : Nat) / 2 ^ (16 - k.toNat))).toNat false

/-- R458, R459: the six conditional branches. -/
def Sys2Proof.Slice0.BranchesCompareTheirRegisters : Prop :=
  ∀ (s : State) (t : Fin 28) (rs2 rs1 : BitVec 5) (imm : BitVec 16), Ready s t → ∀ a, a = gReg s t rs1 → ∀ b, b = gReg s t rs2 →
    Branches (.beq t rs2 rs1 imm) s t imm (a = b)
    ∧ Branches (.bne t rs2 rs1 imm) s t imm (a ≠ b)
    ∧ Branches (.blt t rs2 rs1 imm) s t imm (a.toInt < b.toInt)
    ∧ Branches (.bge t rs2 rs1 imm) s t imm (b.toInt ≤ a.toInt)
    ∧ Branches (.bltu t rs2 rs1 imm) s t imm (a.toNat < b.toNat)
    ∧ Branches (.bgeu t rs2 rs1 imm) s t imm (b.toNat ≤ a.toNat)

/-- R460–R463, R390: JAL and JALR keep the address after them and jump; LOOP opens a level, or with a count of 0 jumps past the loop's
end; at the end of the innermost level the PC goes back to its start while its count is above 1. -/
def Sys2Proof.Slice0.JumpsAndLoopsMoveThePc : Prop :=
  ∀ (s : State) (t : Fin 28) (rd rs1 : BitVec 5) (imm : BitVec 16), Ready s t →
    (Target t ((s.chip.tile t).pc + 4 * imm.toInt) → Ends (.jal t rd 0 imm) s fun u =>
      Jumps s u t ((s.chip.tile t).pc + 4 * imm.toInt) ∧ Lands s u t rd.toNat 1 (((s.chip.tile t).pc + 4) % 2 ^ 32) ∧ TileFrame s u t)
    ∧ (Target t (loadAddr s t rs1 imm) → Ends (.jalr t rd rs1 imm) s fun u =>
      Jumps s u t (loadAddr s t rs1 imm) ∧ Lands s u t rd.toNat 1 (((s.chip.tile t).pc + 4) % 2 ^ 32) ∧ TileFrame s u t)
    ∧ (imm ≠ 0 → (s.chip.tile t).pc + 4 * imm.toNat < imemSize t → (s.chip.tile t).ldepth = 0 → (gReg s t rs1).toNat ≠ 0 →
      Ends (.loop t 0 rs1 imm) s fun u => (u.chip.tile t).ldepth = 1 ∧ (u.chip.tile t).lc0 = (gReg s t rs1).toNat
        ∧ (u.chip.tile t).ls0 = ((s.chip.tile t).pc + 4) % 65536 ∧ (u.chip.tile t).le0 = (s.chip.tile t).pc + 4 * imm.toNat
        ∧ (u.chip.tile t).pc = ((s.chip.tile t).pc + 4) % 65536 ∧ TileFrame s u t)
    ∧ (imm ≠ 0 → (s.chip.tile t).pc + 4 * imm.toNat < imemSize t → (s.chip.tile t).ldepth < 2 → gReg s t rs1 = 0 →
      Ends (.loop t 0 rs1 imm) s fun u => Jumps s u t ((s.chip.tile t).pc + 4 * imm.toNat + 4)
        ∧ (u.chip.tile t).ldepth = (s.chip.tile t).ldepth ∧ TileFrame s u t)
    ∧ ((s.chip.tile t).ldepth = 1 → (s.chip.tile t).pc = (s.chip.tile t).le0 → 1 < (s.chip.tile t).lc0 →
      Ends (.addi t rd rs1 imm) s fun u => (u.chip.tile t).pc = (s.chip.tile t).ls0 ∧ (u.chip.tile t).lc0 = (s.chip.tile t).lc0 - 1
        ∧ (u.chip.tile t).ldepth = 1)
    ∧ ((s.chip.tile t).ldepth = 1 → (s.chip.tile t).pc = (s.chip.tile t).le0 → (s.chip.tile t).lc0 = 1 →
      Ends (.addi t rd rs1 imm) s fun u => (u.chip.tile t).pc = ((s.chip.tile t).pc + 4) % 65536 ∧ (u.chip.tile t).ldepth = 0)

/-- R458–R463, R390: branches, jumps and the hardware loop. -/
def Obligations.BranchesJumpsAndLoopsMoveThePc : Prop :=
  BranchesCompareTheirRegisters ∧ JumpsAndLoopsMoveThePc

/-- R465–R473, R317: an E tile's slot and Glaze-port instructions act under the TX entry of the next plane beat: the DATA that the
entry will carry is staged; SLOTRX reads what a channel received last, a delivery due in its beat among it (R313, R362); GLZRD notes when its answer lands. -/
def Sys2Proof.Slice0.SlotInstructionsUseTheNextEntry : Prop :=
  ∀ (s : State) (t : Fin 28) (rd rs1 : BitVec 5) (i : Fin 64), Ready s t → isE t →
    (rs1.toNat ≤ 30 → NextEntry s t 0 i → s.chip.f (Slot.LEN2 (tileNode t) i) = 0 → Ends (.slottx t 0 rs1 0 0 0) s fun u =>
      mget 0 (u.chip.tile t).stage i = (s.chip.tile t).reg rs1.toNat + (s.chip.tile t).reg (rs1.toNat + 1) * 2 ^ 32 + 1
      ∧ GoesOn s u t ∧ TileFrame s u t)
    ∧ (rs1.toNat ≤ 26 → NextEntry s t 0 i → s.chip.f (Slot.LEN2 (tileNode t) i) = 1 → Ends (.slottx t 0 rs1 0 0 1) s fun u =>
      mget 0 (u.chip.tile t).stage i = sumN 6 (fun j => (s.chip.tile t).reg (rs1.toNat + j) * 2 ^ (32 * j)) + 1)
    ∧ (∀ (hi : BitVec 1) (ch : BitVec 6), Computes (.slotrx t rd 0 0 hi ch) s t rd.toNat 2
      (s.chip.rxNow t ch.toNat / 2 ^ (32 * hi.toNat) % 2 ^ 32) false
        ∧ ((∀ j, s.chip.isRx (tileNode t) j = true → s.chip.beatsTo (s.chip.beatPlus (s.chip.f (Slot.BEAT (tileNode t) j))
            (s.chip.f (Slot.LEN2 (tileNode t) j))) ≠ 0) → s.chip.rxNow t ch.toNat = mget 0 (s.chip.tile t).rx ch.toNat))
    ∧ (∀ (pair : BitVec 1) (ch : BitVec 3), (pair = 1 → ch.toNat % 2 = 0) → NextEntry s t 1 i → Ends (.glzrd t rd 0 0 pair ch) s fun u =>
      mget 0 (u.chip.tile t).stage i = ch.toNat + 8 * pair.toNat + 2 ^ 16 * (s.chip.tile t).pc + 1
      ∧ (u.chip.tile t).glz = [(rd.toNat, s.chip.glzLanding (tileNode t) i)])
    ∧ (NextEntry s t 2 i → Ends (.glzwr t 0 rs1 0 0) s fun u =>
      mget 0 (u.chip.tile t).stage i = (gReg s t rs1).toNat % 65536 + 1)

/-- R474–R476, R327–R329: DQPUSH puts a doubleword in the outbound queue, or sets FULL_PUSH; DQPOP takes one from the inbound queue, or
0 with EMPTY_POP set; DQWAIT reports at its end whether k entries are there. -/
def Sys2Proof.Slice0.QueueInstructionsMoveDoublewords : Prop :=
  ∀ (s : State) (t : Fin 28) (rd rs1 rs2 : BitVec 5), Ready s t → isE t →
    ((s.chip.dq t).out.length < 16 → Ends (.dqpush t 0 rs1 rs2 0) s fun u =>
      (u.chip.dq t).out = (s.chip.dq t).out ++ [(gReg s t rs2).toNat * 2 ^ 32 + (gReg s t rs1).toNat]
      ∧ (u.chip.dq t).inq = (s.chip.dq t).inq)
    ∧ (16 ≤ (s.chip.dq t).out.length → Ends (.dqpush t 0 rs1 rs2 0) s fun u =>
      u.chip.dq t = s.chip.dq t ∧ u.chip.f (Dq.FULL_PUSH (tileNode t)) = 1)
    ∧ (∀ v rest, (s.chip.dq t).inq = v :: rest → (s.chip.dq t).newAt ≠ s.chip.clock → rd.toNat % 2 = 0 → Ends (.dqpop t rd 0 0 0) s fun u => (u.chip.dq t).inq = rest
      ∧ (∀ L, issuesAt s t + 2 ≤ L → ((u.chip.settle t L).tile t).reg (rd.toNat + 1) = v / 2 ^ 32 % 2 ^ 32
        ∧ (rd ≠ 0 → ((u.chip.settle t L).tile t).reg rd.toNat = v % 2 ^ 32)))
    ∧ ((s.chip.dq t).inq = [] → rd.toNat % 2 = 0 → Ends (.dqpop t rd 0 0 0) s fun u =>
      u.chip.f (Dq.EMPTY_POP (tileNode t)) = 1 ∧ (u.chip.dq t).inq = [])
    ∧ (∀ (n : BitVec 8) (k : BitVec 5), n ≠ 0 → k.toNat ≤ 16 → Ends (.dqwait t 0 n 0 k) s fun u =>
      (u.chip.tile t).nextIssue = issuesAt s t + n.toNat
      ∧ (if n = 1 then u.chip.f (Dq.ABSENT (tileNode t)) = b2n (decide ((s.chip.dq t).inq.length < k.toNat))
         else (u.chip.tile t).dqw = some (k.toNat, issuesAt s t + n.toNat - 1)))

/-- R465–R476, R317, R327–R329: the slot, Glaze-port and doubleword-queue instructions. -/
def Obligations.SlotAndQueueInstructionsExchangeData : Prop :=
  SlotInstructionsUseTheNextEntry ∧ QueueInstructionsMoveDoublewords

/-- R477–R487: LTRD and LTWR with a free ticket send their request and clear the ticket's status word; the response is written to the
landing; LTWAIT collects a landed ticket, answers 0 for an idle one, and waits for one in flight. -/
def Obligations.TicketsCarryBestEffortRequests : Prop :=
  ∀ (s : State) (t : Fin 28) (rd rs1 rs2 : BitVec 5) (imm : BitVec 16) (k : BitVec 3), 
    (Ready s t → ((s.chip.tile t).ticket k.toNat).busy = false → noNode (loadAddr s t rs1 imm / 2 ^ 25 % 128) = false →
      (if isP t then s.chip.prot t 2 (loadAddr s t rs1 imm) 0 else s.chip.allowed t (loadAddr s t rs1 imm) false) = true →
      Ends (.ltrd t 0 k rs1 imm) s fun u => ((u.chip.tile t).ticket k.toNat).busy = true
        ∧ u.chip.bytesAt (dmemAddr t (landing t k.toNat + 4)) 4 = 0 ∧ GoesOn s u t
        ∧ Asks s u (tileNode t) (fun p => p.hdr.typ = 1 ∧ p.hdr.dst = loadAddr s t rs1 imm / 2 ^ 25 % 128
          ∧ p.hdr.offset = loadAddr s t rs1 imm % 2 ^ 25 ∧ p.words = []))
    ∧ (Ready s t → ((s.chip.tile t).ticket k.toNat).busy = false → noNode ((gReg s t rs1).toNat / 2 ^ 25 % 128) = false →
      (if isP t then s.chip.prot t 2 (gReg s t rs1).toNat 1 else s.chip.allowed t (gReg s t rs1).toNat true) = true →
      Ends (.ltwr t 0 k rs1 rs2 0) s fun u => ((u.chip.tile t).ticket k.toNat).busy = true ∧ ((u.chip.tile t).ticket k.toNat).write = true
        ∧ Asks s u (tileNode t) (fun p => p.hdr.typ = 2 ∧ p.hdr.offset = (gReg s t rs1).toNat % 2 ^ 25 ∧ p.words = [gReg s t rs2]))
    ∧ (∀ w j a v, Between s → (s.chip.tile t).wait = .ltissue w j a v → ((s.chip.tile t).ticket j).busy = false →
      s.chip.fenced (tileNode t) = false → noNode (a / 2 ^ 25 % 128) = false → Ends (.ltWaitIssue t) s fun u =>
        (u.chip.tile t).wait = .none ∧ ((u.chip.tile t).ticket j).busy = true
        ∧ Asks s u (tileNode t) (fun p => p.hdr.typ = (if w then 2 else 1) ∧ p.hdr.offset = a % 2 ^ 25))
    ∧ (∀ (j : Fin 8) st d, Between s → (s.chip.tile t).pend = [] → ((s.chip.tile t).ticket j).res = some (st, d) → Ends (.ticketLanding t j) s fun u =>
        ((u.chip.tile t).ticket j).done = true ∧ ((u.chip.tile t).ticket j).busy = false
        ∧ u.chip.bytesAt (dmemAddr t (landing t j + 4)) 4 % 16 = st % 16
        ∧ bit (u.chip.bytesAt (dmemAddr t (landing t j + 4)) 4) 31 = true
        ∧ (((s.chip.tile t).ticket j).write = false → u.chip.bytesAt (dmemAddr t (landing t j)) 4 = d % 2 ^ 32))
    ∧ (∀ j, j = (gReg s t rs1).toNat % 8 → Ready s t → isP t = true →
      (((s.chip.tile t).ticket j).busy = false → ((s.chip.tile t).ticket j).done = true → Ends (.ltwait t rd rs1 0 0) s fun u =>
        Lands s u t rd.toNat 1 (s.chip.bytesAt (dmemAddr t (landing t j + 4)) 4) ∧ ((u.chip.tile t).ticket j).done = false)
      ∧ (((s.chip.tile t).ticket j).busy = false → ((s.chip.tile t).ticket j).done = false →
        Computes (.ltwait t rd rs1 0 0) s t rd.toNat 1 0 false)
      ∧ (((s.chip.tile t).ticket j).busy = true → Ends (.ltwait t rd rs1 0 0) s fun u => (u.chip.tile t).wait = .ltwait rd.toNat j))
    ∧ (∀ j, j < 8 → Between s → (s.chip.tile t).pend = [] → (s.chip.tile t).wait = .ltwait rd.toNat j → ((s.chip.tile t).ticket j).busy = false →
      ((s.chip.tile t).ticket j).done = true → Ends (.ltwaitComplete t) s fun u => (u.chip.tile t).wait = .none
        ∧ ((u.chip.tile t).ticket j).done = false)

/-- R488–R493: EVPOST sends an event of class 31; LKACQ asks LOCK and waits; the LKRSP that has come lets it go on; LKREL asks LOCK to
release and goes on. -/
def Obligations.EventAndLockInstructionsSendRequests : Prop :=
  ∀ (s : State) (t : Fin 28) (rd rs1 rs2 : BitVec 5),
    (∀ code : BitVec 11, Ready s t → s.chip.b (Bank.BANK_FREEZE (tileNode t)) = true → s.chip.protRw t 0x3C000000 = [] →
      (s.chip.ni (tileNode t)).send3.length < 8 → Ends (.evpost t 0 rs1 rs2 code) s fun u =>
        (u.chip.ni (tileNode t)).send3 = (s.chip.ni (tileNode t)).send3 ++
          [evtPkt (tileNode t) 0 (31 * 2048 + code.toNat) (s.chip.ni (tileNode t)).sseq [gReg s t rs1, gReg s t rs2]]
        ∧ (u.chip.ni (tileNode t)).sseq = ((s.chip.ni (tileNode t)).sseq + 1) % 65536 ∧ GoesOn s u t)
    ∧ (∀ (prio : BitVec 4), Ready s t → isP t = true → s.chip.shadow = false →
      s.chip.protRw t (lockGranule ((gReg s t rs1).toNat % 256)) = [] → (s.chip.tile t).lkOut = none → Ends (.lkacq t rd rs1 0 prio) s fun u =>
        (u.chip.tile t).wait = .lkacq rd.toNat false ∧ (u.chip.tile t).lkOut = some ((gReg s t rs1).toNat % 256, prio.toNat)
        ∧ (u.chip.tile t).pc = (s.chip.tile t).pc
        ∧ Asks s u (tileNode t) (fun p => p.hdr.typ = 3 ∧ p.hdr.dst = 24 ∧ p.hdr.offset = 64 * ((gReg s t rs1).toNat % 256)
          ∧ wordAt p.words 0 = (gReg s t rs1).toNat % 256 + prio.toNat * 2 ^ 8))
    ∧ (∀ st w, Between s → (s.chip.tile t).pend = [] → (s.chip.tile t).wait = .lkacq rd.toNat false → (s.chip.tile t).lkRsp = some (st, w) →
      Ends (.lkacqComplete t) s fun u => (u.chip.tile t).wait = .none ∧ (u.chip.tile t).lkOut = none ∧ (u.chip.tile t).lkRsp = none
        ∧ ∀ L, max s.chip.clock (s.chip.tile t).nextIssue + 1 ≤ L → rd ≠ 0 → ((u.chip.settle t L).tile t).reg rd.toNat
          = st % 16 + (if st = 0 then bits w 15 8 * 2 ^ 8 else 0))
    ∧ (Ready s t → s.chip.shadow = false → s.chip.protRw t (lockGranule ((gReg s t rs1).toNat % 256)) = [] →
      Ends (.lkrel t 0 rs1 0 0) s fun u => GoesOn s u t
        ∧ Asks s u (tileNode t) (fun p => p.hdr.typ = 3 ∧ p.hdr.offset = 64 * ((gReg s t rs1).toNat % 256)
          ∧ wordAt p.words 0 = (gReg s t rs1).toNat % 256 + 2 ^ 12))

/-- R391, R494: MFS reads a system register a beat later; MTS writes one 2 beats later. -/
def Sys2Proof.Slice0.SystemRegistersReadAndWrite : Prop :=
  ∀ (s : State) (t : Fin 28) (rd : BitVec 5), Ready s t →
    Computes (.mfs t rd 0 0 0) s t rd.toNat 1 (tileNode t + if isP t then 256 else 0) false
    ∧ Computes (.mfs t rd 0 0 8) s t rd.toNat 1 (b2n (s.chip.tile t).sat) false
    ∧ Computes (.mfs t rd 0 0 0x20) s t rd.toNat 1 (s.chip.beat % 2 ^ 32) false
    ∧ (isE t → Computes (.mfs t rd 0 0 0x22) s t rd.toNat 1 (s.chip.f Plane.PBEAT) false
      ∧ Computes (.mfs t rd 0 0 0x40) s t rd.toNat 1 0 false)
    ∧ (inSuper s t → (s.chip.tile t).epc < 65536 → (s.chip.tile t).ienab < 2 ^ 32 → 
      Computes (.mfs t rd 0 0 2) s t rd.toNat 1 (s.chip.tile t).epc false
      ∧ Computes (.mfs t rd 0 0 0x40) s t rd.toNat 1 (s.chip.tile t).ienab false)
    ∧ Ends (.mts t rd 0 0 8) s (fun u => TakesTwoLater s u t Tile.sat ((gReg s t rd).getLsbD 0) ∧ GoesOn s u t ∧ TileFrame s u t)
    ∧ (inSuper s t →
      Ends (.mts t rd 0 0 6) s (fun u => TakesTwoLater s u t Tile.scratch0 (gReg s t rd).toNat ∧ GoesOn s u t ∧ TileFrame s u t)
      ∧ Ends (.mts t rd 0 0 0x40) s (fun u => TakesTwoLater s u t Tile.ienab (gReg s t rd).toNat)
      ∧ Ends (.mts t rd 0 0 5) s (fun u => TakesTwoLater s u t Tile.vbase ((gReg s t rd).toNat % 65536 / 128 * 128))
      ∧ Ends (.mts t rd 0 0 0x41) s (fun u => TakesTwoLater s u t Tile.ipend
          ((s.chip.tile t).ipend - ((s.chip.tile t).ipend &&& (gReg s t rd).toNat))))

/-- R395–R397, R496: ECALL of a P tile takes its exception: EPC is the next instruction, ECAUSE 8 from USER and 9 from SUPER, EVAL the
instruction word; the mode, IE and the loop depth are saved; the tile runs SUPER at VBASE with interrupts off. ERET restores them. R393,
R398: an illegal encoding is exception 5, at the instruction itself. -/
def Sys2Proof.Slice0.ExceptionsEnterAndReturn : Prop :=
  ∀ (s : State) (t : Fin 28), Ready s t → isP t = true → (s.chip.tile t).exl = false →
    (∀ code : BitVec 16, Ends (.ecall t 0 code) s fun u =>
      (u.chip.tile t).epc = ((s.chip.tile t).pc + 4) % 65536 ∧ (u.chip.tile t).ecause = (if (s.chip.tile t).user then 8 else 9)
      ∧ (u.chip.tile t).eval = (easelWord (.ecall t 0 code)).toNat ∧ (u.chip.tile t).pmode = (if (s.chip.tile t).user then 2 else 1)
      ∧ (u.chip.tile t).pie = (s.chip.tile t).ie ∧ (u.chip.tile t).pld = (s.chip.tile t).ldepth
      ∧ (u.chip.tile t).exl = true ∧ (u.chip.tile t).ie = false ∧ (u.chip.tile t).user = false ∧ (u.chip.tile t).ldepth = 0
      ∧ (u.chip.tile t).pc = (s.chip.tile t).vbase ∧ (∀ n, (u.chip.tile t).reg n = (s.chip.tile t).reg n) ∧ SameMemory s u)
    ∧ ((s.chip.tile t).user = false → Ends (.eret t 0) s fun u =>
      (u.chip.tile t).pc = (s.chip.tile t).epc / 4 * 4 % 65536 ∧ (u.chip.tile t).user = ((s.chip.tile t).pmode == 2)
      ∧ (u.chip.tile t).ie = (s.chip.tile t).pie ∧ (u.chip.tile t).ldepth = (s.chip.tile t).pld ∧ (u.chip.tile t).exl = false
      ∧ (∀ n, (u.chip.tile t).reg n = (s.chip.tile t).reg n) ∧ TileFrame s u t)
    ∧ (∀ (rd rs1 z : BitVec 5), z ≠ 0 → Ends (.clz t rd rs1 z) s fun u =>
      (u.chip.tile t).ecause = 5 ∧ (u.chip.tile t).epc = (s.chip.tile t).pc ∧ (u.chip.tile t).pc = (s.chip.tile t).vbase)

/-- R399–R405: an eligible line interrupts a P tile that takes interrupts: ECAUSE 128 and the line, EPC the next instruction, the entry
at VBASE + 0x80. A timer that runs out sets its line and reloads; with nothing to reload it stops. R413: ISET sets the lines that
software may set. -/
def Sys2Proof.Slice0.InterruptsAndTimers : Prop :=
  ∀ (s : State) (t : Fin 28), Between s →
    (∀ l, isP t = true → (s.chip.f (Tile.STATE (tileNode t)) = 1 ∨ s.chip.f (Tile.STATE (tileNode t)) = 2) → s.chip.fenced (tileNode t) = false →
      s.chip.gated t = false → (s.chip.tile t).pend = [] → (s.chip.tile t).ie = true → s.chip.eligible t = some l →
      Ends (.interruptEntry t) s fun u => (u.chip.tile t).ecause = 128 + l ∧ (u.chip.tile t).epc = (s.chip.tile t).pc
        ∧ (u.chip.tile t).pc = ((s.chip.tile t).vbase + 128) % 65536 ∧ (u.chip.tile t).exl = true ∧ (u.chip.tile t).ie = false
        ∧ (u.chip.tile t).pie = true ∧ (u.chip.tile t).user = false ∧ u.chip.f (Tile.STATE (tileNode t)) = 1)
    ∧ (isP t = true → (s.chip.tile t).pend = [] → bit (s.chip.tile t).tmren 0 = true → (s.chip.tile t).cnt0 ≤ 1 → Ends (.timerExpiry t 0) s fun u =>
        bit (u.chip.tile t).ipend 0 = true ∧ (u.chip.tile t).cnt0 = (s.chip.tile t).rld0
        ∧ bit (u.chip.tile t).tmren 0 = decide ((s.chip.tile t).rld0 ≠ 0))
    ∧ (isP t = true → (s.chip.tile t).pend = [] → bit (s.chip.tile t).tmren 1 = true → (s.chip.tile t).cnt1 ≤ 1 → Ends (.timerExpiry t 1) s fun u =>
        bit (u.chip.tile t).ipend 1 = true ∧ (u.chip.tile t).cnt1 = (s.chip.tile t).rld1
        ∧ bit (u.chip.tile t).tmren 1 = decide ((s.chip.tile t).rld1 ≠ 0))
    ∧ (∀ (q : Sender) (d : Word), isP t = true → (s.chip.tile t).pend = [] → MayPriv s (tileNode t) q → Ends (.iset t q d) s fun u =>
        (u.chip.tile t).ipend = (s.chip.tile t).ipend ||| (d.toNat / 65536 * 65536) ∧ u.chip.resp = some (stOk, []))
    ∧ (isP t = true → s.chip.f (Tile.STATE (tileNode t)) = 2 → (s.chip.eligible t).isSome = true → s.chip.fenced (tileNode t) = false →
      s.chip.gated t = false → Ends (.wfiWake t) s fun u => u.chip.f (Tile.STATE (tileNode t)) = 1)

/-- R393–R405, R413, R496: exceptions, ECALL, ERET, interrupts and timers. -/
def Obligations.ExceptionsAndInterruptsEnterAndReturn : Prop :=
  ExceptionsEnterAndReturn ∧ InterruptsAndTimers

/-- R405, R409, R304, R392, R497, R372: WFI stops a P tile that no line calls; HALT ends an E tile's round, and stops a P tile; FENCE makes
the protection registers take effect on fetches; a corrected word is written back. -/
def Sys2Proof.Slice0.WaitHaltFenceAndWriteBack : Prop :=
  ∀ (s : State) (t : Fin 28),
    (Ready s t → inSuper s t → (s.chip.tile t).ienab = 0 → Ends (.wfi t 0) s fun u =>
      u.chip.f (Tile.STATE (tileNode t)) = 2 ∧ GoesOn s u t)
    ∧ (Ready s t → Ends (.fence t 0) s fun u => (u.chip.tile t).protx = (s.chip.tile t).prot
      ∧ (u.chip.tile t).nextIssue = issuesAt s t + 2 ∧ (∀ n, (u.chip.tile t).reg n = (s.chip.tile t).reg n) ∧ TileFrame s u t)
    ∧ (Ready s t → isE t → Ends (.halt t 0) s fun u => u.chip.f (Tile.STATE (tileNode t)) = 0 ∧ (u.chip.tile t).halted = true)
    ∧ (Ready s t → inSuper s t → Ends (.halt t 0) s fun u => u.chip.f (Tile.STATE (tileNode t)) = 3)
    ∧ (∀ a : BitVec 17, Between s → a.toNat < dmemSize t → s.chip.eccAt (dmemAddr t a.toNat) = 1 → Ends (.eccWriteback t false a) s fun u =>
      u.chip.eccAt (dmemAddr t a.toNat) = 0 ∧ SameMemory s u)
    ∧ (∀ a : BitVec 17, Between s → a.toNat < imemSize t → s.chip.eccAt (imemAddr t a.toNat) = 1 → Ends (.eccWriteback t true a) s fun u =>
      u.chip.eccAt (imemAddr t a.toNat) = 0 ∧ SameMemory s u)

/-- R304, R372, R391, R392, R405, R409, R494, R497: system registers, WFI, HALT, FENCE and the write-back of a corrected word. -/
def Obligations.SystemInstructionsAct : Prop :=
  SystemRegistersReadAndWrite ∧ WaitHaltFenceAndWriteBack

/-! ### The Glaze array -/

/-- R155–R157 and R160–R165: a storage element that runs and holds a spacer captures once every input that it waits for holds a token (its
support set; in a wide multiplexer its selects), no consumer acknowledges, no read of its count is under way (R198), and exactly one of its
sums is high; with both high it captures nothing and CODE_ERR is set; it returns to spacer once its inputs have and every consumer
acknowledges. A macrocell that passes its result on to the block below captures nothing (R182). R176, R190, R192, R202: level ports and
input channels issue tokens in the same handshake. R179, R180: an output port takes its line to the token's value. -/
def Obligations.GlazeElementsShakeHands : Prop :=
  ∀ s : State, Between s →
    (∀ (col : Fin 16) (row : Fin 12) (m : Fin 16), s.chip.running (posOf col) = true → s.chip.passes col row m = false →
      mget none s.chip.gl.mc (mcNo col row m) = none → mget false s.chip.gl.bad (mcNo col row m) = false →
      (s.chip.support col row m ≠ [] → (∀ x ∈ s.chip.waitsFor col row m, (s.chip.inputTok col x.1 x.2.2 true).isSome = true) →
        (∀ a ∈ s.chip.acks (.mc col row m), a = false) → s.chip.countHeld (.mc col row m) = false →
        s.chip.sumHigh col row m false ≠ s.chip.sumHigh col row m true → Ends (.glazeStageCapture col row m) s fun t =>
        mget none t.chip.gl.mc (mcNo col row m) = some (s.chip.sumHigh col row m false != s.chip.areaBit col row (6720 + 64 * m + 56))
        ∧ SameMemory s t ∧ SameRegsBut (fun _ => False) s t)
      ∧ (s.chip.sumHigh col row m false = true → s.chip.sumHigh col row m true = true → Ends (.glazeStageCapture col row m) s fun t =>
        mget none t.chip.gl.mc (mcNo col row m) = none ∧ t.chip.f Garr.CODE_ERR = 1
        ∧ SameMemory s t ∧ SameRegsBut (fun a => a = Garr.CODE_ERR.addr ∨ NiErr 10 a) s t))
    ∧ (∀ (col : Fin 16) (row : Fin 12) (m : Fin 16), s.chip.running (posOf col) = true → s.chip.passes col row m = false →
      s.chip.chainIn col row m = false →
      mget none s.chip.gl.mc (mcNo col row m) ≠ none → (∀ i ∈ s.chip.support col row m, s.chip.inputTok col row i false = none) →
      (∀ a ∈ s.chip.acks (.mc col row m), a = true) → Ends (.glazeStageCapture col row m) s fun t =>
        mget none t.chip.gl.mc (mcNo col row m) = none ∧ SameMemory s t ∧ SameRegsBut (fun _ => False) s t)
    ∧ (∀ (col : Fin 16) (row : Fin 12) (m : Fin 16), s.chip.passes col row m = true → Ends (.glazeStageCapture col row m) s fun t => t = s)
    ∧ (∀ (g : Fin 96) (level : Bool), s.chip.f (Garr.GIOn_KIND g) = 1 → s.chip.running 18 = true → s.chip.acks (.gio g) ≠ [] →
      (mget none s.chip.gl.lvl (192 + g) = none → (∀ a ∈ s.chip.acks (.gio g), a = false) →
        Ends (.levelPortToken (.gio g) level) s fun t => mget none t.chip.gl.lvl (192 + g) = some level)
      ∧ (mget none s.chip.gl.lvl (192 + g) ≠ none → (∀ a ∈ s.chip.acks (.gio g), a = true) →
        Ends (.levelPortToken (.gio g) level) s fun t => mget none t.chip.gl.lvl (192 + g) = none))
    ∧ (∀ (col : Fin 16) (k : Fin 12) (level : Bool), s.chip.running (posOf col) = true → s.chip.acks (.spine col k) ≠ [] →
      (mget none s.chip.gl.lvl (12 * col + k) = none → (∀ a ∈ s.chip.acks (.spine col k), a = false) →
        Ends (.levelPortToken (.spine col k) level) s fun t => mget none t.chip.gl.lvl (12 * col + k)
          = some (if k < 4 then s.chip.droopBit col k else level))
      ∧ ((∀ a ∈ s.chip.acks (.spine col k), a = true) →
        mget none s.chip.gl.lvl (12 * col + k) ≠ none → Ends (.levelPortToken (.spine col k) level) s fun t =>
          mget none t.chip.gl.lvl (12 * col + k) = none))
    ∧ (∀ (n : Fin 4) (k : Fin 8) (level : Bool), s.chip.issues = true → inChanRest s.chip n k = false → s.chip.fenced (gNode n) = false →
      (List.range 16).flatMap (fun b => s.chip.acks (.chan n k b)) ≠ [] →
      ((s.chip.inChan n k).out = none → (∀ a ∈ (List.range 16).flatMap (fun b => s.chip.acks (.chan n k b)), a = false) →
        (s.chip.f (Gport.IN_MODE (gNode n) k) = 0 → Ends (.levelPortToken (.chan n k) level) s fun t =>
          (t.chip.inChan n k).out = some ((s.chip.inChan n k).last.getD (s.chip.f (Gport.INIT (gNode n) k))))
        ∧ (∀ v, s.chip.f (Gport.IN_MODE (gNode n) k) = 1 → (s.chip.inChan n k).fifo.head? = some v →
          Ends (.levelPortToken (.chan n k) level) s fun t => (t.chip.inChan n k).out = some v))
      ∧ ((s.chip.inChan n k).out ≠ none → (∀ a ∈ (List.range 16).flatMap (fun b => s.chip.acks (.chan n k b)), a = true) →
        Ends (.levelPortToken (.chan n k) level) s fun t => (t.chip.inChan n k).out = none
          ∧ (s.chip.f (Gport.IN_MODE (gNode n) k) = 1 → (t.chip.inChan n k).fifo = (s.chip.inChan n k).fifo.drop 1)))
    ∧ (∀ (p : Fin 208) (v : Bool), (s.chip.portSrc p).bind s.chip.token = some v → s.chip.portLive p = true →
      mget false s.chip.gl.ack p = false → Ends (.outputPortToken p) s fun t =>
        t.chip.outLine p = v ∧ mget false t.chip.gl.ack p = true ∧ SameRegsBut (fun _ => False) s t)

/-- R184 and R185: a Glaze memory answers a completed request: a read with the word at its address, where no read of the other port stands on
the shared response drives, a write with the word stored and the completion. R187: with GMEM_LEN set the memory window reads and writes the word in bits [8:0]; with it clear, or for any other access
than a whole word, it refuses. -/
def Sys2Proof.Slice0.GlazeMemoriesAnswerRequests : Prop :=
  ∀ s : State, Between s → ∀ m : Fin 24,
    (s.chip.running (gmemPos m) = true →
      (∀ a, (∀ j < 9, ∀ a ∈ s.chip.acks (.gmem m j), a = false) → (mget {} s.chip.gl.gport m).a = none →
        (∀ v, (mget {} s.chip.gl.gport m).b ≠ some (v, false)) → s.chip.memReq m 0 12 = some a → Ends (.gmemAccess m false) s fun t =>
        (mget {} t.chip.gl.gport m).a = some (mget 0 s.chip.gl.gmem (4096 * m + a)) ∧ SameMemory s t)
      ∧ (∀ x, (mget {} s.chip.gl.gport m).b = none → s.chip.memReq m 12 22 = some x →
        (x % 2 = 0 → (∀ j < 9, ∀ a ∈ s.chip.acks (.gmem m j), a = false) → (mget {} s.chip.gl.gport m).a = none →
          Ends (.gmemAccess m true) s fun t =>
          (mget {} t.chip.gl.gport m).b = some (mget 0 s.chip.gl.gmem (4096 * m + bits x 12 1), false) ∧ SameMemory s t)
        ∧ (x % 2 = 1 → (∀ a ∈ s.chip.acks (.gmem m 9), a = false) → s.chip.gl.wr = true → Ends (.gmemAccess m true) s fun t =>
          (mget {} t.chip.gl.gport m).b = some (0, true)
          ∧ ∀ k, mget 0 t.chip.gl.gmem k = if k = 4096 * m + bits x 12 1 then bits x 21 13 else mget 0 s.chip.gl.gmem k)))
    ∧ (∀ (a : Fin 4096) (q : Sender) (d : Word), May s 10 q → s.chip.posRest (gmemPos m) = false →
      (bit (s.chip.f Garr.GMEM_LEN) m = true →
        (Ends (.gmemWindowAccess m a q true 15 [d]) s fun t => t.chip.resp = some (stOk, []) ∧ SameRegsBut (fun _ => False) s t
          ∧ ∀ k, mget 0 t.chip.gl.gmem k = if k = 4096 * m + a then bits d.toNat 8 0 else mget 0 s.chip.gl.gmem k)
        ∧ (Ends (.gmemWindowAccess m a q false 15 [d]) s fun t =>
          t = { s with chip := { s.chip with resp := some (stOk, [BitVec.ofNat 32 (mget 0 s.chip.gl.gmem (4096 * m + a))]) } }))
      ∧ (∀ w, bit (s.chip.f Garr.GMEM_LEN) m = false → Ends (.gmemWindowAccess m a q w 15 [d]) s fun t => Refuses s t stAddr)
      ∧ (∀ w be, be ≠ 15 → Ends (.gmemWindowAccess m a q w be [d]) s fun t => Refuses s t stAlign))

/-- R173, R175: VDDG.SET takes the code, or VDDG.MIN where the code is below it, with the event GLAZE_VDDG_CLAMP; the regulator then
reaches it. R172, R990: a measurement stands in RINGc; one more than 5% above the worst cycle sets SLOW and posts GLAZE_SLOW where the
one before was not. R206: a probe takes its source and view. -/
def Sys2Proof.Slice0.GlazeSupplyRingsAndProbes : Prop :=
  ∀ s : State, Between s →
    (∀ (q : Sender) (d : Word), May s 10 q → bits d.toNat 4 0 < 31 → Ends (.vddgSetWrite q d) s fun t =>
      t.chip.f Garr.VDDG_SET = max (bits d.toNat 4 0) (s.chip.f Garr.VDDG_MIN)
      ∧ (bits d.toNat 4 0 < s.chip.f Garr.VDDG_MIN → Posts s t 10 2 3 [(8, bits d.toNat 4 0)])
      ∧ SameMemory s t ∧ SameRegsBut (fun a => a = Garr.VDDG_SET.addr ∨ a = Dip.CEIL_CRC.addr ∨ NiErr 10 a) s t)
    ∧ (s.chip.f Power.STATE ≠ 1 → Ends .vddgReached s fun t => t.chip.gl.vddg = s.chip.f Garr.VDDG_SET ∧ SameRegsBut (fun _ => False) s t)
    ∧ (∀ (col : Fin 16) (ps : BitVec 16), Ends (.ringMeasurement col ps) s fun t => t.chip.f (Garr.RINGc col) = ps.toNat
      ∧ (worstCycle s.chip.vddgLimit * 105 < ps.toNat * 100 → t.chip.f Garr.SLOW = 1
        ∧ (mget 0 s.chip.gl.ring col ≠ 2 → Posts s t 10 2 1 [(8, col)]))
      ∧ (ps.toNat * 100 ≤ worstCycle s.chip.vddgLimit * 105 → t.chip.f Garr.SLOW = s.chip.f Garr.SLOW))
    ∧ (∀ (p : Fin 8) (q : Sender) (d : Word), May s 10 q → NoUpdate s → Ends (.probeWrite p q d) s fun t =>
      t.chip.f (Garr.PROBE_SRC p) = bits d.toNat (Garr.PROBE_SRC p).hi (Garr.PROBE_SRC p).lo
      ∧ t.chip.f (Garr.PROBE_VIEW p) = bits d.toNat (Garr.PROBE_VIEW p).hi (Garr.PROBE_VIEW p).lo
      ∧ t.chip.gl = s.chip.gl ∧ SameRegsBut (fun a => a = (Garr.PROBE_VIEW p).addr) s t)

/-- R172, R173, R175, R184, R185, R187, R206, R990: the Glaze memories, the supply of the array, its rings and its probes. -/
def Obligations.GlazeMemoriesSupplyAndProbesAct : Prop :=
  GlazeMemoriesAnswerRequests ∧ GlazeSupplyRingsAndProbes

/-- R189–R191: a word written to an input channel is the last value of a LEVEL channel; a TOKEN channel puts it into its FIFO of 2, a full
one replaces its newest entry and sets OVF. R193–R195: an output channel's holding register, its consuming reads, the reads that wait
(and complete once the response has room, R280). R197, R198, R200, R201: snapshots hold what the stages that their sources name hold. -/
def Obligations.GlazeChannelsCarryWords : Prop :=
  ∀ s : State, Between s → ∀ (n : Fin 4) (k : Fin 8),
    (∀ (q : Sender) (d : Word), May s (gNode n) q → inChanRest s.chip n k = false →
      (s.chip.f (Gport.IN_MODE (gNode n) k) = 0 → Ends (.inData n k q d) s fun t =>
        (t.chip.inChan n k).last = some (bits d.toNat 15 0) ∧ (t.chip.inChan n k).fifo = (s.chip.inChan n k).fifo)
      ∧ (s.chip.f (Gport.IN_MODE (gNode n) k) = 1 → s.chip.f (Gport.OUT_MODE (gNode n) k) ≠ 2 →
        ((s.chip.inChan n k).fifo.length < 2 → Ends (.inData n k q d) s fun t =>
          (t.chip.inChan n k).fifo = (s.chip.inChan n k).fifo ++ [bits d.toNat 15 0])
        ∧ ((s.chip.inChan n k).fifo.length = 2 → Ends (.inData n k q d) s fun t =>
          (t.chip.inChan n k).fifo = (s.chip.inChan n k).fifo.take 1 ++ [bits d.toNat 15 0]
          ∧ bit (t.chip.f (Gport.OVF (gNode n))) k = true ∧ Posts s t 10 2 4 [(8, n), (8, k)])))
    ∧ (s.chip.fenced (gNode n) = false → s.chip.gl.rel = true → outChanRest s.chip n k = false → s.chip.groupOf n k = none →
      (s.chip.chanSrc n k).any Option.isSome = true → (s.chip.chanSrc n k).all (fun x => x.all (fun src => (s.chip.token src).isSome)) = true →
      (∀ b : Fin 16, mget false s.chip.gl.ack (chanPort n k + b) = false) →
      (s.chip.f (Gport.OUT_MODE (gNode n) k) = 1 ∨ (s.chip.f (Gport.OUT_MODE (gNode n) k) = 0 ∧ s.chip.chValid n k = false) →
        Ends (.outChannelToken n k) s fun t => t.chip.chValid n k = true
          ∧ (∀ b : Fin 16, mget false t.chip.gl.ack (chanPort n k + b) = ((s.chip.chanSrc n k)[b.val]?.getD none).isSome)
          ∧ (∀ b : Fin 16, bit (t.chip.chData n k) b = (((s.chip.chanSrc n k)[b.val]?.getD none).bind s.chip.token == some true))
          ∧ SameRegsBut (fun a => a = (Gport.OUT_PEEK_DATA (gNode n) k).addr) s t)
      ∧ (s.chip.f (Gport.OUT_MODE (gNode n) k) = 0 → s.chip.chValid n k = true → Ends (.outChannelToken n k) s fun t => t = s))
    ∧ (∀ q : Sender, s.chip.fenced (gNode n) = false → outChanRest s.chip n k = false → s.chip.groupOf n k = none →
      (s.chip.chValid n k = true → Ends (.outPop n k q) s fun t =>
        t.chip.resp = some (stOk, [s.chip.reg (Gport.OUT_PEEK_DATA (gNode n) k).addr])
        ∧ t.chip.chValid n k = (s.chip.f (Gport.OUT_MODE (gNode n) k) == 1) ∧ t.chip.chData n k = s.chip.chData n k)
      ∧ (s.chip.chValid n k = false → (s.chip.ni (gNode n)).parked.length < parkPlaces → Ends (.outPop n k q) s fun t =>
        t.chip.resp = none ∧ (t.chip.ni (gNode n)).parked.length = (s.chip.ni (gNode n)).parked.length + 1))
    ∧ (∀ h : Hdr, s.chip.fenced (gNode n) = false → outChanRest s.chip n k = false → s.chip.groupOf n k = none → s.chip.chValid n k = true →
      (s.chip.ni (gNode n)).parked = [popRead n k h] → s.chip.rspRoom (gNode n) (popRead n k h).hdr = true → Ends (.parkedReadComplete n) s fun t =>
        (t.chip.ni (gNode n)).parked = [] ∧ Answers s t (gNode n) fun p =>
          p.words = [s.chip.reg (Gport.OUT_PEEK_DATA (gNode n) k).addr] ∧ p.hdr.status = stOk ∧ p.hdr.tag = h.tag ∧ p.hdr.dst = h.src)
    ∧ (∀ q : Sender, May s (gNode n) q → outChanRest s.chip n k = false → s.chip.f (Gport.OUT_MODE (gNode n) k) = 2 →
      mget false s.chip.gl.snap (8 * n + k) = false → k.val + s.chip.f (Gport.GROUP (gNode n) k) < 8 →
      ((∀ j ≤ s.chip.f (Gport.GROUP (gNode n) k), s.chip.chValid n (k + j) = false) → Ends (.snapReq n q (BitVec.ofNat 32 (2 ^ k.val))) s fun t =>
        mget false t.chip.gl.snap (8 * n + k) = true ∧ bit (t.chip.f (Gport.SNAP_MISS (gNode n))) k = bit (s.chip.f (Gport.SNAP_MISS (gNode n))) k)
      ∧ (∀ j : Fin 8, j.val ≤ s.chip.f (Gport.GROUP (gNode n) k) → s.chip.chValid n (k + j) = true →
        Ends (.snapReq n q (BitVec.ofNat 32 (2 ^ k.val))) s fun t => mget false t.chip.gl.snap (8 * n + k) = false
          ∧ bit (t.chip.f (Gport.SNAP_MISS (gNode n))) k = true ∧ t.chip.chData n k = s.chip.chData n k))
    ∧ (mget false s.chip.gl.snap (8 * n + k) = true → k.val + s.chip.f (Gport.GROUP (gNode n) k) < 8 →
      Ends (.counterCaptureDone n k false) s (fun t => t.chip = s.chip)
      ∧ Ends (.counterCaptureDone n k true) s fun t => mget false t.chip.gl.snap (8 * n + k) = false
        ∧ ∀ j : Fin 8, j.val ≤ s.chip.f (Gport.GROUP (gNode n) k) → t.chip.chValid n (k + j) = true
          ∧ ∀ b : Fin 16, bit (t.chip.chData n (k + j)) b = (((s.chip.chanSrc n (k + j))[b.val]?.getD none).any s.chip.valueOf))

/-! ### The Lattice -/

/-- R241–R244, R980: where one flit alone wants an output and there is a credit, the output sends it: it leaves its input queue and, on
links without error, is filed at the next router's input or at the node's NI, and spends a credit there; a header's ROUTE loses its code;
the output belongs to its packet until the tail. Nothing moves on an output that no flit wants. The node's NI has handed the router its own
flits before. -/
def Obligations.RoutersSendFlitsOnwards : Prop :=
  ∀ (s : State) (r : Fin 49) (p i : Fin 5) (vc : Fin 4), Between s → ∀ c, c = fed s r →
    (i ≠ p → ∀ f rest, c.queue r i vc = f :: rest → f.vc = vc → c.mayUse r i vc p = true → c.credit r p vc = true →
      (∀ (j : Fin 5) (v : Fin 4), c.wants r j v p = true → j = i ∧ v = vc) →
      (∀ q k, neighbour r p = some (q, k) → mget false c.lat.drop (qKey q k vc) = false →
        Ends (.flitHop r p {}) s fun t => t.chip.queue r i vc = rest ∧ t.chip.own r p vc = (if f.tail then 0 else i.val + 1)
          ∧ t.chip.queue q k vc = c.queue q k vc ++ [if f.head then { f with hdr := { f.hdr with route := f.hdr.route / 8 } } else f]
          ∧ t.chip.spent (qKey q k vc) = c.spent (qKey q k vc) + 1
          ∧ SameMemory s t ∧ ∀ a, t.chip.reg a = c.reg a)
      ∧ (p = 0 → vc ≠ 0 → f.tail = false → s.chip.fenced r = false → (s.chip.ni r).disc = [] → Ends (.flitHop r p {}) s fun t =>
          t.chip.queue r i vc = rest ∧ t.chip.own r p vc = i.val + 1
          ∧ ((t.chip.ni r).rx vc) = (s.chip.ni r).rx vc ++ [if f.head then { f with hdr := { f.hdr with route := f.hdr.route / 8 } } else f]))
    ∧ ((∀ (j : Fin 5) (v : Fin 4), c.wants r j v p = false) → Ends (.flitHop r p {}) s fun t => t = { s with chip := c })

/-- R280, R248: the response at the front of the response queue leaves by its route. R250–R256, R261: the tenant whose turn it is sends
its oldest request under a free tag, at the priority its Sieve allows, and its oldest event in the same order. R249, R292: a Sieve is
refilled once in a beat, before an admission. -/
def Obligations.NetworkInterfacesSendPackets : Prop :=
  ∀ (s : State) (n : Fin 49), Between s → (n = 0 → (s.chip.ni 0).ans = []) →
    (∀ k : Fin 64, ∀ p ps, (s.chip.ni n).rsp = p :: ps → s.chip.canInject n 1 = true → p.hdr.vc = 1 →
      (∀ r, s.chip.route n (routeEntry p.hdr.dst) = some r → Ends (.packetInject n 1 k) s fun t => (t.chip.ni n).rsp = ps
        ∧ Hands s t n 1 (Pkt.flits { p with hdr := { p.hdr with route := r } }))
      ∧ (s.chip.route n (routeEntry p.hdr.dst) = none → Ends (.packetInject n 1 k) s fun t => (t.chip.ni n).rsp = ps
        ∧ t.chip.queue n 0 1 = s.chip.queue n 0 1 ∧ CountsDrop s t n))
    ∧ (∀ k : Fin 64, s.chip.fenced n = false → s.chip.canInject n 2 = true → s.chip.tagFree n k = true → s.chip.f (Bank.BANK_FREEZE n) = 1 →
      (∀ x : Fin 8, (s.chip.tenantOrder n).find? (fun y => s.chip.asking n y && (refilled s n).sieveOpen n y) = some x.val →
        ∀ a rest, takeFirst (fun b => b.pkt.hdr.tenant == x.val) (s.chip.ni n).asks = some (a, rest) → a.pkt.hdr.vc = 2 →
        ∀ r, s.chip.route n (routeEntry a.pkt.hdr.dst) = some r → a.pkt.words.length ≤ 16 →
        SendsRequest s n k x a rest r (.packetInject n 2 k) ∧ SendsRequest s n k x a rest r (.tagWaitIssue n k)
        ∧ (s.chip.f (Ni.SIEVEt_LIMIT n x) = 1 → SendsRequest s n k x a rest r (.sieveWaitRelease n x 2 k))))
    ∧ (∀ k : Fin 64, s.chip.fenced n = false → s.chip.canInject n 3 = true → s.chip.f (Bank.BANK_FREEZE n) = 1 →
      ∀ x, (s.chip.tenantOrder n).find? (fun y => s.chip.posting n y && (refilled s n).sieveOpen n y) = some x →
      ∀ p rest, takeFirst (fun b => b.hdr.tenant == x) (s.chip.ni n).send3 = some (p, rest) → p.hdr.vc = 3 → p.hdr.prio < 3 →
      ∀ r, s.chip.route n (routeEntry p.hdr.dst) = some r → Ends (.packetInject n 3 k) s fun t =>
        (t.chip.ni n).send3 = rest ∧ (t.chip.ni n).rr = x
        ∧ Hands s t n 3 (Pkt.flits { p with hdr := { p.hdr with route := r } }))
    ∧ (∀ ten : Fin 8, mget 0 (s.chip.ni n).refilled ten = s.chip.clock + 1 → Ends (.sieveRefill n ten) s fun t => t = s)
    ∧ (∀ ten : Fin 8, mget 0 (s.chip.ni n).refilled ten ≠ s.chip.clock + 1 → Ends (.sieveRefill n ten) s fun t =>
      t.chip.tokens n ten = min (((s.chip.f (Ni.SIEVEt_BURST n ten) : Int) + 1) * 1024) (s.chip.tokens n ten + s.chip.f (Ni.SIEVEt_RATE n ten))
      ∧ t.chip.ni n = { s.chip.ni n with refilled := (t.chip.ni n).refilled }
      ∧ SameMemory s t ∧ SameRegsBut (fun a => a = (Ni.SIEVEt_TOKENS n ten).addr) s t)

/-- R257, R258, R237: a response whose tag and generation are in flight frees the tag and reaches the ticket that asked; any other is
discarded and counted. R259, R262, R291: a timeout, where the response is not at the NI, frees the tag with the next generation, holds back
the one it ends, counts and records, and the ticket reads TIMEOUT; then the hold-back ends. -/
def Sys2Proof.Slice0.ResponsesAndTimeoutsFreeTags : Prop :=
  ∀ (s : State) (n : Fin 49), Between s →
    (∀ p ps, (s.chip.ni n).in1 = p :: ps → typeVc p.hdr.typ = some 1 → p.hdr.dst = n →
      ((s.chip.tag n p.hdr.tag).busy = true → (s.chip.tag n p.hdr.tag).gen = p.hdr.gen → (s.chip.tag n p.hdr.tag).owner ≠ .mirror →
        (n = 0 → (s.chip.tag 0 p.hdr.tag).owner = .none) → Ends (.responseAccept n) s fun t => (t.chip.ni n).in1 = ps ∧
          t.chip.tag n p.hdr.tag = { gen := p.hdr.gen, held := (s.chip.tag n p.hdr.tag).held })
      ∧ (∀ (x : Fin 28) (j : Fin 8), n = tileNode x → (s.chip.tag n p.hdr.tag).busy = true → (s.chip.tag n p.hdr.tag).gen = p.hdr.gen →
        (s.chip.tag n p.hdr.tag).owner = .ticket j → Ends (.responseAccept n) s fun t =>
          (mget {} (t.chip.tile x).tk j).res = some (if p.poison then (stData, 0) else (p.hdr.status, if p.hdr.status = stOk then wordAt p.words 0 else 0))
          ∧ SameMemory s t ∧ SameRegsBut (fun _ => False) s t)
      ∧ ((s.chip.tag n p.hdr.tag).busy = false ∨ (s.chip.tag n p.hdr.tag).gen ≠ p.hdr.gen → (n = 0 → (s.chip.ni 0).ans = []) →
        Ends (.responseAccept n) s fun t => (t.chip.ni n).in1 = ps ∧ t.chip.tag n p.hdr.tag = s.chip.tag n p.hdr.tag
          ∧ CountsDrop s t n))
    ∧ (∀ k : Fin 64, (s.chip.tag n k).busy = true → (s.chip.tag n k).timer = true → s.chip.answered n k = false → s.chip.full3 n = false →
      ((n = 0 → (s.chip.tag 0 k).owner = .none ∧ (s.chip.ni 0).ans = []) → Ends (.requestTimeout n k) s fun t =>
        t.chip.tag n k = { gen := ((s.chip.tag n k).gen + 1) % 4, held := (s.chip.tag n k).held ++ [(s.chip.tag n k).gen] }
        ∧ t.chip.f (Ni.TMO_CNT n) = min (2 ^ 32 - 1) (s.chip.f (Ni.TMO_CNT n) + 1) ∧ t.chip.f (Ni.ERR_TMO n) = 1
        ∧ t.chip.f (Ni.LAST_ERR_KIND n) = 0 ∧ t.chip.f (Ni.LAST_ERR_STATUS n) = stTimeout
        ∧ SameMemory s t ∧ SameRegsBut (fun a => a = (Ni.TMO_CNT n).addr ∨ NiErr n a) s t)
      ∧ (∀ (x : Fin 28) (j : Fin 8), n = tileNode x → (s.chip.tag n k).owner = .ticket j → Ends (.requestTimeout n k) s fun t =>
        (mget {} (t.chip.tile x).tk j).res = some (stTimeout, 0)))
    ∧ (∀ (k : Fin 64) g gs, (s.chip.tag n k).held = g :: gs → Ends (.tagHoldbackEnd n k) s fun t =>
      t.chip.tag n k = { s.chip.tag n k with held := gs } ∧ SameMemory s t ∧ SameRegsBut (fun _ => False) s t)

/-- R280, R231, R970: a target takes its oldest request once the response has room, performs it and answers it with its status and
data; a LOCK elsewhere than at LOCK is not served. R273: a fenced node answers NODE_FENCED. -/
def Sys2Proof.Slice0.TargetsAnswerRequests : Prop :=
  ∀ (s : State) (n : Fin 49), Between s → ∀ p ps, (s.chip.ni n).in2 = p :: ps → p.poison = false → ∀ h, h = p.hdr →
    h.dst = n → h.len = 0 → h.be = 15 → s.chip.rspRoom n h = true →
    (∀ (off : BitVec 25), off = BitVec.ofNat 25 h.offset → h.offset < 2 ^ 25 → off.toNat % 4 = 0 → (memKind n off.toNat = some .dmem ∨ memKind n off.toNat = some .sram) →
      s.chip.fenced n = false → (h.priv = true ∨ h.tenant = 0) → (seenAt s n off).eccAt (gAddr n off.toNat) = 0 →
      (h.typ = 1 → Ends (.requestAccept n) s fun t => (t.chip.ni n).in2 = ps ∧ (Answers s t n fun y =>
          y = { hdr := rspHdr h 6 stOk, words := [BitVec.ofNat 32 ((seenAt s n off).bytesAt (gAddr n off.toNat) 4)] })
          ∧ (∀ a, t.chip.byte a = (seenAt s n off).byte a) ∧ ∀ a, t.chip.reg a = (seenAt s n off).reg a)
      ∧ (∀ w ws, p.words = w :: ws → h.typ = 2 → Ends (.requestAccept n) s fun t => (t.chip.ni n).in2 = ps ∧ (Answers s t n fun y =>
          y = { hdr := rspHdr h 7 stOk }) ∧ t.chip.bytesAt (gAddr n off.toNat) 4 = w.toNat
          ∧ (∀ a, (a < gAddr n off.toNat ∨ gAddr n off.toNat + 4 ≤ a) → t.chip.byte a = (seenAt s n off).byte a)
          ∧ ∀ a, t.chip.reg a = (seenAt s n off).reg a))
    ∧ (h.typ = 3 → n ≠ 24 → Ends (.requestAccept n) s fun t => (t.chip.ni n).in2 = ps ∧ (Answers s t n fun y =>
        y = { hdr := rspHdr h 8 stUnsup }) ∧ t.chip.f (Ni.ERR_BADPKT n) = 1 ∧ SameMemory s t ∧ SameRegsBut (NiErr n) s t)
    ∧ (h.typ = 1 → s.chip.fenced n = true → (n = 24 → 0x4000 ≤ h.offset) → Ends (.requestAccept n) s fun t =>
        (t.chip.ni n).in2 = ps ∧ (Answers s t n fun y => y = { hdr := rspHdr h 6 stFenced }) ∧ SameMemory s t)

/-- R231, R237, R257–R259, R262, R273, R280, R970: responses, timeouts, and the requests that a target takes. -/
def Obligations.ResponsesTargetsAndTimeouts : Prop :=
  ResponsesAndTimeoutsFreeTags ∧ TargetsAnswerRequests

/-- R246, R247: a route entry that the check passes is stored; one that it fails leaves the entry, answers ADDR_ERR and records the entry
and the first cause. R985, R273, R982: the write of NODE_RST is answered OK, the reset begins once the response has left, and ends with
the node ready. R267: a packet from the twin is sent on with its local destination, the twin's source and tenant T7. -/
def Obligations.RoutesResetsAndTunnels : Prop :=
  ∀ s : State, Between s →
    (∀ (n : Fin 49) (e : Fin 64) (q : Sender) (d : Word), MayPriv s n q → s.chip.b Power.SEALED = false →
      ∀ route, route = s.chip.f (Ni.ROUTE_STAGE n) + bits d.toNat 3 0 * 2 ^ 32 →
      (routeCheck n e route (bits d.toNat 14 8) = none → Ends (.routeEntryWrite n e q d) s fun t => t.chip.resp = some (stOk, [])
        ∧ t.chip.route n e = (if bit d.toNat 31 then some route else none) ∧ t.chip.f (Ni.ROUTEe_DST n e) = bits d.toNat 14 8
        ∧ SameMemory s t ∧ SameRegsBut (fun a => a = (Ni.ROUTEe_LO n e).addr ∨ a = (Ni.ROUTEe_HI n e).addr) s t)
      ∧ (∀ cause, routeCheck n e route (bits d.toNat 14 8) = some cause → Ends (.routeEntryWrite n e q d) s fun t =>
        t.chip.resp = some (stAddr, []) ∧ t.chip.f (Ni.ROUTE_REF_ENTRY n) = e ∧ t.chip.f (Ni.ROUTE_REF_CAUSE n) = cause
        ∧ t.chip.f (Ni.ERR_ROUTE_REF n) = 1 ∧ SameMemory s t
        ∧ SameRegsBut (fun a => a = (Ni.ROUTE_REF_ENTRY n).addr ∨ NiErr n a) s t))
    ∧ (∀ (n : Fin 49) (q : Sender), MayPriv s n q → Ends (.nodeRst n q) s fun t => t.chip.resp = some (stOk, [])
        ∧ (t.chip.ni n).rstDue = true ∧ t.chip.f (Ni.FENCED n) = 0 ∧ SameMemory s t ∧ SameRegsBut (fun _ => False) s t)
    ∧ (∀ n : Fin 49, (s.chip.ni n).rstDue = true → s.chip.rstAnswering n = false → s.chip.fenced n = false → s.chip.hasSlots n = false →
      Ends (.nodeResetBegin n) s fun t => t.chip.f (Ni.FENCED n) = 1 ∧ (t.chip.ni n).rstDue = false ∧ (t.chip.ni n).in2 = []
        ∧ (t.chip.ni n).asks = [] ∧ (∀ k : Fin 64, (t.chip.tag n k).busy = false
          ∧ ((s.chip.tag n k).busy = true → (t.chip.tag n k).gen = ((s.chip.tag n k).gen + 1) % 4))
        ∧ SameMemory s t)
    ∧ (∀ n : Fin 49, s.chip.fenced n = true → Ends (.nodeResetEnd n) s fun t => t.chip.f (Ni.FENCED n) = 0
        ∧ SameMemory s t ∧ SameRegsBut (fun a => a = (Ni.FENCED n).addr) s t)
    ∧ (∀ p ps, s.chip.tw.rxq = p :: ps → s.chip.fenced 6 = false → (p.hdr.vc = 1 ∨ p.hdr.vc = 2 ∨ p.hdr.vc = 3) →
      s.chip.canInject 6 p.hdr.vc = true → twinNode p.hdr.dst = true → ∀ r, s.chip.route 6 (p.hdr.dst % 64) = some r → Ends .tunnelReceive s fun t =>
        t.chip.tw.rxq = ps ∧ Hands s t 6 p.hdr.vc (Pkt.flits { p with hdr := { p.hdr with
          route := r, dst := p.hdr.dst % 64, src := p.hdr.src ||| 64, tenant := if p.hdr.typ ≤ 5 then 7 else p.hdr.tenant } }))

/-! ### The scheduled plane -/

namespace Sys2Proof.Slice0

open Sys2Proof.Machine Sys2Proof.Machine.Reg

/-- R337–R341: node `n` has detected schedule fault `x`: its empty record, and an empty PLANE.FIRST, take the fault's words; the plane
is FAULTED; every rail's group acts. -/
def Faults (s t : State) (n : Nat) (x : SchedRec) : Prop :=
  t.chip.f Plane.STATE = plFaulted ∧ t.chip.pl.holds = []
  ∧ (s.chip.f (Frec.VALID n) = 0 → t.chip.f (Frec.COUNT n) = 1 ∧ t.chip.f (Frec.OVF n) = 0
      ∧ ∀ i : Fin 7, some (t.chip.reg (niBase n + 0x700 + 4 * i)) = (s.chip.schedWords n x)[i.val]?)
  ∧ (s.chip.f (Frec.VALID n) = 1 → t.chip.f (Frec.OVF n) = 1 ∧ t.chip.reg (niBase n + 0x700) = s.chip.reg (niBase n + 0x700))
  ∧ (bit (s.chip.reg (Plane.base + 0x60)).toNat 15 = false → ∀ i : Fin 7, some (t.chip.reg (Plane.base + 0x60 + 4 * i)) = (s.chip.schedWords n x)[i.val]?)
  ∧ (∀ r : Fin 16, s.chip.f (Rail.FALLBACK r) = 0 → (s.chip.rail r).fbDue = false →
      if s.chip.f (Plane.ACTg (s.chip.group r)) = 0 then t.chip.f (Rail.HOLD r) = 1 else (t.chip.rail r).fbDue = true)

/-- GLAZE_LATE of port `g` for its REPLY entry `i` and request data `d`, after `held` free beats (R338). -/
def lateRec (s : State) (g i d held : Nat) : SchedRec :=
  { kind := 4, peer := s.chip.f (Slot.PEER (gNode g) (s.chip.f (Slot.LINK (gNode g) i))), chan := d % 8, pc := bits d 31 16,
    entry := some i, detA := b2n (bit d 3), detB := held }

/-- What a detecting NI reports: CAUSE of a SLOT_VIOLATION alone; INSTR of the faults that an instruction raises (R338). -/
def reportedRec (s : State) (n : Nat) (r : FaultRec) : SchedRec :=
  { kind := r.kind.toNat, cause := if r.kind = 2 then r.cause.toNat else 0, peer := r.peer.toNat, chan := r.chan.toNat, pc := r.pc.toNat,
    entry := r.entry.map BitVec.toNat, detA := r.detA.toNat, detB := r.detB.toNat,
    instr := if r.kind = 1 ∨ r.kind = 5 ∨ r.kind = 6 then s.chip.bytesAt (imemAddr (tileAt n) r.pc.toNat) 4 else 0 }

/-- The plane runs, no G port holds it, and node `n` is not fenced. -/
abbrev PlaneGoes (s : State) (n : Nat) : Prop := s.chip.planeGoes = true ∧ s.chip.fenced n = false

end Sys2Proof.Slice0

/-- R301, R303, R305, R315, R316, R318: plane beats and rounds of at least 256 beats and at most 4,096 (R983); the second flit of a scheduled
packet follows in the next plane beat; a SCHED tile that has not issued HALT raises ROUND_OVERRUN; a late crossing raises
CROSS_LATE; every SCHED tile begins a round at its entry address. -/
def Sys2Proof.Slice0.PlaneBeatsMakeRounds : Prop :=
  ∀ s : State, Between s → s.chip.planeGoes = true → s.chip.pw.standby = false →
    (s.chip.f Plane.PBEAT + 1 < s.chip.roundLen → Ends (.planeBeat none) s fun t =>
      t.chip.f Plane.PBEAT = s.chip.f Plane.PBEAT + 1 ∧ t.chip.f Plane.ROUND = s.chip.f Plane.ROUND ∧ t.chip.pl.abs = s.chip.pl.abs + 1
      ∧ t.chip.f Plane.STATE = plRun ∧ SameMemory s t)
    ∧ (∀ (n : Fin 49) b f, s.chip.f Plane.PBEAT + 1 < s.chip.roundLen → s.chip.pl.second = [(n.val, some (b, f))] → b ≤ s.chip.pl.abs + 1 →
      Ends (.planeBeat none) s fun t => t.chip.queue n 0 0 ++ t.chip.outFlits n 0 = s.chip.queue n 0 0 ++ s.chip.outFlits n 0 ++ [f])
    ∧ (s.chip.f Plane.PBEAT + 1 < s.chip.roundLen → ∀ y ys, s.chip.pl.inPend = y :: ys → ys = [] →
      y.1 < 4 → y.2.1 < 8 → inChanRest s.chip y.1 y.2.1 = false → s.chip.f (Gport.IN_MODE (gNode y.1) y.2.1) = 0 →
      (s.chip.inChan y.1 y.2.1).be ≠ some s.chip.clock →
      (y.2.2.2 ≤ s.chip.pl.abs + 1 → Ends (.planeBeat none) s fun t => (t.chip.inChan y.1 y.2.1).last = some y.2.2.1 ∧ t.chip.pl.inPend = [])
      ∧ (s.chip.pl.abs + 1 < y.2.2.2 → Ends (.planeBeat none) s fun t => t.chip.pl.inPend = s.chip.pl.inPend))
    ∧ (s.chip.roundLen ≤ s.chip.f Plane.PBEAT + 1 →
      ((∀ x : Fin 24, s.chip.f (Tile.STATE (tileNode x)) = 1 → (s.chip.tile x).halted = true) →
        (s.chip.pl.switchTo = none → Ends (.planeBeat none) s fun t => t.chip.f Plane.PBEAT = 0
          ∧ t.chip.f Plane.ROUND = (s.chip.f Plane.ROUND + 1) % 2 ^ 32 ∧ t.chip.pl.abs = s.chip.pl.abs + 1 ∧ t.chip.pl.started = false)
        ∧ (∀ n, s.chip.pl.switchTo = some n → Ends (.planeBeat none) s fun t => t.chip.f Plane.STATE = plSwitching
          ∧ ∀ r : Fin 16, s.chip.f (Rail.FALLBACK r) = 0 → (s.chip.rail r).fbDue = false → t.chip.f (Rail.HOLD r) = 1))
      ∧ (∀ x : Fin 24, (s.chip.f (Tile.STATE (tileNode x)) = 1 ∧ (s.chip.tile x).halted = false) →
        (∀ y : Fin 24, y ≠ x → s.chip.f (Tile.STATE (tileNode y)) ≠ 1 ∨ (s.chip.tile y).halted = true) → Ends (.planeBeat none) s fun t =>
          Faults s t (tileNode x) { kind := 5, pc := (s.chip.tile x).pc, instr := s.chip.wordAtPc x }))
    ∧ (∀ (n : Fin 49) (k : Fin 5), Ends (.planeBeat (some (n, k))) s fun t => Faults s t n { kind := 2, cause := 5, detA := k + 1 })
    ∧ (s.chip.f Plane.PBEAT = 0 → s.chip.pl.started = false → Ends .roundStart s fun t => t.chip.pl.started = true
      ∧ (∀ x : Fin 24, s.chip.fenced (tileNode x) = false → t.chip.f (Tile.STATE (tileNode x)) = 1
          ∧ (t.chip.tile x).pc = s.chip.f (Tile.ENTRY (tileNode x)) % imemSize x ∧ (t.chip.tile x).halted = false
          ∧ (t.chip.tile x).x = (s.chip.tile x).x)
      ∧ SameMemory s t ∧ SameRegsBut (fun a => ∃ x : Fin 24, a = (Tile.STATE (tileNode x)).addr) s t)

/-- R345, R346: RESTART of a FAULTED plane clears PLANE.FIRST, the receive channels and the ejection buffers, and the plane starts PBEAT 0 of
the next round; in any other state it has no effect. R347, R348: SWITCH. -/
def Sys2Proof.Slice0.PlaneRestartsAndSwitches : Prop :=
  ∀ s : State, Between s →
    (∀ q : Sender, MayPriv s 31 q →
      (s.chip.f Plane.STATE = plFaulted → Ends (.planeRestart q) s fun t => t.chip.resp = some (stOk, []) ∧ t.chip.pl.restart = true
        ∧ (∀ i : Fin 8, t.chip.reg (Plane.base + 0x60 + 4 * i) = 0) ∧ (∀ x : Fin 24, (t.chip.tile x).rx = []) ∧ t.chip.pl.eject = []
        ∧ SameMemory s t ∧ SameRegsBut (fun a => Plane.base + 0x60 ≤ a ∧ a < Plane.base + 0x80) s t)
      ∧ (s.chip.f Plane.STATE ≠ plFaulted → Ends (.planeRestart q) s fun t => t.chip.resp = some (stOk, []) ∧ t.chip.pl = s.chip.pl
        ∧ t.chip.tl = s.chip.tl ∧ SameMemory s t ∧ SameRegsBut (fun _ => False) s t)
      ∧ (∀ sel : Fin 4, schedHeld s.chip.pw.img sel = true →
        (s.chip.f Plane.STATE = plRun → Ends (.switch q sel) s fun t => t.chip.resp = some (stOk, []) ∧ t.chip.pl.switchTo = some sel.val
          ∧ t.chip.f Plane.STATE = plRun ∧ t.chip.f Plane.CTL_SEL = sel)
        ∧ (s.chip.f Plane.STATE = plFaulted → Ends (.switch q sel) s fun t => t.chip.pl.switchTo = s.chip.pl.switchTo
          ∧ t.chip.f Plane.STATE = plFaulted))
      ∧ (∀ sel : Fin 4, schedHeld s.chip.pw.img sel = false → Ends (.switch q sel) s fun t => t.chip.resp = some (stDenied, [])
        ∧ Posts s t 31 4 3 [(8, sel), (8, 0)] ∧ t.chip.pl = s.chip.pl ∧ SameRegsBut (NiErr 31) s t))
    ∧ (s.chip.pl.restart = true → s.chip.f Plane.STATE = plFaulted → Ends .planeRestartStart s fun t => t.chip.f Plane.STATE = plRun
      ∧ t.chip.f Plane.PBEAT = 0 ∧ t.chip.f Plane.ROUND = (s.chip.f Plane.ROUND + 1) % 2 ^ 32 ∧ t.chip.pl.started = false ∧ t.chip.pl.restart = false)
    ∧ (∀ n, s.chip.pl.switchTo = some n → s.chip.f Plane.STATE = plSwitching →
      ((({ s.chip with pl.switchTo := none } : Chip).loadSched s.lock s.chip.pw.img n (s.chip.b Power.SEALED) false).1 = none →
        Ends .schedSwitched s fun t => t.chip.f Plane.STATE = plRun ∧ t.chip.f Plane.PBEAT = 0 ∧ t.chip.f Plane.LOADED = n % 4
          ∧ t.chip.pl.switchTo = none ∧ ∀ x : Fin 4, bit (t.chip.tile (24 + x)).ipend 8 = true)
      ∧ (∀ e, (({ s.chip with pl.switchTo := none } : Chip).loadSched s.lock s.chip.pw.img n (s.chip.b Power.SEALED) false).1 = some e →
        Ends .schedSwitched s fun t => t.chip.f Plane.STATE = plStopped ∧ t.chip.f Plane.LOAD_ERR_CODE = e.1 % 16 ∧ t.chip.pl.switchTo = none))

/-- R301, R303, R305, R316, R318, R345–R348: plane beats, rounds, RESTART and SWITCH. -/
def Obligations.PlaneRoundsRestartsAndSwitches : Prop :=
  PlaneBeatsMakeRounds ∧ PlaneRestartsAndSwitches

/-- R309–R318, R322, R337: a TX entry at its beat injects what was staged, captured or sampled for it; an arriving VC0 flit enters the ejection
buffer; an RX entry at its beat delivers to its channel, request, input or phases; what is missing or unexpected raises its cause. -/
def Obligations.ScheduledPacketsFollowTheirSlots : Prop :=
  ∀ s : State, Between s →
    (∀ (b1 : Bool) (i : Fin 64), ∀ n, n = (if b1 then 18 else 16) → PlaneGoes s n → s.chip.f (Slot.KIND n i) = 1 → s.chip.f (Slot.SEL n i) = 3 →
      s.chip.beatsTo (s.chip.f (Slot.BEAT n i)) = 6 → s.chip.f (Slot.LINK n i) < 8 →
      ∀ r, r = 8 * b2n b1 + s.chip.f (Slot.LINK n i) → Ends (.streamCapture b1 i) s fun t =>
        mget 0 t.chip.pl.capture (64 * n + i) = 1 + s.chip.f (Rail.VSENSE r) + 2 ^ 16 * s.chip.f (Rail.IRAIL r) + 2 ^ 32 * low 12 (s.chip.target r)
        ∧ SameMemory s t ∧ SameRegsBut (fun _ => False) s t)
    ∧ (∀ (n : Fin 49) (i : Fin 64), PlaneGoes s n → s.chip.f (Slot.KIND n i) = 1 → s.chip.f (Slot.BEAT n i) = s.chip.f Plane.PBEAT →
      s.chip.f (Bank.BANK_FREEZE n) = 1 → ∀ r, s.chip.route n (s.chip.f (Slot.RTE n i)) = some r →
      (∀ x : Fin 24, n = tileNode x → s.chip.f (Slot.SEL n i) ≤ 2 → ∀ d, d = mget 0 (s.chip.tile x).stage i - 1 → mget 0 (s.chip.tile x).stage i ≠ 0 → Ends (.slotTx n i) s fun t =>
        Injects s t n i r d ∧ mget 0 (t.chip.tile x).stage i = 0)
      ∧ (∀ x : Fin 24, n = tileNode x → s.chip.f (Slot.SEL n i) ≤ 2 → mget 0 (s.chip.tile x).stage i = 0 → Ends (.slotTx n i) s fun t =>
        Faults s t n { kind := 2, cause := 2, entry := some i, peer := s.chip.f (Slot.PEER n i), chan := s.chip.f (Slot.CHAN n i) })
      ∧ (∀ d, d = mget 0 s.chip.pl.capture (64 * n + i) - 1 → s.chip.f (Slot.SEL n i) = 3 → mget 0 s.chip.pl.capture (64 * n + i) ≠ 0 → Ends (.slotTx n i) s fun t =>
        Injects s t n i r d)
      ∧ (∀ d, d = mget 0 s.chip.pl.reply (64 * n + i) - 1 → s.chip.f (Slot.SEL n i) = 4 → mget 0 s.chip.pl.reply (64 * n + i) ≠ 0 → Ends (.slotTx n i) s fun t =>
        Injects s t n i r d))
    ∧ (∀ n : Fin 49, ∀ f rest, (s.chip.ni n).in0 = f :: rest →
      (s.chip.f Plane.STATE = plRun → f.hdr.typ = 0 → f.poison = false → (s.chip.ejectBuf n).length < 16 → f.hdr.dst = n →
        (∀ i len2, s.chip.rxEntry n f.hdr.src f.hdr.tag = some i → len2 = s.chip.f (Slot.LEN2 n i) →
          s.chip.beatsTo (s.chip.beatPlus (s.chip.f (Slot.BEAT n i)) len2) ≤ 4 + 3 * s.chip.f (Slot.HOPS n i) + len2 →
          Ends (.vc0Arrival n) s fun t => t.chip.ejectBuf n = s.chip.ejectBuf n ++ [f] ∧ (t.chip.ni n).in0 = rest
            ∧ SameRegsBut (fun _ => False) s t)
        ∧ (s.chip.rxEntry n f.hdr.src f.hdr.tag = none → Ends (.vc0Arrival n) s fun t =>
            Faults s t n { kind := 2, cause := 3, peer := f.hdr.src, chan := f.hdr.tag }))
      ∧ (s.chip.f Plane.STATE = plRun → f.hdr.typ ≠ 0 → Ends (.vc0Arrival n) s fun t => (t.chip.ni n).in0 = rest
          ∧ t.chip.f (Ni.ERR_BADPKT n) = 1 ∧ t.chip.ejectBuf n = s.chip.ejectBuf n)
      ∧ (s.chip.f Plane.STATE ≠ plRun → Ends (.vc0Arrival n) s fun t => (t.chip.ni n).in0 = rest
          ∧ CountsDrop s t n ∧ t.chip.ejectBuf n = s.chip.ejectBuf n))
    ∧ (∀ (n : Fin 49) (i : Fin 64), PlaneGoes s n → s.chip.f (Slot.KIND n i) = 2 →
      s.chip.beatsTo (s.chip.beatPlus (s.chip.f (Slot.BEAT n i)) (s.chip.f (Slot.LEN2 n i))) = 0 →
      ∀ fs, fs = (takeFlits (s.chip.f (Slot.PEER n i)) (s.chip.f (Slot.CHAN n i)) (1 + s.chip.f (Slot.LEN2 n i)) (s.chip.ejectBuf n)).1 →
      ∀ d, d = ofWords (fs.flatMap Flit.words) →
      (fs.length = 1 + s.chip.f (Slot.LEN2 n i) →
        (∀ x : Fin 24, n = tileNode x → s.chip.f (Slot.SEL n i) = 0 → Ends (.slotDelivery n i) s fun t =>
          mget 0 (t.chip.tile x).rx (s.chip.f (Slot.CHAN n i)) = bits d 63 0
          ∧ (s.chip.f (Slot.LEN2 n i) = 1 → mget 0 (t.chip.tile x).rx (s.chip.f (Slot.CHAN n i) + 1) = bits d 127 64
              ∧ mget 0 (t.chip.tile x).rx (s.chip.f (Slot.CHAN n i) + 2) = bits d 191 128)
          ∧ SameMemory s t ∧ SameRegsBut (fun _ => False) s t)
        ∧ (∀ x : Fin 24, n = tileNode x → s.chip.f (Slot.SEL n i) = 1 → (s.chip.tile x).pend = [] → ∀ y gs, (s.chip.tile x).glz = y :: gs →
          Ends (.slotDelivery n i) s fun t => (t.chip.tile x).reg y.1 = (if y.1 = 0 then 0 else d % 2 ^ 32) ∧ (t.chip.tile x).glz = gs)
        ∧ (s.chip.f (Slot.SEL n i) = 2 → Ends (.slotDelivery n i) s fun t => mget 0 t.chip.pl.req (64 * n + i) = d % 2 ^ 32 + 1)
        ∧ (s.chip.f (Slot.SEL n i) = 3 → Ends (.slotDelivery n i) s fun t =>
          t.chip.pl.inPend = s.chip.pl.inPend ++ [(gNodes.idxOf n.val, s.chip.f (Slot.CHAN n i) % 8, d % 65536, s.chip.pl.abs + 2)])
        ∧ (∀ w : Fin 6, n = clusterNode w → s.chip.f (Slot.SEL n i) = 4 → s.chip.shadow = false → bits d 7 4 < 10 →
          Ends (.dutyPacketDelivery w i) s fun t => ∀ j : Fin 10, j.val ≤ bits d 7 4 →
            ∀ p, p = 16 * w.val + (d % 16 + j) % 16 → t.chip.f (Phase.TON p) = bits d (8 + 18 * j + 16) (8 + 18 * j)
            ∧ (t.chip.phase p).duty.getLast? = some (s.chip.clock, bits d (8 + 18 * j + 16) (8 + 18 * j))
            ∧ (s.chip.f (Phase.STATE p) ≠ 0 → t.chip.f (Rail.HOLD (s.chip.f (Phase.RAIL p))) = 0
                ∧ t.chip.f (Rail.FALLBACK (s.chip.f (Phase.RAIL p))) = 0)))
      ∧ (fs.length < 1 + s.chip.f (Slot.LEN2 n i) → Ends (.slotDelivery n i) s fun t =>
        Faults s t n { kind := 2, cause := 4, entry := some i, peer := s.chip.f (Slot.PEER n i), chan := s.chip.f (Slot.CHAN n i) }))

/-- R301, R303, R309–R313, R322, R345–R348: where each command of the scheduled plane has its plain effect. -/
def Obligations.PlaneCommandsHaveTheirEffects : Prop :=
  ∀ s : State, Between s →
    (s.chip.planeGoes = true → s.chip.f Plane.PBEAT + 1 < s.chip.roundLen → Ends (.planeBeat none) s fun t =>
      t.chip.f Plane.PBEAT = s.chip.f Plane.PBEAT + 1)
    ∧ (s.chip.planeGoes = true → s.chip.f Plane.PBEAT = 0 → s.chip.pl.started = false → Ends .roundStart s fun t => t.chip.pl.started = true)
    ∧ (∀ (b1 : Bool) (i : Fin 64), ∀ n, n = (if b1 then 18 else 16) → PlaneGoes s n → s.chip.f (Slot.KIND n i) = 1 → s.chip.f (Slot.SEL n i) = 3 →
      s.chip.beatsTo (s.chip.f (Slot.BEAT n i)) = 6 → Ends (.streamCapture b1 i) s fun t =>
        mget 0 t.chip.pl.capture (64 * n + i) = s.chip.stream b1 (s.chip.f (Slot.LINK n i)) + 1)
    ∧ (∀ (n : Fin 49) (i : Fin 64), PlaneGoes s n → s.chip.f (Slot.KIND n i) = 1 → s.chip.f (Slot.SEL n i) = 3 →
      s.chip.f (Slot.BEAT n i) = s.chip.f Plane.PBEAT → mget 0 s.chip.pl.capture (64 * n + i) ≠ 0 → Ends (.slotTx n i) s fun t =>
        mget 0 t.chip.pl.capture (64 * n + i) = 0 ∧ t.chip.f Plane.STATE = plRun)
    ∧ (∀ (n : Fin 49) (i : Nat) f, (s.chip.ni n).in0 = [f] → s.chip.f Plane.STATE = plRun → f.hdr.typ = 0 → f.poison = false → s.chip.ejectBuf n = [] →
      f.hdr.dst = n → s.chip.rxEntry n f.hdr.src f.hdr.tag = some i → s.chip.f (Slot.LEN2 n i) = 0 → s.chip.beatsTo (s.chip.f (Slot.BEAT n i)) ≤ 4 →
      Ends (.vc0Arrival n) s fun t => t.chip.ejectBuf n = [f] ∧ (t.chip.ni n).in0 = [])
    ∧ (∀ (n : Fin 49) (i : Fin 64) f, PlaneGoes s n → s.chip.f (Slot.KIND n i) = 2 → s.chip.f (Slot.LEN2 n i) = 0 →
      s.chip.beatsTo (s.chip.f (Slot.BEAT n i)) = 0 → s.chip.ejectBuf n = [f] → f.hdr.src = s.chip.f (Slot.PEER n i) →
      f.hdr.tag = s.chip.f (Slot.CHAN n i) → ∀ d, d = ofWords f.words →
      (s.chip.f (Slot.SEL n i) = 2 → Ends (.slotDelivery n i) s fun t => mget 0 t.chip.pl.req (64 * n + i) = d % 2 ^ 32 + 1 ∧ t.chip.ejectBuf n = [])
      ∧ (∀ w : Fin 6, n = clusterNode w → s.chip.f (Slot.SEL n i) = 4 → s.chip.shadow = false → bits d 7 4 = 0 →
        Ends (.dutyPacketDelivery w i) s fun t => t.chip.f (Phase.TON (16 * w.val + d % 16)) = bits d 24 8 ∧ t.chip.ejectBuf n = []))
    ∧ (∀ q : Sender, MayPriv s 31 q →
      (s.chip.f Plane.STATE = plFaulted → Ends (.planeRestart q) s fun t => t.chip.pl.restart = true ∧ t.chip.resp = some (stOk, []))
      ∧ (∀ sel : Fin 4, schedHeld s.chip.pw.img sel = true → s.chip.f Plane.STATE = plRun → Ends (.switch q sel) s fun t =>
        t.chip.pl.switchTo = some sel.val ∧ t.chip.resp = some (stOk, [])))
    ∧ (s.chip.pl.restart = true → s.chip.f Plane.STATE = plFaulted → Ends .planeRestartStart s fun t =>
      t.chip.f Plane.STATE = plRun ∧ t.chip.pl.restart = false)
    ∧ (∀ n, s.chip.pl.switchTo = some n → s.chip.f Plane.STATE = plSwitching → Ends .schedSwitched s fun t =>
      t.chip.pl.switchTo = none ∧ (t.chip.f Plane.STATE = plRun ∨ t.chip.f Plane.STATE = plStopped))

/-- R319, R320, R323, R324, R359: a G port samples for its REPLY entry; it holds the plane while a channel is not VALID, and a hold whose
last sample, that of STALL_MAX, finds it so raises GLAZE_LATE. R337: a fault reported by an NI. -/
def Obligations.GlazeRepliesHoldThePlane : Prop :=
  ∀ s : State, Between s →
    (∀ (g : Fin 4) (i : Fin 64), ∀ n, n = gNode g → s.chip.f Plane.STATE = plRun → s.chip.fenced n = false → s.chip.f (Slot.KIND n i) = 1 →
      s.chip.f (Slot.SEL n i) = 4 → s.chip.beatsTo (s.chip.f (Slot.BEAT n i)) = 1 → mget none s.chip.pl.holds g = none →
      ∀ d, d = mget 0 s.chip.pl.req (64 * n + s.chip.f (Slot.LINK n i)) - 1 → mget 0 s.chip.pl.req (64 * n + s.chip.f (Slot.LINK n i)) ≠ 0 →
      (s.chip.replyRest g d = false →
        (∀ v, s.chip.replyValue g d = some v → Ends (.replySample g i) s fun t => mget 0 t.chip.pl.reply (64 * n + i) = v + 1
          ∧ mget 0 t.chip.pl.req (64 * n + s.chip.f (Slot.LINK n i)) = 0 ∧ t.chip.pl.holds = s.chip.pl.holds)
        ∧ (s.chip.replyValue g d = none → Ends (.replySample g i) s fun t => mget none t.chip.pl.holds g = some { entry := i }
          ∧ ∀ x : Fin 24, s.chip.f (Tile.STATE (tileNode x)) = 1 → t.chip.f (Tile.STATE (tileNode x)) = 2))
      ∧ (s.chip.replyRest g d = true → Ends (.replySample g i) s fun t => Faults s t n (lateRec s g i d 0)))
    ∧ (∀ g : Fin 4, ∀ h, mget none s.chip.pl.holds g = some h → s.chip.f Plane.STATE = plRun →
      ∀ key, key = 64 * gNode g + s.chip.f (Slot.LINK (gNode g) h.entry) → mget 0 s.chip.pl.req key ≠ 0 →
      ∀ d, d = mget 0 s.chip.pl.req key - 1 →
      (h.late = false →
        (s.chip.replyValue g d = none → Ends (.planeHoldSample g) s fun t => mget none t.chip.pl.holds g
          = some { h with beats := h.beats + 1, late := decide (s.chip.stallMax ≤ h.beats + 1) })
        ∧ (∀ v, s.chip.replyValue g d = some v → Ends (.planeHoldSample g) s fun t => mget none t.chip.pl.holds g = none
          ∧ mget 0 t.chip.pl.reply (64 * gNode g + h.entry) = v + 1 ∧ mget 0 t.chip.pl.req key = 0))
      ∧ (h.late = true → (Ends (.glazeLate g) s fun t => Faults s t (gNode g) (lateRec s g h.entry d h.beats))
        ∧ Ends (.planeHoldSample g) s fun t => t = s))
    ∧ (∀ (n : Fin 49) (r : FaultRec), r.kind = 1 ∨ r.kind = 2 ∨ r.kind = 3 ∨ r.kind = 4 ∨ r.kind = 5 ∨ r.kind = 6 ∨ r.kind = 7 →
      Ends (.schedFault n r) s fun t => Faults s t n (reportedRec s n r))

/-- R330–R333: in a tile's turn DQX takes its outbound entries into a buffer of 16, and the command at the buffer's front, once the READ before
it has placed its data: a WRITE stores its entries, a READ brings the words to the inbound queue in order; a command of another OP, off its
alignment or outside the tile's window is discarded with its data and CMD_ERR is set. -/
def Obligations.DqxMovesDoublewords : Prop :=
  ∀ (s : State) (e : Fin 24), Between s → s.chip.fenced 48 = false → ∀ h, h = (s.chip.dq e).taken →
    (s.chip.dqTurn s.chip.pl.dqCmd DqH.works = some e.val → h.due = false → Ends (.dqxCommand e) s fun t =>
      t.chip.dq e = h ∧ t.chip.pl.dqCmd = e ∧ SameMemory s t)
    ∧ (∀ c rest, s.chip.dqTurn s.chip.pl.dqCmd DqH.works = some e.val → h.buf = c :: rest → h.rdata = [] →
      ∀ k, k = bits c 58 56 + 1 → ∀ a, a = bits c 31 0 →
      ∀ inWindow, inWindow = (decide (s.chip.f (Dqx.WINBASE e) ≤ a) && decide (a + 8 * k ≤ s.chip.f (Dqx.WINBASE e) + 2 ^ clampN 3 31 (s.chip.f (Dqx.WINLOG e)))) →
      (bits c 63 62 = 2 → a % 8 = 0 → inWindow = true → Ends (.dqxCommand e) s fun t =>
        t.chip.dq e = { h with buf := rest, rdata := (List.range k).map (fun i => s.chip.xword (a + 8 * i)) } ∧ SameMemory s t)
      ∧ (bits c 63 62 = 3 → a % 8 = 0 → inWindow = true → k ≤ rest.length → Ends (.dqxCommand e) s fun t =>
        t.chip.dq e = { h with buf := rest.drop k } ∧ (∀ i : Fin 8, i.val < k → t.chip.xword (a + 8 * i) = (rest[i.val]?.getD 0) % 2 ^ 64)
        ∧ (∀ b, (b < a ∨ a + 8 * k ≤ b) → mget 0 t.chip.xmem b = mget 0 s.chip.xmem b)
        ∧ (Map.wf (0 : Byte) s.chip.xmem = true → Map.wf (0 : Byte) t.chip.xmem = true))
      ∧ (bits c 63 62 < 2 ∨ (bits c 63 62 = 2 ∧ (a % 8 ≠ 0 ∨ inWindow = false)) → Ends (.dqxCommand e) s fun t =>
        t.chip.dq e = { h with buf := rest } ∧ t.chip.f (Dq.CMD_ERR (tileNode e)) = 1 ∧ SameMemory s t)
      ∧ (bits c 63 62 = 3 ∧ (a % 8 ≠ 0 ∨ inWindow = false) ∧ k ≤ rest.length → Ends (.dqxCommand e) s fun t =>
        t.chip.dq e = { h with buf := rest.drop k } ∧ t.chip.f (Dq.CMD_ERR (tileNode e)) = 1 ∧ SameMemory s t))
    ∧ (∀ v rest, s.chip.dqTurn s.chip.pl.dqDat DqH.places = some e.val → (s.chip.dq e).rdata = v :: rest → Ends (.dqxReadData e) s fun t =>
      (t.chip.dq e).rdata = rest ∧ (t.chip.dq e).inq = (s.chip.dq e).inq ++ [v]
      ∧ t.chip.f (Dq.IN_CNT (tileNode e)) = (s.chip.dq e).inq.length + 1 ∧ SameMemory s t)

/-! ### LOCK -/

namespace Sys2Proof.Slice0

open Sys2Proof.Machine Sys2Proof.Machine.Reg

/-- LOCK answers the operation of sender `q` for ORIG_TENANT `orig` on `lock` with a result and AHEAD, and the requester's effective priority
after it (R520). -/
def LkAnswers (s t : State) (q : Sender) (orig : Fin 8) (lock : Fin 256) (result ahead : Nat) : Prop :=
  Answers s t 24 fun p => p.hdr.typ = 8 ∧ p.hdr.vc = 1 ∧ p.hdr.dst = q.src ∧ p.hdr.status = stOk
    ∧ p.words = [BitVec.ofNat 32 (lock + result * 2 ^ 8 + t.lock.epOf (128 * orig + q.src) * 2 ^ 16 + ahead * 2 ^ 24), 0, 0, 0]

/-- LOCK refuses with a status and changes nothing. -/
def LkRefuses (s t : State) (q : Sender) (st : Nat) : Prop :=
  t.lock = s.lock ∧ Answers s t 24 fun p => p.hdr.typ = 8 ∧ p.hdr.dst = q.src ∧ p.hdr.status = st ∧ p.words = []

/-- R515, R548, R550: LOCK judges the operation: it is not fenced, the group admits the tenants, it is no Shadow's, and the requester is not
quarantined. -/
abbrev LkJudges (s : State) (q : Sender) (orig : Fin 8) (lock : Fin 256) : Prop :=
  s.chip.fenced 24 = false ∧ bit (s.chip.f (Lgrp.MASK (lock / 16))) q.tenant = true ∧ bit (s.chip.f (Lgrp.MASK (lock / 16))) orig = true
    ∧ s.chip.f Dip.ROLE ≠ 3 ∧ s.lock.quarantined (128 * orig + q.src) = false

/-- R536: waiting for a lock that `g` holds would close a cycle through `r`. -/
def closesCycle (s : State) (r g : Nat) : Bool := match s.lock.chain r 8 g with | .cycle _ => true | _ => false

/-- Every lock but one has the record it had. -/
def OtherLocks (s t : State) (lock : Nat) : Prop := ∀ m : Fin 256, m.val ≠ lock → t.lock.lockRec m = s.lock.lockRec m

end Sys2Proof.Slice0

/-- R523–R525, R529–R531, R537, R539, R540: ACQUIRE and TRY, in a beat in which LOCK has performed no timeout and no reset (R560). -/
def Sys2Proof.Slice0.LockAcquireGrantsOrQueues : Prop :=
  ∀ (s : State) (q : Sender) (orig : Fin 8) (lock : Fin 256) (prio : Fin 16), Between s → LockQuiet s →
    LkJudges s q orig lock → Safety.lockSound s →
    ∀ r, r = 128 * orig.val + q.src.val →
    ((s.lock.lockRec lock).holder = none →
      ∀ code, code = (if (s.lock.lockRec lock).abandoned then 12 else 1) →
      (Ends (.lockAcquire q orig lock prio) s fun t => t.lock.lockRec lock = { holder := some r, base := prio, abandoned := false, timer := true }
        ∧ LkAnswers s t q orig lock code 0 ∧ OtherLocks s t lock)
      ∧ (Ends (.lockTry q orig lock prio) s fun t => t.lock.lockRec lock = { holder := some r, base := prio, abandoned := false, timer := true }
        ∧ LkAnswers s t q orig lock code 0 ∧ OtherLocks s t lock))
    ∧ ((s.lock.lockRec lock).holder = some r →
      (Ends (.lockAcquire q orig lock prio) s fun t => t.lock.lockRec lock = { s.lock.lockRec lock with base := prio }
        ∧ LkAnswers s t q orig lock 3 0 ∧ OtherLocks s t lock)
      ∧ (Ends (.lockTry q orig lock prio) s fun t => t.lock.lockRec lock = { s.lock.lockRec lock with base := prio }
        ∧ LkAnswers s t q orig lock 3 0 ∧ OtherLocks s t lock))
    ∧ (∀ g, (s.lock.lockRec lock).holder = some g → g ≠ r →
      (Ends (.lockTry q orig lock prio) s fun t => t.lock = s.lock ∧ LkAnswers s t q orig lock 8 0)
      ∧ (∀ w, s.lock.waitOf r = some w → w.lock ≠ lock → Ends (.lockAcquire q orig lock prio) s fun t =>
          t.lock = s.lock ∧ LkAnswers s t q orig lock 9 0)
      ∧ (∀ w, s.lock.waitOf r = some w → w.lock = lock → Ends (.lockAcquire q orig lock prio) s fun t =>
          (t.lock.waitOf r).map LockWait.prio = some prio.val ∧ (t.lock.queue lock).length = (s.lock.queue lock).length
          ∧ LkAnswers s t q orig lock 4 (t.lock.ahead r lock) ∧ ∀ m : Fin 256, t.lock.lockRec m = s.lock.lockRec m)
      ∧ (s.lock.waitOf r = none →
        (closesCycle s r g = true → Ends (.lockAcquire q orig lock prio) s fun t =>
          t.lock = s.lock ∧ LkAnswers s t q orig lock 10 0 ∧ t.chip.f Lunit.DEADLOCK_CNT = min 65535 (s.chip.f Lunit.DEADLOCK_CNT + 1))
        ∧ (closesCycle s r g = false →
          (s.lock.waits.length = 512 → Ends (.lockAcquire q orig lock prio) s fun t => LkRefuses s t q stBusy)
          ∧ (s.lock.waits.length < 512 → Ends (.lockAcquire q orig lock prio) s fun t => ⟨r, lock, prio⟩ ∈ t.lock.queue lock
              ∧ (t.lock.queue lock).length = (s.lock.queue lock).length + 1 ∧ LkAnswers s t q orig lock 2 (t.lock.ahead r lock)
              ∧ ∀ m : Fin 256, t.lock.lockRec m = s.lock.lockRec m)
          ∧ (s.lock.waits.length < 512 → s.lock.holds r = [] → (∀ w ∈ s.lock.queue lock, prio.val ≤ s.lock.epOf w.req) → s.lock.waitOf g = none →
              Ends (.lockAcquire q orig lock prio) s fun t => t.lock.queue lock = s.lock.queue lock ++ [⟨r, lock, prio⟩]
                ∧ t.lock.epOf g = max (s.lock.calc g) prio)
          ∧ (s.lock.waits.length < 512 → s.lock.holds r = [] → (∀ w ∈ s.lock.queue lock, s.lock.epOf w.req < prio.val) → s.lock.waitOf g = none →
              Ends (.lockAcquire q orig lock prio) s fun t => t.lock.queue lock = ⟨r, lock, prio⟩ :: s.lock.queue lock))))

/-- R526, R527: RELEASE frees the lock, or grants it to the head of its queue in the same operation; a waiter's wait is removed; any other
requester changes nothing. R515, R548, R550: what LOCK does not judge changes nothing. R560: a RELEASE in the beat of a hold timeout
comes before it. -/
def Sys2Proof.Slice0.LockReleaseGrantsTheHead : Prop :=
  ∀ (s : State) (q : Sender) (orig : Fin 8) (lock : Fin 256), Between s → LockQuiet s → Safety.lockSound s →
    ∀ r, r = 128 * orig.val + q.src.val →
    (LkJudges s q orig lock →
      ((s.lock.lockRec lock).holder = some r →
        (s.lock.queue lock = [] → Ends (.lockRelease q orig lock) s fun t =>
          t.lock.lockRec lock = { s.lock.lockRec lock with holder := none, base := 0, timer := false } ∧ LkAnswers s t q orig lock 5 0 ∧ OtherLocks s t lock)
        ∧ (∀ w ws, s.lock.queue lock = w :: ws → Ends (.lockRelease q orig lock) s fun t =>
          t.lock.lockRec lock = { holder := some w.req, base := w.prio, abandoned := false, timer := true }
          ∧ t.lock.waitOf w.req = none ∧ LkAnswers s t q orig lock 5 0 ∧ OtherLocks s t lock))
      ∧ ((s.lock.lockRec lock).holder ≠ some r →
        (∀ w, s.lock.waitOf r = some w → w.lock = lock → Ends (.lockRelease q orig lock) s fun t => t.lock.waitOf r = none
          ∧ LkAnswers s t q orig lock 6 0 ∧ ∀ m : Fin 256, t.lock.lockRec m = s.lock.lockRec m)
        ∧ ((s.lock.waitOf r).all (fun w => w.lock != lock.val) = true → Ends (.lockRelease q orig lock) s fun t =>
          t.lock = s.lock ∧ LkAnswers s t q orig lock 7 0)))
    ∧ (s.chip.fenced 24 = false →
      (bit (s.chip.f (Lgrp.MASK (lock / 16))) q.tenant = false ∨ bit (s.chip.f (Lgrp.MASK (lock / 16))) orig = false →
        (∀ prio, Ends (.lockAcquire q orig lock prio) s fun t => LkRefuses s t q stDenied)
        ∧ (∀ prio, Ends (.lockTry q orig lock prio) s fun t => LkRefuses s t q stDenied)
        ∧ (Ends (.lockRelease q orig lock) s fun t => LkRefuses s t q stDenied))
      ∧ (bit (s.chip.f (Lgrp.MASK (lock / 16))) q.tenant = true → bit (s.chip.f (Lgrp.MASK (lock / 16))) orig = true →
        (s.chip.f Dip.ROLE = 3 → (∀ prio, Ends (.lockAcquire q orig lock prio) s fun t => t.lock = s.lock ∧ LkAnswers s t q orig lock 14 0)
          ∧ (Ends (.lockRelease q orig lock) s fun t => t.lock = s.lock ∧ LkAnswers s t q orig lock 14 0))
        ∧ (s.chip.f Dip.ROLE ≠ 3 → s.lock.quarantined r = true →
          (∀ prio, Ends (.lockAcquire q orig lock prio) s fun t => t.lock = s.lock ∧ LkAnswers s t q orig lock 11 0)
          ∧ (Ends (.lockRelease q orig lock) s fun t => t.lock = s.lock ∧ LkAnswers s t q orig lock 11 0))))
    ∧ (LkJudges s q orig lock → s.chip.f (Lgrp.HOLD_TMO (lock / 16)) ≠ 0 → s.chip.f (Lgrp.FORCE_TMO (lock / 16)) = 0 →
      (s.lock.lockRec lock).holder = some r → (s.lock.lockRec lock).timer = true → s.lock.queue lock = [] → (s.chip.ni 24).send3.length < 7 →
      Ends (.lockHoldTmo lock) s fun t => Ends (.lockRelease q orig lock) t fun u =>
        u.lock.lockRec lock = { s.lock.lockRec lock with holder := none, base := 0, timer := false } ∧ LkAnswers s u q orig lock 5 0
        ∧ (u.chip.ni 24).send3 = (s.chip.ni 24).send3)

/-- R515, R523–R531, R537, R539, R540, R548, R550: ACQUIRE, TRY and RELEASE. -/
def Obligations.LockAcquireAndRelease : Prop :=
  LockAcquireGrantsOrQueues ∧ LockReleaseGrantsTheHead

/-- R543, R544: a hold timeout posts its event, and with FORCE_TMO, as a write of FORCE, ends the hold with the ABANDONED flag, the head of the
queue told ABANDONED. R550: in a Shadow neither happens. R534: notices that waited leave in order. R533: a notice at a P tile lies in its mailbox and sets its line.
R548: a quarantine ends. -/
def Obligations.LockForcesNoticesAndQuarantines : Prop :=
  ∀ s : State, Between s → LockQuiet s →
    (s.chip.f Dip.ROLE ≠ 3 → ∀ (lock : Fin 256) (g : Nat), g = (s.lock.lockRec lock).holder.getD 0 → (s.lock.lockRec lock).holder ≠ none →
      (s.chip.f (Lgrp.HOLD_TMO (lock / 16)) ≠ 0 → (s.lock.lockRec lock).timer = true →
        (s.chip.f (Lgrp.FORCE_TMO (lock / 16)) = 0 → Ends (.lockHoldTmo lock) s fun t =>
          t.lock.lockRec lock = { s.lock.lockRec lock with timer := false } ∧ OtherLocks s t lock
          ∧ Posts s t 24 5 3 [(8, lock), (8, g / 128), (8, g % 128), (8, 0)])
        ∧ (s.chip.f (Lgrp.FORCE_TMO (lock / 16)) = 1 → s.lock.queue lock = [] → Ends (.lockHoldTmo lock) s fun t =>
          t.lock.lockRec lock = { holder := none, base := 0, abandoned := true, timer := false } ∧ OtherLocks s t lock)
        ∧ (s.chip.f (Lgrp.FORCE_TMO (lock / 16)) = 1 → ∀ w ws, s.lock.queue lock = w :: ws → Ends (.lockHoldTmo lock) s fun t =>
          t.lock.lockRec lock = { holder := some w.req, base := w.prio, abandoned := false, timer := true } ∧ OtherLocks s t lock))
      ∧ (∀ q : Sender, s.chip.fenced 24 = false → (q.priv = true ∨ q.tenant.val = s.chip.f (Lgrp.ADMIN (lock / 16))) →
        (s.lock.queue lock = [] → Ends (.lockForce lock q) s fun t => t.chip.resp = some (stOk, [])
          ∧ t.lock.lockRec lock = { holder := none, base := 0, abandoned := true, timer := false } ∧ OtherLocks s t lock
          ∧ t.chip.f Lunit.ABANDON_CNT = min 65535 (s.chip.f Lunit.ABANDON_CNT + 1))
        ∧ (∀ w ws, s.lock.queue lock = w :: ws → Ends (.lockForce lock q) s fun t => t.chip.resp = some (stOk, [])
          ∧ t.lock.lockRec lock = { holder := some w.req, base := w.prio, abandoned := false, timer := true } ∧ OtherLocks s t lock)))
    ∧ (∀ (lock : Fin 256) (q : Sender), s.chip.fenced 24 = false → q.priv = false → q.tenant.val ≠ s.chip.f (Lgrp.ADMIN (lock / 16)) →
      Ends (.lockForce lock q) s fun t => Refuses s t stDenied)
    ∧ (∀ (lock : Fin 256) (q : Sender), s.chip.fenced 24 = false → (q.priv = true ∨ q.tenant.val = s.chip.f (Lgrp.ADMIN (lock / 16))) →
      (s.lock.lockRec lock).holder = none ∨ s.chip.f Dip.ROLE = 3 → Ends (.lockForce lock q) s fun t => t.lock = s.lock)
    ∧ (s.chip.f Dip.ROLE = 3 → (∀ lock : Fin 256, Ends (.lockHoldTmo lock) s fun t => t = s) ∧ Ends .noticeSendPending s fun t => t = s)
    ∧ (s.chip.f Dip.ROLE ≠ 3 → ∀ room, room = (if s.chip.fenced 24 then 0 else 8 - (s.chip.ni 24).send3.length) → Ends .noticeSendPending s fun t =>
      t.lock.held = s.lock.held.drop room ∧ (t.chip.ni 24).send3.length = (s.chip.ni 24).send3.length + min room s.lock.held.length
      ∧ ((t.chip.ni 24).send3.drop (s.chip.ni 24).send3.length).map (fun p => 128 * p.hdr.tenant + p.hdr.dst) = (s.lock.held.take room).map
          (fun n => n.req / 128 * 128 + n.req % 128)
      ∧ ∀ m : Fin 256, t.lock.lockRec m = s.lock.lockRec m)
    ∧ (∀ p : Fin 4, ∀ k ks, (s.chip.ni (natAt pNodes p)).in3 = k :: ks → k.hdr.typ = 9 →
      ∀ a, a = pDmem p + (131072 - 128) + 8 * (wordAt k.words 1 % 65536 % 8) → ∀ u, u = s.chip.settled (24 + p) → Ends (.noticeDelivery p) s fun t =>
        t.chip.bytesAt a 4 = wordAt k.words 0 ∧ t.chip.bytesAt (a + 4) 4 = wordAt k.words 1 ∧ (t.chip.ni (natAt pNodes p)).in3 = ks
        ∧ (t.chip.tile (24 + p)).ipend = ((u.tile (24 + p)).ipend ||| (if bits (wordAt k.words 0) 9 8 = 1 then 16 else 8))
        ∧ (∀ b, (b < a ∨ a + 8 ≤ b) → t.chip.byte b = u.byte b) ∧ ∀ b, t.chip.reg b = u.reg b)
    ∧ (∀ (x : Fin 8) (n : Option (Fin 49)), Ends (.lockQuarantineEnd x n) s fun t =>
      t.lock.quar = s.lock.quar.filter (fun p => p != (x.val, n.map Fin.val)) ∧ (∀ m : Fin 256, t.lock.lockRec m = s.lock.lockRec m)
      ∧ t.lock.waits = s.lock.waits ∧ SameMemory s t ∧ SameRegsBut (fun _ => False) s t)

/-! ### Hosts -/

namespace Sys2Proof.Slice0

open Sys2Proof.Machine Sys2Proof.Machine.Reg

/-- R568, R569, R572, R617: the port of `x` serves its tenant on that bus, and the tenant is not resetting and has a place in its ingress
queue; no frame of an earlier transaction is open (R605). -/
abbrev Serves (s : State) (x : HostTx) : Prop :=
  s.chip.portServes x.port x.i3c = true ∧ (x.i3c = true → (s.chip.portH x.port).dyn.isSome = true ∧ (s.chip.portH x.port).hdr = false)
    ∧ s.chip.f (Tenant.RESETTING (x.port + 1)) = 0 ∧ (s.chip.ten (x.port + 1)).ops.length < 8 ∧ (s.chip.ten (x.port + 1)).filling = false

/-- R576: the write has ended, with a correct PEC, or none where none is asked; I3C has none. -/
abbrev PecGood (s : State) (x : HostTx) : Prop :=
  x.ended = true ∧ (x.i3c = true ∨ x.pec = some true ∨ (x.pec = none ∧ s.chip.f (PortQ.PEC_REQ x.port) = 0))

/-- Tenant `t` has lost nothing in this beat (R627, R630). -/
abbrev NoLoss (s : State) (t : Nat) : Prop := ∀ l, (s.chip.ten t).lost = some l → l.beat ≠ s.chip.clock

/-- The read answers its tenant, which has TELEM, the bytes `bs`; registers and memories are as before. -/
def HostReads (i : Instr) (s : State) (x : HostTx) (bs : List Byte) : Prop :=
  Serves s x → s.chip.hasRight (x.port + 1) 0 = true → Ends i s fun t =>
    (t.chip.ten (x.port + 1)).ack = true ∧ (t.chip.ten (x.port + 1)).out = bs ∧ SameMemory s t ∧ SameRegsBut (fun _ => False) s t

/-- The port acknowledges, and no bytes come back. -/
def HostAcks (t : State) (x : HostTx) : Prop := (t.chip.ten (x.port + 1)).ack = true ∧ (t.chip.ten (x.port + 1)).out = []

/-- A host command sends one request to the Lattice: the operation joins the tenant's queue and the retry cache, and no register or memory
byte changes. -/
def HostAsks (i : Instr) (s : State) (x : HostTx) (code : Nat) (seq : Option Nat) (P : Pkt → Prop) : Prop :=
  ∀ h, h = s.chip.ten (x.port + 1) →
  Ends i s fun t => Asks s t 0 (fun p => p.hdr.vc = 2 ∧ p.hdr.priv = false ∧ p.hdr.src = 0
        ∧ p.hdr.prio = s.chip.f (Tenant.PRIO (x.port + 1)) ∧ P p)
    ∧ (t.chip.ten (x.port + 1)).ops.map (fun o => (o.id, o.code, o.seq)) = h.ops.map (fun o => (o.id, o.code, o.seq)) ++ [(h.nextId, code, seq)]
    ∧ (t.chip.ten (x.port + 1)).cache = some { code := code, page := s.chip.f (PortQ.PAGE x.port), seq := seq }
    ∧ SameMemory s t ∧ SameRegsBut (fun _ => False) s t

/-- The request writes word `w` to the word of rail field `a` at B1, with TENANT T0 (R574). -/
def ToRail (a : Fld) (w : Nat) (p : Pkt) : Prop :=
  p.hdr.typ = 2 ∧ p.hdr.tenant = 0 ∧ p.hdr.dst = 18 ∧ p.hdr.offset = a.addr % 2 ^ 25 ∧ p.words = [BitVec.ofNat 32 w]

/-- rne(num / den × 2^−n). -/
def scaled (num : Int) (den : Nat) (n : Int) : Int :=
  if n ≤ 0 then rneDiv (num * 2 ^ n.natAbs) den else rneDiv num (den * 2 ^ n.natAbs)

/-- Conditions of the **Status mapping** table on port `q` and rail `r`, with what is latched: VOUT_OV, OV fault, UV fault, IOUT_OC, UV
warning, BUS_UV, OT fault, OT warning. -/
def stOvNow (s : State) (q r : Nat) : Bool := bit (s.chip.latched q r) 0 || s.chip.b (Rail.OV_ACTIVE r) || s.chip.f (Rail.OFF_CAUSE r) == 1
@[inherit_doc stOvNow] def stOv (s : State) (q r : Nat) : Bool := bit (s.chip.latched q r) 3 || s.chip.f (Rail.OFF_CAUSE r) == 1
@[inherit_doc stOvNow] def stUv (s : State) (q r : Nat) : Bool := bit (s.chip.latched q r) 4 || s.chip.f (Rail.OFF_CAUSE r) == 2
@[inherit_doc stOvNow] def stOc (s : State) (q r : Nat) : Bool :=
  bit (s.chip.latched q r) 1
    || (List.range 96).any (fun p => s.chip.f (Phase.STATE p) != 0 && s.chip.f (Phase.RAIL p) == r && s.chip.b (Phase.OC_LATCHED p))
@[inherit_doc stOvNow] def stBusW (s : State) (q r : Nat) : Bool := bit (s.chip.latched q r) 5 || s.chip.rl.vb48
@[inherit_doc stOvNow] def stBus (s : State) (q r : Nat) : Bool := bit (s.chip.latched q r) 2 || s.chip.f (Rail.OFF_CAUSE r) == 3
@[inherit_doc stOvNow] def stOt (s : State) (q r : Nat) : Bool := bit (s.chip.latched q r) 6 || s.chip.f (Rail.OFF_CAUSE r) == 4
@[inherit_doc stOvNow] def stOtW (s : State) (q r : Nat) : Bool :=
  bit (s.chip.latched q r) 7
    || (List.range 32).any (fun k => s.chip.b (Tmon.EN k) && s.chip.f (Tmon.RAIL k) == r && (s.chip.tmonH k).warned)
@[inherit_doc stOvNow] def stCml (s : State) (q r : Nat) : Nat := s.chip.latched q r / 256
/-- The rail is off: EN = 0 or OFF_LATCHED. -/
def stOff (s : State) (r : Nat) : Bool := s.chip.f (Rail.EN r) == 0 || s.chip.b (Rail.OFF_LATCHED r)

/-- STATUS_BYTE with the bits [15:8] of STATUS_WORD above it (R579). -/
def stWord (s : State) (q r : Nat) : Nat :=
  let hi := b2n (stOv s q r || stUv s q r) * 128 + b2n (stOc s q r) * 64 + b2n (stBusW s q r || stBus s q r) * 32
    + b2n ((s.chip.ten (q + 1)).notices != [] || (s.chip.ten (q + 1)).outbox != []) * 16
    + b2n (stOff s r || decide ((s.chip.f (Rail.VSENSE r) : Int) < s.chip.uvLevel r)) * 8
  let lo := b2n (stOff s r) * 64 + b2n (stOvNow s q r) * 32 + b2n (stOc s q r) * 16 + b2n (stBus s q r) * 8
    + b2n (stOt s q r || stOtW s q r) * 4 + b2n (stCml s q r != 0) * 2
  hi * 256 + lo + b2n (lo == 0 && hi != 0)

/-- Bit `b` of TENFAULT of tenant `t` (R613). -/
def tenF (s : State) (t b : Nat) : Bool := bit (s.chip.reg (Tenant.TENFAULT t).addr).toNat b

/-- The addresses of tenant `t`'s TENFAULT word. -/
def TenFaultWord (t a : Nat) : Prop := a = (Tenant.TENFAULT t).addr

/-- The command is not performed: the port refuses it, with a bit of STATUS_CML and one of TENFAULT. -/
def HostRefuses (i : Instr) (s : State) (x : HostTx) (cml fault : Nat) : Prop :=
  Ends i s fun t => (t.chip.ten (x.port + 1)).ack = false ∧ (t.chip.ten (x.port + 1)).out = []
    ∧ bit (stCml t x.port (s.chip.f (PortQ.PAGE x.port))) cml = true ∧ tenF t (x.port + 1) fault = true
    ∧ SameMemory s t ∧ SameRegsBut (TenFaultWord (x.port + 1)) s t

/-- A write the port acknowledges and does not perform: bit 6 of STATUS_CML (R577, R578, R589). -/
def HostInvalid (i : Instr) (s : State) (x : HostTx) : Prop :=
  Ends i s fun t => HostAcks t x ∧ bit (stCml t x.port (s.chip.f (PortQ.PAGE x.port))) 6 = true ∧ SameMemory s t
    ∧ SameRegsBut (fun _ => False) s t

end Sys2Proof.Slice0

/-- R577, R578, R138, R139: the reads of the **PMBus commands** table. Where no TMON is mapped to the rail the spec states no temperature:
two bytes come back. -/
def Sys2Proof.Slice0.HostReadsReturnTheirFields : Prop :=
  (∀ (s : State) (x : HostTx), Between s → ∀ r, r = s.chip.f (PortQ.PAGE x.port) →
    HostReads (.page x none) s x (toBytes 1 r)
    ∧ HostReads (.operation x none) s x [if s.chip.f (Rail.EN r) = 1 then 0x80 else 0]
    ∧ HostReads (.capability x) s x [0xD0] ∧ HostReads (.voutMode x) s x [0x14]
    ∧ HostReads (.voutCommand x none) s x (toBytes 2 (rneDiv (s.chip.f (Rail.VSET r) * 4096) 2000).toNat)
    ∧ HostReads (.voutMax x) s x (toBytes 2 (rneDiv (s.chip.f (Rail.VOUT_MAX r) * 4096) 2000).toNat)
    ∧ HostReads (.readVin x) s x (toBytes 2 (linear11 (s.chip.f Board.VBUS12) 200 7))
    ∧ HostReads (.readIin x) s x (toBytes 2 (linear11 (s.chip.f Board.IBUS) 16 4))
    ∧ HostReads (.readVout x) s x (toBytes 2 (rneDiv (s.chip.f (Rail.VSENSE r) * 4096) 4000).toNat)
    ∧ HostReads (.readIout x) s x (toBytes 2 (linear11 (s.chip.fi (Rail.IRAIL r)) 16 4))
    ∧ HostReads (.readPout x) s x (toBytes 2 (linear11 (s.chip.f (Rail.VSENSE r) * s.chip.fi (Rail.IRAIL r)) 64000 2))
    ∧ (∀ k : Fin 32, s.chip.f (Tmon.EN k) = 1 → s.chip.f (Tmon.RAIL k) = r →
        (∀ j : Fin 32, s.chip.f (Tmon.EN j) = 1 → s.chip.f (Tmon.RAIL j) = r → s.chip.fi (Tmon.TEMP j) ≤ s.chip.fi (Tmon.TEMP k)) →
        HostReads (.readTemperature1 x) s x (toBytes 2 (linear11 (s.chip.fi (Tmon.TEMP k)) 8 3)))
    ∧ ((∀ j : Fin 32, s.chip.f (Tmon.EN j) = 1 → s.chip.f (Tmon.RAIL j) ≠ r) → Serves s x → s.chip.hasRight (x.port + 1) 0 = true →
        Ends (.readTemperature1 x) s fun t => (t.chip.ten (x.port + 1)).ack = true ∧ (t.chip.ten (x.port + 1)).out.length = 2)
    ∧ HostReads (.pmbusRevision x) s x [0x33] ∧ HostReads (.mfrId x) s x [0x4B, 0x41, 0x5A, 0x45, 0x43]
    ∧ HostReads (.mfrModel x) s x [0x53, 0x4B, 0x37, 0x32, 0x34, 0x30] ∧ HostReads (.mfrRevision x) s x [0x41, 0x32])
  ∧ (∀ (num : Int) (den negMin : Nat), 0 < den → negMin ≤ 15 → num.natAbs ≤ 1023 * 2 ^ 15 * den →
      ∀ n, n = sgn 5 (linear11 num den negMin / 2 ^ 11) → ∀ y, y = sgn 11 (linear11 num den negMin % 2 ^ 11) →
        -negMin ≤ n ∧ n ≤ 15 ∧ y = scaled num den n ∧ y.natAbs ≤ 1023
        ∧ ∀ k : Fin 31, -negMin ≤ (k.val : Int) - 15 → (k.val : Int) - 15 < n → 1023 < (scaled num den (k.val - 15)).natAbs)

/-- R579: the status reads of the **Status mapping** table; CLEAR_FAULTS leaves the bits whose condition holds. R589: the tenant's faults,
and the oldest notice. R630: a notice that found the queue full in the same beat takes its place. -/
def Sys2Proof.Slice0.HostStatusFollowsItsConditions : Prop :=
  ∀ (s : State) (x : HostTx), Between s → ∀ r, r = s.chip.f (PortQ.PAGE x.port) → ∀ q, q = x.port.val →
    HostReads (.statusWord x) s x (toBytes 2 (stWord s q r)) ∧ HostReads (.statusByte x) s x (toBytes 1 (stWord s q r))
    ∧ HostReads (.statusVout x) s x (toBytes 1 (b2n (stOv s q r) * 128 + b2n (stUv s q r) * 16))
    ∧ HostReads (.statusIout x) s x (toBytes 1 (b2n (stOc s q r) * 128))
    ∧ HostReads (.statusInput x) s x (toBytes 1 (b2n (stBusW s q r) * 32 + b2n (stBus s q r) * 16))
    ∧ HostReads (.statusTemperature x) s x (toBytes 1 (b2n (stOt s q r) * 128 + b2n (stOtW s q r) * 64))
    ∧ HostReads (.statusCml x) s x (toBytes 1 (stCml s q r))
    ∧ (Serves s x → PecGood s x → s.chip.shadow = false → s.chip.hasRight (q + 1) 1 = true → Ends (.clearFaults x) s fun t =>
        HostAcks t x ∧ stCml t q r = 0 ∧ stOv t q r = (s.chip.f (Rail.OFF_CAUSE r) == 1) ∧ stUv t q r = (s.chip.f (Rail.OFF_CAUSE r) == 2)
        ∧ stBus t q r = (s.chip.f (Rail.OFF_CAUSE r) == 3) ∧ stOt t q r = (s.chip.f (Rail.OFF_CAUSE r) == 4) ∧ stBusW t q r = s.chip.rl.vb48
        ∧ (∀ k : Fin 32, k.val ≠ 16 * q + r → t.chip.latched (k / 16) (k % 16) = s.chip.latched (k / 16) (k % 16))
        ∧ SameMemory s t ∧ SameRegsBut (fun _ => False) s t)
    ∧ (Serves s x → Ends (.mfrTenantStatus x) s fun t => (t.chip.ten (q + 1)).ack = s.chip.hasRight (q + 1) 0
        ∧ (s.chip.hasRight (q + 1) 0 = true → (t.chip.ten (q + 1)).out
            = toBytes 4 (s.chip.reg (Tenant.TENFAULT (q + 1)).addr).toNat ++ toBytes 2 (s.chip.f (Tenant.DROP_FRAMES (q + 1)))
              ++ toBytes 2 (s.chip.f (Tenant.NOTICE_LOST (q + 1)))))
    ∧ (Serves s x → s.chip.hasRight (q + 1) 3 = true → (s.chip.ten (q + 1)).notices = [] → Ends (.mfrNoticeRead x) s fun t => HostAcks t x)
    ∧ (Serves s x → s.chip.hasRight (q + 1) 3 = true → ∀ p ps, (s.chip.ten (q + 1)).notices = p :: ps →
        (Ends (.mfrNoticeRead x) s fun t => (t.chip.ten (q + 1)).ack = true ∧ (t.chip.ten (q + 1)).out = toBytes 4 p.1.toNat ++ toBytes 4 p.2.toNat)
        ∧ (NoLoss s (q + 1) → Ends (.mfrNoticeRead x) s fun t => (t.chip.ten (q + 1)).notices = ps ∧ SameMemory s t
          ∧ SameRegsBut (fun _ => False) s t)
        ∧ (∀ l w, (s.chip.ten (q + 1)).lost = some l → l.beat = s.chip.clock → l.notice = some w → Ends (.mfrNoticeRead x) s fun t =>
          (t.chip.ten (q + 1)).notices = ps ++ [w] ∧ (t.chip.reg (Tenant.NOTICE_LOST (q + 1)).addr) = l.count))

/-- R577–R579, R589, R138, R139: the reads of a PMBus host. -/
def Obligations.HostReadsAndStatusReturnTheirFields : Prop :=
  HostReadsReturnTheirFields ∧ HostStatusFollowsItsConditions

/-- R577, R578, R571, R574, R105, R589, R614, R617: what a host's writes do at a part that is no Shadow: OPERATION, VOUT_COMMAND and
MFR_RAIL_RESTART send B1 one write of the rail's word, with TENANT T0 (for OPERATION and MFR_RAIL_RESTART the model's choice,
notes/assumptions/53.md); a value the command does not know sets bit 6 of STATUS_CML. R573: without the right, and R576: with a wrong PEC, or
while the STOP has not come, nothing is performed. -/
def Obligations.HostWritesActOnTheirRail : Prop :=
  ∀ (s : State) (x : HostTx), Between s → s.chip.shadow = false → Serves s x → ∀ r, r = s.chip.f (PortQ.PAGE x.port) →
    ∀ q, q = x.port.val + 1 →
    (PecGood s x → s.chip.fenced 0 = false → (s.chip.ni 0).ans = [] →
      (s.chip.hasRight q 0 = true → ∀ v : BitVec 8,
        (v.toNat < 16 → Ends (.page x (some v)) s fun t => HostAcks t x ∧ t.chip.f (PortQ.PAGE x.port) = v.toNat)
        ∧ (16 ≤ v.toNat → HostInvalid (.page x (some v)) s x))
      ∧ (s.chip.hasRight q 1 = true → ∀ v : BitVec 8,
        (∀ d, d = (s.chip.reg (Rail.EN r).addr).toNat ||| 1 → v = 0x80 →
          HostAsks (.operation x (some v)) s x 0x01 none (ToRail (Rail.EN r) d))
        ∧ (∀ d, d = setBits (s.chip.reg (Rail.EN r).addr).toNat 0 0 0 → (v = 0 ∨ v = 0x40) →
          HostAsks (.operation x (some v)) s x 0x01 none (ToRail (Rail.EN r) d))
        ∧ (v ≠ 0x80 → v ≠ 0 → v ≠ 0x40 → HostInvalid (.operation x (some v)) s x)
        ∧ (v = 0xA5 → HostAsks (.mfrRailRestart x v) s x 0xD8 none (ToRail (Rail.RESTART r) (2 ^ 31)))
        ∧ (v ≠ 0xA5 → HostInvalid (.mfrRailRestart x v) s x))
      ∧ (s.chip.hasRight q 2 = true → ∀ (m : BitVec 16) (v : Nat), v = (rneDiv (m.toNat * 2000) 4096).toNat →
        ∀ d, d = setBits (s.chip.reg (Rail.VSET r).addr).toNat (Rail.VSET r).hi (Rail.VSET r).lo (min 4095 v) →
        (v < 4096 ∨ s.chip.f (Rail.VOUT_MAX r) ≠ 4095 → HostAsks (.voutCommand x (some m)) s x 0x21 none (ToRail (Rail.VSET r) d))
        ∧ Ends (.voutCommand x (some m)) s fun t => HostAcks t x ∧ Asks s t 0 (ToRail (Rail.VSET r) d))
      ∧ (∀ v : BitVec 8,
        (v = 0x5A → Ends (.mfrTenantReset x v) s fun t => t.chip.f (Tenant.RESETTING q) = 1 ∧ (t.chip.ten q).ops = []
          ∧ (t.chip.ten q).cache = none ∧ (t.chip.ten q).outbox = [] ∧ (t.chip.ten q).notices = []
          ∧ t.chip.f (Tenant.HEAD q) = 0 ∧ t.chip.f (Tenant.TAIL q) = 0 ∧ (t.chip.portH x.port).alert = false)
        ∧ (v ≠ 0x5A → HostInvalid (.mfrTenantReset x v) s x)))
    ∧ (∀ v : BitVec 8, s.chip.hasRight q 1 = false →
        HostRefuses (.operation x (some v)) s x 7 1 ∧ HostRefuses (.mfrRailRestart x v) s x 7 1 ∧ HostRefuses (.clearFaults x) s x 7 1)
    ∧ (∀ m : BitVec 16, s.chip.hasRight q 2 = false → HostRefuses (.voutCommand x (some m)) s x 7 1)
    ∧ (∀ v : BitVec 8, s.chip.hasRight q 1 = true →
        (x.ended = true → x.i3c = false → x.pec = some false → HostRefuses (.operation x (some v)) s x 5 2)
        ∧ (x.ended = false → Ends (.operation x (some v)) s fun t => HostAcks t x ∧ t.chip.lat = s.chip.lat ∧ (t.chip.ten q).ops = (s.chip.ten q).ops
          ∧ SameMemory s t ∧ SameRegsBut (fun _ => False) s t))

/-! ### The HUB -/

namespace Sys2Proof.Slice0

open Sys2Proof.Machine Sys2Proof.Machine.Reg

/-- AVSBus tenant `x` sends B1 a write of word `w` to the word of field `a`, in its queue and to the Lattice (R64, R571, R585). -/
def AvsAsks (s t : State) (x prio : Nat) (a : Fld) (w : Nat) : Prop :=
  Asks s t 0 (fun p => p.hdr.vc = 2 ∧ p.hdr.typ = 2 ∧ p.hdr.tenant = x ∧ p.hdr.prio = prio ∧ p.hdr.dst = 18 ∧ p.hdr.offset = a.addr % 2 ^ 25
    ∧ p.words = [BitVec.ofNat 32 w]) ∧ (t.chip.ten x).ops.length = (s.chip.ten x).ops.length + 1

/-- Address of buffer `i` of ring `t` (R602). -/
def ringAddr (s : State) (t i : Nat) : Nat :=
  nodeBase 17 + s.chip.f (Tenant.RBASE t) / 64 * 64 + 64 * (i % 256 % max 8 (min 128 (s.chip.f (Tenant.NBUF t))))

/-- Buffers of ring `t` that are free (R602). -/
def ringRoom (s : State) (t : Nat) : Nat :=
  max 8 (min 128 (s.chip.f (Tenant.NBUF t))) - (s.chip.f (Tenant.HEAD t) + 256 - s.chip.f (Tenant.TAIL t)) % 256

/-- Bytes that a status, its six or four value bytes, or a LOCK answer make (R589, R590). -/
def answerBytes (code : Nat) (seq : Option Nat) (st : Nat) (w : Nat) : List Byte :=
  if code = 0xD0 then toBytes 1 (seq.getD 0) ++ toBytes 1 st
      ++ (if st = stOk then toBytes 1 (bits w 15 8) ++ toBytes 1 (bits w 19 16) ++ toBytes 1 (bits w 31 24) else [0, 0, 0])
  else if code = 0xD5 then toBytes 1 st ++ toBytes 4 (if st = stOk then w else 0)
  else []

/-- A WR of a whole forwarding slot (R621). -/
def SlotWrite (p : Pkt) : Prop :=
  p.hdr.typ = 2 ∧ p.hdr.len = 15 ∧ p.poison = false ∧ p.hdr.offset % 64 = 0 ∧ 0x1000800 ≤ p.hdr.offset ∧ p.hdr.offset < 0x1000A00

/-- The HUB answers forwarding slot `t`'s WR with a status, and the slot holds `bs`. -/
def SlotAnswers (s u : State) (t : Nat) (h : Hdr) (st : Nat) (bs : List Byte) : Prop :=
  (Answers s u 0 fun p => p = { hdr := rspHdr h 7 st }) ∧ (mget 0 u.chip.hub.slot (16 * t)).toNat % 256 = bs.length
    ∧ bit (mget 0 u.chip.hub.slot (16 * t)).toNat 8 = ((u.chip.ten t).outbox != [])
    ∧ ∀ k : Fin 15, (mget 0 u.chip.hub.slot (16 * t + 1 + k)).toNat = ofBytes ((bs.drop (4 * k)).take 4)

end Sys2Proof.Slice0

/-- R590, R591, R620, R592, R749: MFR_LOCK, MFR_CNT_READ, MFR_REG_READ and MFR_REG_WRITE send one request each. R593, R596: a command that the
retry cache holds sends none and is answered from it. R580, R590: the response is the outcome. -/
def Obligations.HostCommandsReachTheLattice : Prop :=
  ∀ (s : State) (x : HostTx), Between s → Serves s x → PecGood s x → s.chip.fenced 0 = false →
    (s.chip.ni 0).ans = [] → ∀ q, q = x.port.val + 1 →
    (∀ seq lock prio op : BitVec 8, s.chip.hasRight q 3 = true → (s.chip.ten q).cache = none →
      HostAsks (.mfrLock x seq lock prio op) s x 0xD0 (some seq.toNat) (fun p => p.hdr.typ = 3 ∧ p.hdr.tenant = q
        ∧ p.hdr.dst = (if s.chip.shadow then 88 else 24) ∧ p.hdr.offset = 64 * lock.toNat
        ∧ p.words = [BitVec.ofNat 32 (lock.toNat + prio.toNat % 16 * 2 ^ 8 + op.toNat % 4 * 2 ^ 12 + q * 2 ^ 16), 0, 0, 0]))
    ∧ (s.chip.shadow = false → (s.chip.ten q).cache = none →
      (∀ node idx : BitVec 8, s.chip.hasRight q 7 = true → node.toNat < 49 → idx.toNat < 4 →
        HostAsks (.mfrCntRead x node idx) s x 0xD4 none (fun p => p.hdr.typ = 1 ∧ p.hdr.tenant = q ∧ p.hdr.dst = node.toNat
          ∧ p.hdr.offset = 0x1F00608 + 16 * idx.toNat))
      ∧ (∀ node idx : BitVec 8, s.chip.hasRight q 7 = true → node = 30 → 32 ≤ idx.toNat → idx.toNat < 64 →
        HostAsks (.mfrCntRead x node idx) s x 0xD4 none (fun p => p.hdr.typ = 1 ∧ p.hdr.tenant = q ∧ p.hdr.dst = 30
          ∧ p.hdr.offset = ((Seq.CCj_LO (idx.toNat - 32)).addr + 4) % 2 ^ 25))
      ∧ (∀ addr : BitVec 32, s.chip.hasRight q 5 = true → addr.toNat / 2 ^ 25 < 49 →
        HostAsks (.mfrRegRead x addr) s x 0xD5 none (fun p => p.hdr.typ = 1 ∧ p.hdr.tenant = q ∧ p.hdr.dst = addr.toNat / 2 ^ 25
          ∧ p.hdr.offset = addr.toNat % 2 ^ 25))
      ∧ (∀ (seq : BitVec 8) (addr : BitVec 32) (d : Word), s.chip.hasRight q 6 = true → addr.toNat / 2 ^ 25 < 49 →
        HostAsks (.mfrRegWrite x seq addr d) s x 0xD6 (some seq.toNat) (fun p => p.hdr.typ = 2 ∧ p.hdr.tenant = q ∧ p.hdr.dst = addr.toNat / 2 ^ 25
          ∧ p.hdr.offset = addr.toNat % 2 ^ 25 ∧ p.words = [d])))
    ∧ (∀ e, (s.chip.ten q).cache = some e → e.page = s.chip.f (PortQ.PAGE x.port) → e.done = true →
      (e.code = 0xD0 → ∀ seq lock prio op : BitVec 8, seq = BitVec.ofNat 8 (e.seq.getD 256) → e.seq = some seq.toNat →
        s.chip.hasRight q 3 = true → Ends (.mfrLock x seq lock prio op) s fun t =>
          (t.chip.ten q).ack = true ∧ (t.chip.ten q).out = e.bytes ∧ t.chip.lat = s.chip.lat ∧ (t.chip.ten q).ops = (s.chip.ten q).ops)
      ∧ (e.code = 0xD6 → ∀ (seq : BitVec 8) (addr : BitVec 32) (d : Word), seq = BitVec.ofNat 8 (e.seq.getD 256) → e.seq = some seq.toNat →
        s.chip.hasRight q 6 = true → Ends (.mfrRegWrite x seq addr d) s fun t => HostAcks t x ∧ t.chip.lat = s.chip.lat
          ∧ (t.chip.ten q).ops = (s.chip.ten q).ops))
    ∧ (∀ p ps, (s.chip.ni 0).in1 = p :: ps → p.hdr.dst = 0 → (s.chip.tag 0 p.hdr.tag).busy = true → (s.chip.tag 0 p.hdr.tag).gen = p.hdr.gen →
      p.poison = false → ∀ o os, (s.chip.ten q).ops = o :: os → (s.chip.tag 0 p.hdr.tag).owner = .host (8 * o.id + q) →
      os.all (fun z => z.id != o.id) = true → o.fwd = none → o.left ≤ 1 → o.status = stOk →
      (o.code = 0x21 → p.hdr.status = stNotOwner → Ends (.responseAccept 0) s fun t => (t.chip.ten q).ops = os ∧ tenF t q 4 = true
        ∧ bit (stCml t (q - 1) o.page) 6 = true)
      ∧ ((o.code = 0xD0 ∨ o.code = 0xD5 ∨ o.code = 0xD6) → (s.chip.ten q).await = some o.id → Ends (.responseAccept 0) s fun t => (t.chip.ten q).ops = os ∧ (t.chip.ten q).ack = true
        ∧ (t.chip.ten q).out = answerBytes o.code o.seq p.hdr.status (wordAt p.words 0)
        ∧ (p.hdr.status ≠ stOk → tenF t q 5 = true ∧ t.chip.f (Tenant.LAST_STATUS q) = p.hdr.status % 16
            ∧ bit (stCml t (q - 1) o.page) 1 = true)))

/-- R600–R605: a message frame fills buffers from HEAD on and is published by HEAD, once its transaction has ended; without room it is
dropped and counted. R603: TAIL, in a beat in which the ring has published and lost nothing.
R589, R607, R608, R609, R611: messages and notices wait in their queues. -/
def Obligations.FramesMessagesAndNoticesQueue : Prop :=
  ∀ s : State, Between s →
    (∀ (x : HostTx) (seq : BitVec 8) (body : List Byte), Serves s x → PecGood s x → s.chip.shadow = false →
      (s.chip.ten (x.port + 1)).cache = none → s.chip.hasRight (x.port + 1) 4 = true → body.length ≤ 254 → ∀ q, q = x.port.val + 1 →
      s.chip.f (Tenant.EN q) = 1 → ∀ n, n = max 1 ((body.length + 59) / 60) →
      (n ≤ ringRoom s q → Ends (.mfrMsgSend x seq body) s fun t => HostAcks t x ∧ t.chip.f (Tenant.HEAD q) = (s.chip.f (Tenant.HEAD q) + n) % 256
        ∧ (∀ i, i < n → t.chip.bytesAt (ringAddr s q (s.chip.f (Tenant.HEAD q) + i)) 4
            = min 60 (body.length - 60 * i) + b2n (i == 0) * 2 ^ 8 + b2n (i + 1 == n) * 2 ^ 9 + seq.toNat * 2 ^ 16 + q * 2 ^ 24)
        ∧ (∀ k, k < body.length → some (t.chip.byte (ringAddr s q (s.chip.f (Tenant.HEAD q) + k / 60) + 4 + k % 60)) = body[k]?)
        ∧ (∀ a, (∀ i, i < n → a < ringAddr s q (s.chip.f (Tenant.HEAD q) + i) ∨ ringAddr s q (s.chip.f (Tenant.HEAD q) + i) + 64 ≤ a) →
            t.chip.byte a = s.chip.byte a)
        ∧ SameRegsBut (fun a => a = (Tenant.HEAD q).addr) s t)
      ∧ (∀ y, y = { x with ended := false } → n ≤ ringRoom s q → Ends (.mfrMsgSend y seq body) s fun t => (t.chip.ten q).ack = true ∧ (t.chip.ten q).filling = true
        ∧ SameRegsBut (fun _ => False) s t)
      ∧ (ringRoom s q < n → Ends (.mfrMsgSend x seq body) s fun t => (t.chip.ten q).ack = false ∧ t.chip.f (Tenant.HEAD q) = s.chip.f (Tenant.HEAD q)
        ∧ t.chip.f (Tenant.DROP_FRAMES q) = min 65535 (s.chip.f (Tenant.DROP_FRAMES q) + 1) ∧ tenF t q 6 = true))
    ∧ (∀ x : HostTx, Serves s x → s.chip.shadow = false → s.chip.hasRight (x.port + 1) 4 = true → ∀ h, h = s.chip.ten (x.port + 1) →
      (h.outbox = [] → Ends (.mfrMsgRead x) s fun t => HostAcks t x)
      ∧ (∀ m ms, h.outbox = m :: ms → Ends (.mfrMsgRead x) s fun t => (t.chip.ten (x.port + 1)).ack = true ∧ (t.chip.ten (x.port + 1)).outbox = ms
        ∧ (t.chip.ten (x.port + 1)).out = (toBytes (4 * m.length) (ofWords m)).take (4 + wordAt m 0 % 64)))
    ∧ (∀ (x : Fin 8) (q : Sender) (d : Word), May s 0 q → NoLoss s x → (s.chip.ten x).pub.1 ≠ s.chip.clock →
      ((s.chip.f (Tenant.HEAD x) + 256 - bits d.toNat 15 8) % 256 ≤ max 8 (min 128 (s.chip.f (Tenant.NBUF x))) → Ends (.ringTailWrite x q d) s fun t =>
        t.chip.f (Tenant.TAIL x) = bits d.toNat 15 8 ∧ t.chip.resp = some (stOk, []) ∧ SameMemory s t
        ∧ SameRegsBut (fun a => a = (Tenant.TAIL x).addr) s t)
      ∧ (max 8 (min 128 (s.chip.f (Tenant.NBUF x))) < (s.chip.f (Tenant.HEAD x) + 256 - bits d.toNat 15 8) % 256 → Ends (.ringTailWrite x q d) s fun t =>
        t.chip.f (Tenant.TAIL x) = s.chip.f (Tenant.TAIL x) ∧ tenF t x 7 = true))
    ∧ (∀ p ps, (s.chip.ni 0).in3 = p :: ps → p.hdr.typ = 5 → ∀ x, x = p.hdr.offset % 8 →
      ((x = 1 ∨ x = 2 ∨ x = 7) → (s.chip.ten x).outbox.length < 4 → Ends .msgToOutbox s fun t => (t.chip.ni 0).in3 = ps
        ∧ (t.chip.ten x).outbox = (s.chip.ten x).outbox ++ [p.words] ∧ SameMemory s t ∧ SameRegsBut (fun _ => False) s t)
      ∧ ((x = 0 ∨ (3 ≤ x ∧ x ≤ 6) ∨ 4 ≤ (s.chip.ten x).outbox.length) → Ends .msgToOutbox s fun t => (t.chip.ni 0).in3 = ps
        ∧ (t.chip.ten x).outbox = (s.chip.ten x).outbox ∧ CountsDrop s t 0))
    ∧ (∀ p : Fin 4, ∀ n, n = natAt pNodes p → ∀ k ks, (s.chip.ni n).in3 = k :: ks → k.hdr.typ = 5 →
      ∀ used, used = (s.chip.f (Inbox.HEAD n) + 256 - s.chip.f (Inbox.TAIL n)) % 256 → ∀ a, a = pDmem p + (131072 - 640) + 64 * (s.chip.f (Inbox.HEAD n) % 8) → ∀ u, u = s.chip.settled (24 + p) →
      (used ≠ 8 → Ends (.msgToInbox p) s fun t => (t.chip.ni n).in3 = ks ∧ t.chip.bytesAt a (4 * k.words.length) = ofWords k.words
        ∧ t.chip.f (Inbox.HEAD n) = (s.chip.f (Inbox.HEAD n) + 1) % 256
        ∧ (∀ b, (b < a ∨ a + 4 * k.words.length ≤ b) → t.chip.byte b = u.byte b) ∧ ∀ b, b ≠ (Inbox.HEAD n).addr → t.chip.reg b = u.reg b)
      ∧ (used = 8 → Ends (.msgToInbox p) s fun t => (t.chip.ni n).in3 = ks ∧ t.chip.f (Inbox.HEAD n) = s.chip.f (Inbox.HEAD n)
        ∧ CountsDrop s t n ∧ SameMemory s t))
    ∧ (∀ k ks, (s.chip.ni 0).in3 = k :: ks → k.hdr.typ = 9 → (k.hdr.tenant = 1 ∨ k.hdr.tenant = 2) → ∀ h, h = s.chip.ten k.hdr.tenant →
      (h.notices.length < 16 → Ends .hubNoticeReceive s fun t => (t.chip.ni 0).in3 = ks
        ∧ (t.chip.ten k.hdr.tenant).notices = h.notices ++ [((k.words[0]?).getD 0, (k.words[1]?).getD 0)] ∧ SameRegsBut (fun _ => False) s t)
      ∧ (16 ≤ h.notices.length → Ends .hubNoticeReceive s fun t => (t.chip.ni 0).in3 = ks ∧ (t.chip.ten k.hdr.tenant).notices = h.notices
        ∧ t.chip.f (Tenant.NOTICE_LOST k.hdr.tenant) = min 65535 (s.chip.f (Tenant.NOTICE_LOST k.hdr.tenant) + 1) ∧ tenF t k.hdr.tenant 8 = true))

/-- R614, R615, R617: a tenant reset. R620, R621: a Shadow's HUB sends a command to the twin's slot in records of up to 60 bytes; the
twin's HUB judges it by its own rights and performs it for that tenant. -/
def Obligations.TenantResetsAndForwarding : Prop :=
  ∀ s : State, Between s →
    (∀ (x : Fin 8) (q : Sender), MayPriv s 0 q → Ends (.tenantReset x q) s fun t => t.chip.resp = some (stOk, [])
      ∧ t.chip.f (Tenant.RESETTING x) = 1 ∧ (t.chip.ten x).ops = [] ∧ (t.chip.ten x).cache = none ∧ (t.chip.ten x).outbox = []
      ∧ (t.chip.ten x).notices = [] ∧ t.chip.f (Tenant.HEAD x) = 0 ∧ t.chip.f (Tenant.TAIL x) = 0
      ∧ (∀ (k : Fin 64) (i : Nat), (s.chip.tag 0 k).busy = true →
          ((s.chip.tag 0 k).owner = .host (8 * i + x) ∨ (s.chip.tag 0 k).owner = .fwd (8 * i + x)) →
          t.chip.tag 0 k = { gen := ((s.chip.tag 0 k).gen + 1) % 4, held := (s.chip.tag 0 k).held ++ [(s.chip.tag 0 k).gen] })
      ∧ (∀ y : Fin 8, y ≠ x → t.chip.ten y = s.chip.ten y ∧ t.chip.f (Tenant.HEAD y) = s.chip.f (Tenant.HEAD y)
          ∧ t.chip.f (Tenant.RESETTING y) = s.chip.f (Tenant.RESETTING y)))
    ∧ (∀ x : Fin 8, s.chip.f (Tenant.RESETTING x) = 1 → Ends (.tenantResetEnd x) s fun t => t.chip.f (Tenant.RESETTING x) = 0
      ∧ tenF t x 9 = true ∧ SameMemory s t ∧ SameRegsBut (fun a => a = (Tenant.RESETTING x).addr ∨ TenFaultWord x a) s t)
    ∧ (∀ (x : HostTx) (code : BitVec 8) (v : BitVec 16), Serves s x → PecGood s x → s.chip.shadow = true → s.chip.fenced 0 = false →
      (s.chip.ni 0).ans = [] → (s.chip.ten (x.port + 1)).cache = none → ∀ q, q = x.port.val + 1 →
      (code = 0x21 → s.chip.hasRight q 2 = true → HostAsks (.forwardCommand x code (toBytes 2 v.toNat)) s x 0x21 none (fun p =>
          p.hdr.typ = 2 ∧ p.hdr.tenant = q ∧ p.hdr.dst = 64 ∧ p.hdr.offset = 0x1000800 + 0x40 * q
          ∧ p.words = [BitVec.ofNat 32 (q + s.chip.f (PortQ.PAGE x.port) * 2 ^ 8 + 2 ^ 12 + 0x21 * 2 ^ 16 + 2 * 2 ^ 24), BitVec.ofNat 32 v.toNat]))
      ∧ (code = 0xD3 → s.chip.hasRight q 4 = true → HostAsks (.forwardCommand x code []) s x 0xD3 none (fun p =>
          p.hdr.typ = 2 ∧ p.hdr.tenant = q ∧ p.hdr.dst = 64 ∧ p.hdr.offset = 0x1000800 + 0x40 * q
          ∧ p.words = [BitVec.ofNat 32 (q + s.chip.f (PortQ.PAGE x.port) * 2 ^ 8 + 2 ^ 12 + 0xD3 * 2 ^ 16)])))
    ∧ (s.chip.shadow = false → ∀ (x : HostTx) (code : BitVec 8), Ends (.forwardCommand x code []) s fun t => t = s)
    ∧ (∀ p ps, (s.chip.ni 0).in2 = p :: ps → SlotWrite p → s.chip.fenced 0 = false → ∀ w, w = wordAt p.words 0 → ∀ x, x = w % 8 →
      ((p.hdr.tenant ≠ 7 ∨ p.hdr.src ≠ 64) → Ends .forwardSlotWrite s fun t => (t.chip.ni 0).in2 = ps
        ∧ (Answers s t 0 fun y => y = { hdr := rspHdr p.hdr 7 stDenied }) ∧ t.chip.hub = s.chip.hub ∧ SameMemory s t)
      ∧ (p.hdr.tenant = 7 → p.hdr.src = 64 → ∀ h, h = s.chip.ten x → ∀ bs, bs = (toBytes 60 (ofWords (p.words.drop 1))).take (min 60 (w / 2 ^ 24)) →
        (bit w 12 = false → Ends .forwardSlotWrite s fun t => (t.chip.ten x).fwdBytes = h.fwdBytes ++ bs
          ∧ Answers s t 0 fun y => y = { hdr := rspHdr p.hdr 7 stOk })
        ∧ (bit w 12 = true → s.chip.f (Tenant.RESETTING x) = 0 → h.ops.length < 8 →
          (bits w 23 16 = 0x88 → h.fwdBytes ++ bs = [] → s.chip.hasRight x 0 = true → Ends .forwardSlotWrite s fun t =>
            SlotAnswers s t x p.hdr stOk (toBytes 2 (linear11 (s.chip.f Board.VBUS12) 200 7)) ∧ (t.chip.ten x).fwdBytes = [])
          ∧ (bits w 23 16 = 0x88 → h.fwdBytes ++ bs = [] → s.chip.hasRight x 0 = false → Ends .forwardSlotWrite s fun t =>
            (Answers s t 0 fun y => y = { hdr := rspHdr p.hdr 7 stDenied }) ∧ tenF t x 1 = true)
          ∧ (bits w 23 16 = 0xD3 → h.fwdBytes ++ bs = [] → s.chip.hasRight x 4 = true → ∀ m ms, h.outbox = m :: ms → Ends .forwardSlotWrite s fun t =>
            SlotAnswers s t x p.hdr stOk ((toBytes (4 * m.length) (ofWords m)).take (4 + wordAt m 0 % 64)) ∧ (t.chip.ten x).outbox = ms))))

/-- R592, R595, R575, R605, R612: the timers of the ports and the alerts. R581, R582: the common command codes of an I3C port that its tenant
uses; GETPID and GETSTATUS return bytes for which the spec states no value. -/
def Sys2Proof.Slice0.PortTimersAndI3cCodes : Prop :=
  ∀ s : State, Between s →
    (∀ x : Fin 8, Ends (.retryCacheExpiry x) s fun t => (t.chip.ten x).cache = (if (s.chip.ten x).cache.any RetryEntry.done then none else (s.chip.ten x).cache)
      ∧ (t.chip.ten x).ops = (s.chip.ten x).ops ∧ SameMemory s t ∧ SameRegsBut (fun _ => False) s t)
    ∧ (∀ p : Fin 2, ∀ q, q = p.val + 1 → ∀ h, h = s.chip.portH p →
      ((s.chip.ten q).await ≠ none → Ends (.stretchTimeout p) s fun t => (t.chip.ten q).ack = false ∧ (t.chip.ten q).await = none
        ∧ (t.chip.ten q).ops = (s.chip.ten q).ops ∧ SameRegsBut (fun _ => False) s t)
      ∧ (s.chip.portServes p false = true → Ends (.smbusBusTimeout p) s fun t => (t.chip.ten q).ack = false ∧ tenF t q 10 = true
        ∧ (t.chip.ten q).filling = false
        ∧ t.chip.f (Tenant.DROP_FRAMES q) = min 65535 (s.chip.f (Tenant.DROP_FRAMES q) + b2n (s.chip.ten q).filling)
        ∧ SameMemory s t ∧ SameRegsBut (fun a => TenFaultWord q a ∨ ((s.chip.ten q).filling = true ∧ a = (Tenant.DROP_FRAMES q).addr)) s t)
      ∧ (h.alert = true → Ends (.alertResponse p) s fun t => (t.chip.portH p).alert = false ∧ (t.chip.portH p).answered = true)
      ∧ (h.answered = true → Ends (.alertReassert p) s fun t => (t.chip.portH p).answered = false
        ∧ (t.chip.portH p).alert = ((s.chip.ten q).notices != [] || (s.chip.ten q).outbox != [] || (s.chip.ten q).pendTwin
            || (s.chip.f (Tenant.TENFAULT q) &&& s.chip.f (Tenant.ALERT_MASK q)) != 0))
      ∧ (∀ b, h.ibi = some b → h.ibiEn = true → h.hdr = false → Ends (.ibiRetry p) s fun t => (t.chip.portH p).ibi = none
        ∧ (t.chip.ten q).out = toBytes 1 b)
      ∧ (s.chip.portServes p true = true → Ends (.hdrEntry p) s fun t => (t.chip.portH p).hdr = true)
      ∧ (Ends (.hdrExitPattern p) s fun t => (t.chip.portH p).hdr = false)
      ∧ (s.chip.portServes p true = true → h.hdr = false →
        (∀ a : BitVec 7, h.dyn = none →
          (Ends (.entdaa p a) s fun t => t.chip.portH p = { h with dyn := some a.toNat })
          ∧ (∀ st : BitVec 7, st.toNat = 0x30 + 8 * p + s.chip.f (PortQ.PMADDR p) → Ends (.setdasa p st a) s fun t => t.chip.portH p = { h with dyn := some a.toNat })
          ∧ (∀ st : BitVec 7, st.toNat ≠ 0x30 + 8 * p + s.chip.f (PortQ.PMADDR p) → Ends (.setdasa p st a) s fun t => t.chip = s.chip))
        ∧ (Ends (.rstdaa p) s fun t => t.chip.portH p = { h with dyn := none })
        ∧ (∀ ev : BitVec 8, (Ends (.enec p ev) s fun t => (t.chip.portH p).ibiEn = (h.ibiEn || bit ev.toNat 0))
          ∧ (Ends (.disec p ev) s fun t => (t.chip.portH p).ibiEn = (h.ibiEn && !bit ev.toNat 0)))
        ∧ (∀ v : BitVec 16, (Ends (.setmwl p v) s fun t => t.chip.portH p = { h with mwl := v.toNat })
          ∧ (Ends (.setmrl p v) s fun t => t.chip.portH p = { h with mrl := v.toNat }))
        ∧ (h.dyn ≠ none →
          (Ends (.getbcr p) s fun t => (t.chip.ten q).out = [0x06]) ∧ (Ends (.getdcr p) s fun t => (t.chip.ten q).out = [0x00])
          ∧ (Ends (.getmwl p) s fun t => (t.chip.ten q).out = [BitVec.ofNat 8 (h.mwl / 256), BitVec.ofNat 8 h.mwl])
          ∧ (Ends (.getmrl p) s fun t => (t.chip.ten q).out = [BitVec.ofNat 8 (h.mrl / 256), BitVec.ofNat 8 h.mrl])
          ∧ (Ends (.getpid p) s fun t => (t.chip.ten q).out.length = 6 ∧ SameRegsBut (fun _ => False) s t)
          ∧ (Ends (.getstatus p) s fun t => (t.chip.ten q).out.length = 2 ∧ SameRegsBut (fun _ => False) s t))))

/-- R64, R105, R140, R585–R588, R74: AVSBus frames of a port whose tenant has a place in its queue: a committed write of a select that is
enabled to a rail that the port owns sends B1 a write of VSET at priority 3; held values, reads, the slew rates and the reset to the image's
value. A read without TELEM sets RIGHT_DENIED (DEDUCED: notes/assumptions/112.md). A select that is not enabled,
or a rail the port does not own, is NOT_OWNER. The status word and the temperature of a rail without a TMON have no value in the spec. -/
def Sys2Proof.Slice0.AvsFramesActOnTheirRails : Prop :=
  ∀ (s : State) (p : Fin 8) (k : Fin 16), Between s → ∀ x, x = 3 + p.val / 2 → s.chip.hubRuns = true → s.chip.f (Tenant.RESETTING x) = 0 →
    (s.chip.ten x).ops.length < 8 → s.chip.fenced 0 = false → (s.chip.ni 0).ans = [] →
    ((k.val < 15 ∧ bit (s.chip.f (Avs.SEL_EN p)) k = false) →
      (∀ mv : BitVec 16, Ends (.avsWriteHold p k mv) s fun t => (t.chip.avs p).ack = false
        ∧ (s.chip.shadow = false → tenF t x 4 = true ∧ t.chip.f (Avs.ALERT p) = 1)))
    ∧ (∀ r, s.chip.avsSel p k = some r → s.chip.shadow = false →
      (s.chip.f (Rail.SP_OWNER r) = 8 + p →
        (∀ mv : BitVec 16, (s.chip.avs p).held = [] → Ends (.avsWriteCommit p k mv) s fun t => (t.chip.avs p).ack = true
          ∧ (t.chip.avs p).held = [] ∧ AvsAsks s t x 3 (Rail.VSET r)
              (setBits (s.chip.reg (Rail.VSET r).addr).toNat (Rail.VSET r).hi (Rail.VSET r).lo (min 4095 (2 * mv.toNat))))
        ∧ (∀ mv : BitVec 16, Ends (.avsWriteHold p k mv) s fun t => (t.chip.avs p).ack = true
          ∧ mget 0 (t.chip.avs p).held k = 2 * mv.toNat + 1 ∧ t.chip.rl = s.chip.rl ∧ SameRegsBut (fun _ => False) s t)
        ∧ (∀ up dn : BitVec 8, Ends (.avsSlewWrite p k up dn) s fun t => (t.chip.avs p).ack = true
          ∧ AvsAsks s t x (s.chip.f (Tenant.PRIO x)) (Rail.RATE_UP r) (setBits (setBits (s.chip.reg (Rail.RATE_UP r).addr).toNat
              (Rail.RATE_UP r).hi (Rail.RATE_UP r).lo up.toNat) (Rail.RATE_DN r).hi (Rail.RATE_DN r).lo dn.toNat))
        ∧ ((s.chip.avs p).held = [] → Ends (.avsResetDefault p k) s fun t => (t.chip.avs p).ack = true
          ∧ AvsAsks s t x 3 (Rail.VSET r) (setBits (s.chip.reg (Rail.VSET r).addr).toNat (Rail.VSET r).hi (Rail.VSET r).lo
              (bits (mget 0 s.chip.image (Rail.VSET r).addr).toNat (Rail.VSET r).hi (Rail.VSET r).lo))))
      ∧ (s.chip.f (Rail.SP_OWNER r) ≠ 8 + p → ∀ mv : BitVec 16,
        (Ends (.avsWriteCommit p k mv) s fun t => (t.chip.avs p).ack = false ∧ tenF t x 4 = true ∧ t.chip.f (Avs.ALERT p) = 1
          ∧ SameRegsBut (fun a => TenFaultWord x a ∨ a = (Avs.ALERT p).addr) s t)
        ∧ (Ends (.avsSlewWrite p k 1 1) s fun t => (t.chip.avs p).ack = false ∧ tenF t x 4 = true)))
    ∧ (∀ r, s.chip.avsSel p k = some r → s.chip.hasRight x 0 = false → Ends (.avsVoltageRead p k) s fun t => (t.chip.avs p).ack = false
      ∧ tenF t x 1 = true)
    ∧ (∀ r, s.chip.avsSel p k = some r → s.chip.hasRight x 0 = true →
      (Ends (.avsVoltageRead p k) s fun t => (t.chip.avs p).ack = true ∧ (t.chip.avs p).out = (rneDiv (s.chip.f (Rail.VSENSE r)) 4).toNat)
      ∧ (Ends (.avsCurrentRead p k) s fun t => (t.chip.avs p).ack = true ∧ (t.chip.avs p).out = low 16 (rneDiv (s.chip.fi (Rail.IRAIL r) * 25) 4))
      ∧ (Ends (.avsSlewRead p k) s fun t => (t.chip.avs p).ack = true ∧ (t.chip.avs p).out = s.chip.f (Rail.RATE_UP r) + s.chip.f (Rail.RATE_DN r) * 256)
      ∧ (∀ j : Fin 32, s.chip.f (Tmon.EN j) = 1 → s.chip.f (Tmon.RAIL j) = r →
        (∀ i : Fin 32, s.chip.f (Tmon.EN i) = 1 → s.chip.f (Tmon.RAIL i) = r → s.chip.fi (Tmon.TEMP i) ≤ s.chip.fi (Tmon.TEMP j)) →
        Ends (.avsTemperatureRead p k) s fun t => (t.chip.avs p).ack = true ∧ (t.chip.avs p).out = low 16 (rneDiv (s.chip.fi (Tmon.TEMP j) * 5) 4))
      ∧ ((∀ j : Fin 32, s.chip.f (Tmon.EN j) = 1 → s.chip.f (Tmon.RAIL j) ≠ r) → Ends (.avsTemperatureRead p k) s fun t => (t.chip.avs p).ack = true
        ∧ SameRegsBut (fun _ => False) s t)
      ∧ (Ends (.avsStatusRead p k) s fun t => (t.chip.avs p).ack = true ∧ t.chip.f (Avs.ALERT p) = 0
        ∧ SameRegsBut (fun a => a = (Avs.ALERT p).addr) s t))
    ∧ (∀ (r : Fin 16) (b : BitVec 16), (b.toNat ≤ 400 → Ends (.avsLate p r b) s fun t => t.chip = s.chip)
      ∧ (400 < b.toNat → (s.chip.ni 0).send3.length < 8 → Ends (.avsLate p r b) s fun t =>
        (t.chip.ni 0).send3.length = (s.chip.ni 0).send3.length + 1 ∧ ∀ e, (t.chip.ni 0).send3.getLast? = some e →
          wordAt e.words 0 % 2 ^ 16 = evCode 1 16 ∧ wordAt e.words 1 = p.val + r * 2 ^ 8 + b.toNat * 2 ^ 16 ∧ wordAt e.words 2 = b2n (s.chip.avsMet p)))

/-- R64, R74, R105, R140, R575, R581, R582, R585–R588, R592, R595, R612: the port timers, I3C codes and AVSBus frames. -/
def Obligations.PortsI3cAndAvsFollowTheirCommands : Prop :=
  PortTimersAndI3cCodes ∧ AvsFramesActOnTheirRails

/-! ### The twin pair -/

namespace Sys2Proof.Slice0

open Sys2Proof.Machine Sys2Proof.Machine.Reg

/-- The part is a Shadow that has not decided to take over. -/
abbrev Watches (s : State) : Prop := s.chip.f Dip.ROLE = 3 ∧ s.chip.tw.take = 0

/-- The heartbeat word of this part (R641). -/
def hbWord (s : State) (rxOk : Bool) : Nat :=
  s.chip.f Dip.ROLE + s.chip.f Dip.ROLE_EPOCH * 2 ^ 4 + s.chip.f Dip.PREF * 2 ^ 8 + b2n rxOk * 2 ^ 10 + b2n (s.chip.tw.ho != 0) * 2 ^ 11
    + s.chip.f Dip.CEPOCH * 2 ^ 16 + s.chip.f Dip.CEIL_CRC * 2 ^ 32

/-- The link has gone down for a cause (R642, R643): a buffer that was filling is empty; one whose END has passed stays. -/
def LinkFell (s t : State) (cause : Nat) : Prop :=
  t.chip.f Dip.LINK = 0 ∧ t.chip.f Dip.LAST_DOWN = cause ∧ t.chip.f Dip.LINKDOWN_CNT = min 65535 (s.chip.f Dip.LINKDOWN_CNT + 1)
    ∧ t.chip.tw.held = [] ∧ t.chip.tw.txL = [] ∧ t.chip.tw.txS = [] ∧ t.chip.tw.fseq = 0 ∧ t.chip.tw.expect = 0
    ∧ t.chip.tw.f = s.chip.tw.f.filter (fun b => b.fin.isSome) ∧ t.chip.f (Tenant.RESETTING 7) = 1 ∧ (t.chip.ten 7).ops = [] ∧ t.chip.f Dip.TWIN_OK = 0

/-- The part has become SHADOW with F and C empty, and drives nothing (R657, R658, R671). -/
def Demoted (t : State) : Prop :=
  t.chip.f Dip.ROLE = 3 ∧ t.chip.f Dip.OWN_OUT = 0 ∧ t.chip.tw.f = none ∧ t.chip.tw.c = none ∧ t.chip.tw.take = 0

/-- The part has become PRIMARY, with the gap over (R659). -/
def TakesOver (s t : State) : Prop :=
  t.chip.f Dip.ROLE = 2 ∧ t.chip.f Dip.OWN_OUT = 1 ∧ t.chip.driveOff = false ∧ t.chip.tw.take = 0 ∧ t.chip.f Seq.COUNT = 0
    ∧ (∀ p : Fin 8, t.chip.f (Avs.ALERT p) = 1)
    ∧ ∀ e, e = (match s.chip.tw.c with | some b => b.epoch | none => 0) → t.chip.seq.local_.head? = some (evCode 6 6, toWords 2
        (packFields 0 [(8, s.chip.tw.takeCause), (16, e), (8, s.chip.f Dip.ROLE_EPOCH), (8, b2n s.chip.tw.c.isNone)]))

/-- Every held frame from place `i` on is sent again (R644 rule 5). -/
def resent (s : State) (i : Nat) : List Held :=
  s.chip.tw.held.take i ++ (s.chip.tw.held.drop i).map (fun h => { h with replays := h.replays + 1, last := s.chip.clock })

end Sys2Proof.Slice0

/-- R641, R646, R66: heartbeats. R642, R643: the states of the link. R639, R640, R644 rules 1 to 6, R645, R267: sequenced frames, what the
receiver makes of the lanes, their acknowledgement and replay. -/
def Obligations.TwinLinkCarriesFrames : Prop :=
  ∀ s : State, Between s →
    (s.chip.f Dip.LINK ≠ 0 → Ends .heartbeatSend s fun t => SameMemory s t ∧ SameRegsBut (fun _ => False) s t
      ∧ t.chip.tw.sent = some (hbWord s (s.chip.tw.lastHb.any (fun b => decide (s.chip.clock - b ≤ 800))),
          s.chip.f Id.UID_LO + s.chip.f Id.UID_HI * 2 ^ 32))
    ∧ (s.chip.f Dip.LINK = 0 → Ends .heartbeatSend s fun t => t.chip = s.chip)
    ∧ (∀ w uid : BitVec 64, (Ends (.heartbeatReceive w uid none) s fun t => t.chip = s.chip)
      ∧ (∀ a : BitVec 8, s.chip.f Dip.LINK ≠ 0 → Ends (.heartbeatReceive w uid (some a)) s fun t => t.chip.f Dip.TWIN_CEPOCH = bits w.toNat 31 16
        ∧ t.chip.f Dip.TWIN_CEIL_CRC = bits w.toNat 63 32 ∧ t.chip.f (Dip.TWIN_UID 0) = uid.toNat % 2 ^ 32
        ∧ t.chip.f (Dip.TWIN_UID 1) = uid.toNat / 2 ^ 32 ∧ t.chip.tw.lastHb = some s.chip.clock ∧ t.chip.tw.hbWord = w.toNat)
      ∧ (s.chip.f Dip.LINK = 1 → bit w.toNat 10 = true → Ends (.linkUp w uid) s fun t => t.chip.f Dip.LINK = 2 ∧ t.chip.tw.expect = 0
        ∧ (s.chip.tw.txL = [] → s.chip.tw.txS = [] → t.chip.tw.fseq = 0))
      ∧ (s.chip.f Dip.LINK = 1 → bit w.toNat 10 = false → Ends (.linkUp w uid) s fun t => t.chip.f Dip.LINK = 1))
    ∧ (s.chip.f Dip.LINK = 0 → s.chip.pw.linkHold = false →
      (s.chip.f Dip.PREF ≠ 0 → s.chip.f Dip.CTL_LINK_HOLD = 0 → Ends .linkTrainStart s fun t => t.chip.f Dip.LINK = 1 ∧ SameMemory s t
        ∧ SameRegsBut (fun a => a = Dip.LINK.addr) s t)
      ∧ (s.chip.f Dip.PREF = 0 ∨ s.chip.f Dip.CTL_LINK_HOLD = 1 → Ends .linkTrainStart s fun t => t.chip = s.chip))
    ∧ (s.chip.f Dip.LINK = 1 → Ends .linkTrainTimeout s fun t => t.chip.f Dip.LINK = 0 ∧ SameMemory s t ∧ SameRegsBut (fun a => a = Dip.LINK.addr) s t)
    ∧ (s.chip.f Dip.LINK = 2 →
      (Ends (.twinLinkDown .lock) s fun t => LinkFell s t 1) ∧ (Ends (.twinLinkDown .silent) s fun t => LinkFell s t 3)
      ∧ (∀ q : Sender, MayPriv s 6 q → Ends (.linkRst q) s fun t => LinkFell s t 5 ∧ t.chip.resp = some (stOk, []))
      ∧ (s.chip.tw.held ≠ [] → Ends .replayLimit s fun t => LinkFell s t 2)
      ∧ (∀ (l : Lanes) (f : Frame), l.frame = some f → f.ftype = 2 →
        (f.good = true → f.fseq = s.chip.tw.expect → Ends (.latticeFrameReceive l.lane0 l.lane1 l.skew) s fun t => t.chip.tw.rxq = s.chip.tw.rxq ++ [f.pkt]
          ∧ t.chip.tw.expect = (s.chip.tw.expect + 1) % 256 ∧ t.chip.tw.ctl = some (0, f.fseq))
        ∧ (∀ back, back = (s.chip.tw.expect + 256 - f.fseq) % 256 → f.good = true → 1 ≤ back → back ≤ 64 → Ends (.latticeFrameReceive l.lane0 l.lane1 l.skew) s fun t =>
          t.chip.tw.rxq = s.chip.tw.rxq ∧ t.chip.tw.expect = s.chip.tw.expect ∧ t.chip.tw.ctl = some (0, (s.chip.tw.expect + 255) % 256))
        ∧ (f.good = false → s.chip.tw.nak = none → Ends (.latticeFrameReceive l.lane0 l.lane1 l.skew) s fun t => t.chip.tw.rxq = s.chip.tw.rxq
          ∧ t.chip.tw.expect = s.chip.tw.expect ∧ t.chip.tw.ctl = some (1, s.chip.tw.expect))
        ∧ (∀ e b, f.good = false → s.chip.tw.nak = some (e, b) → e = s.chip.tw.expect + 1 →
          s.chip.clock - b < max 64 (s.chip.f Dip.ACK_TMO) → Ends (.latticeFrameReceive l.lane0 l.lane1 l.skew) s fun t => t.chip = s.chip))
      ∧ (∀ l : Lanes, 64 < l.skew.toNat → Ends (.latticeFrameReceive l.lane0 l.lane1 l.skew) s fun t => t.chip = s.chip)
      ∧ (∀ q : BitVec 8, s.chip.tw.txL = [] → s.chip.tw.txS = [] → Ends (.ackReceive q true) s fun t =>
        t.chip.tw.held = s.chip.tw.held.filter (fun h => !decide ((q.toNat + 256 - h.fseq) % 256 < 64)))
      ∧ (∀ (q : BitVec 8) (i : Nat), (s.chip.tw.held[i]?).map Held.fseq = some q.toNat → (s.chip.tw.held.take i).all (fun h => h.fseq != q.toNat) = true →
        (s.chip.tw.held.drop i).all (fun h => decide (h.replays < 3)) = true → Ends (.nakReceive q true) s fun t => t.chip.tw.held = resent s i
          ∧ t.chip.f Dip.REPLAY_CNT = min 65535 (s.chip.f Dip.REPLAY_CNT + (s.chip.tw.held.length - i)))
      ∧ (∀ h hs, s.chip.tw.held = h :: hs → (s.chip.tw.held.all (fun h => decide (h.replays < 3)) = true → Ends .replayTimeout s fun t =>
          t.chip.tw.held = resent s 0) ∧ (3 ≤ h.replays → Ends .replayTimeout s fun t => LinkFell s t 2)))
    ∧ (∀ q : BitVec 8, (Ends (.ackReceive q false) s fun t => t.chip = s.chip) ∧ (Ends (.nakReceive q false) s fun t => t.chip = s.chip))

/-- R652: a Primary captures an epoch, or skips it. R653–R655: a Shadow's buffers, and commit. R658: a hand-over. The layout inside the
FAST and LOCK classes is the model's (notes/assumptions). -/
def Obligations.EpochsAndHandOver : Prop :=
  ∀ s : State, Between s →
    (s.chip.f Dip.ROLE = 2 → s.chip.f Dip.LINK = 2 →
      (s.chip.tw.sending = false → Ends .epochStart s fun t => t.chip.tw.capNo = (s.chip.tw.capNo + 1) % 65536
        ∧ t.chip.tw.capWords.length = 112 + (s.chip.tw.userList.map (fun e => e.2 + 1)).sum
        ∧ (t.chip.tw.capWords[0]?).getD 0 = s.chip.f Seq.COUNT + s.chip.f Dip.ROLE_EPOCH * 2 ^ 28 ∧ SameMemory s t
        ∧ SameRegsBut (fun _ => False) s t ∧ t.lock = s.lock)
      ∧ (s.chip.tw.sending = true → Ends .epochStart s fun t => t.chip.f Dip.EPOCH_SKIP = min 65535 (s.chip.f Dip.EPOCH_SKIP + 1)
        ∧ Posts s t 6 6 4 [] ∧ t.chip.tw = s.chip.tw)
      ∧ (∀ q : Sender, MayPriv s 6 q → Ends .epochStart s fun u => (Ends (.epochNow q) s fun t => t.chip.tw = u.chip.tw
          ∧ t.chip.resp = some (stOk, []) ∧ SameRegsBut (fun _ => False) u t)
        ∧ (s.chip.tw.ho = 0 → Ends (.handover q) s fun t => t.chip.tw = { u.chip.tw with ho := 1, hoEpoch := u.chip.tw.capNo }
          ∧ t.chip.resp = some (stOk, [])))
      ∧ (∀ (w uid : BitVec 64) (a : BitVec 8), s.chip.tw.ho = 1 → bits w.toNat 3 0 = 3 → bits w.toNat 31 16 = s.chip.tw.hoEpoch →
        Ends (.heartbeatReceive w uid (some a)) s fun t => t.chip.tw.ho = 2 ∧ t.chip.f Dip.OWN_OUT = 0 ∧ t.chip.f Dip.TAKE_N = 0))
    ∧ (s.chip.tw.ho = 2 → Ends .handoverRelease s fun t => Demoted t ∧ t.chip.f Dip.TAKE_N = 1)
    ∧ (s.chip.tw.ho = 1 → Ends .handoverFail s fun t => t.chip.tw.ho = 0 ∧ Posts s t 6 6 9 [] ∧ SameMemory s t ∧ SameRegsBut (NiErr 6) s t)
    ∧ (Watches s → s.chip.f Dip.LINK = 2 → ∀ q a : BitVec 8, q.toNat = s.chip.tw.expect →
      (∀ (e : BitVec 16) (o : BitVec 12) (ws : List (BitVec 64)),
        (s.chip.tw.f = none → o = 0 → Ends (.stateFrameReceive q (some a) (.data e o ws)) s fun t =>
          t.chip.tw.f = some { epoch := e.toNat, words := ws.map BitVec.toNat } ∧ SameMemory s t ∧ SameRegsBut (fun _ => False) s t)
        ∧ (∀ b, s.chip.tw.f = some b → b.fin = none → b.bad = false →
          (b.epoch = e.toNat → o.toNat = b.words.length → Ends (.stateFrameReceive q (some a) (.data e o ws)) s fun t =>
            t.chip.tw.f = some { b with words := b.words ++ ws.map BitVec.toNat })
          ∧ (b.epoch ≠ e.toNat → o = 0 → Ends (.stateFrameReceive q (some a) (.data e o ws)) s fun t =>
            t.chip.tw.f = some { epoch := e.toNat, words := ws.map BitVec.toNat }
            ∧ t.chip.f Dip.EPOCH_DROP = min 65535 (s.chip.f Dip.EPOCH_DROP + 1) ∧ Posts s t 6 6 5 [])))
      ∧ (∀ (img : EpochImage) (e : BitVec 16), ∀ b, s.chip.tw.f = some b → b.epoch = e.toNat → b.fin = none → b.bad = false →
        ∀ last, last = BitVec.ofNat 12 (b.words.length - 1) → b.words.length = last.toNat + 1 →
        (∀ cr, cr = BitVec.ofNat 32 (crc32 (epochBytes b.words)) → s.chip.tw.applying = false → Ends (.stateFrameReceive q (some a) (.fin e last cr img)) s fun t =>
          t.chip.f Dip.CEPOCH = e.toNat ∧ t.chip.tw.f = none ∧ t.chip.tw.c = some { b with fin := some img } ∧ t.chip.tw.applying = true
          ∧ t.chip.f (Seq.CCj_LO 0) = b.word 657 % 2 ^ 32 ∧ t.chip.tw.commit = some s.chip.clock)
        ∧ (∀ cr, cr = BitVec.ofNat 32 (crc32 (epochBytes b.words)) → s.chip.tw.applying = true → Ends (.stateFrameReceive q (some a) (.fin e last cr img)) s fun t =>
          t.chip.tw.f = some { b with fin := some img } ∧ t.chip.tw.c = s.chip.tw.c ∧ SameRegsBut (fun _ => False) s t)
        ∧ (∀ cr : BitVec 32, cr ≠ BitVec.ofNat 32 (crc32 (epochBytes b.words)) → Ends (.stateFrameReceive q (some a) (.fin e last cr img)) s fun t => t.chip.tw.f = none
          ∧ t.chip.tw.c = s.chip.tw.c ∧ t.chip.f Dip.EPOCH_DROP = min 65535 (s.chip.f Dip.EPOCH_DROP + 1) ∧ Posts s t 6 6 5 [])))
    ∧ (s.chip.tw.applying = true →
      (s.chip.tw.f = none → Ends .epochApplyDone s fun t => t.chip.tw = { s.chip.tw with applying := false } ∧ SameRegsBut (fun _ => False) s t)
      ∧ (Watches s → ∀ b, s.chip.tw.f = some b → ∀ img, b.fin = some img → Ends .epochApplyDone s fun t => t.chip.f Dip.CEPOCH = b.epoch % 65536
        ∧ t.chip.tw.f = none ∧ t.chip.tw.c = some b ∧ t.chip.tw.applying = true))

/-- R648, R656, R657, R659–R662, R664, R669, R671, R637, R666: who takes over, the gap, and the drive interlock. -/
def Obligations.TakeoverFollowsTheInterlock : Prop :=
  ∀ s : State, Between s →
    (Watches s → (Ends .primarySilent s fun t => t.chip.tw.take = 1 ∧ t.chip.tw.takeCause = 1 ∧ t.chip.tw.f = none ∧ SameMemory s t
        ∧ SameRegsBut (fun _ => False) s t)
      ∧ (s.chip.f Dip.PREF ≠ 0 → s.chip.tw.ho ≠ 2 → Ends .takeNAssert s fun t => t.chip.tw.take = 1 ∧ t.chip.tw.takeCause = 2 ∧ t.chip.tw.f = none
        ∧ t.chip.f Dip.TAKE_N = 0))
    ∧ (s.chip.f Dip.ROLE = 3 → s.chip.tw.take = 1 → s.chip.f Dip.PREF ≠ 0 → s.chip.tw.ho ≠ 2 → Ends .takeNAssert s fun t =>
        t.chip.tw.take = 1 ∧ t.chip.tw.takeCause = if s.chip.tw.takeBeat = s.chip.clock then 2 else s.chip.tw.takeCause)
    ∧ (s.chip.f Dip.ROLE = 2 → s.chip.f Dip.PREF ≠ 0 → s.chip.tw.ho ≠ 2 → s.chip.tw.ignoreTake = false → Ends .takeNAssert s fun t => Demoted t)
    ∧ (s.chip.f Dip.ROLE ≠ 2 → s.chip.f Dip.ROLE ≠ 3 → Ends .takeNAssert s fun t => t.chip.tw = s.chip.tw
      ∧ SameRegsBut (fun a => a = Dip.TAKE_N.addr) s t)
    ∧ (Ends .takeNDeasserted s fun t => t.chip.f Dip.TAKE_N = 1 ∧ t.chip.tw.ignoreTake = false)
    ∧ (s.chip.f Dip.ROLE = 3 → s.chip.tw.take = 1 → ∀ high : List (BitVec 17),
      ∀ base, base = (match s.chip.tw.c with
        | some b => bits (b.word 656) 31 28
        | none => s.chip.tw.primRe) →
      Ends (.takeoverQualified high) s fun t => t.chip.tw.take = 2 ∧ t.chip.f Dip.ROLE_EPOCH = (base + 1) % 15
        ∧ t.chip.f Seq.ROLE_EPOCH = (base + 1) % 15 ∧ t.chip.f Seq.COUNT = 0 ∧ t.chip.f Dip.OWN_OUT = s.chip.f Dip.OWN_OUT
        ∧ (∀ e es, s.chip.tw.seedList = e :: es → es = [] → e.fmt = 2 → t.chip.bytesAt e.addr 4 = ((high[e.rail]?).getD 0).toNat))
    ∧ (∀ (w uid : BitVec 64) (a : BitVec 8), s.chip.f Dip.ROLE = 3 → s.chip.tw.take = 1 → s.chip.f Dip.LINK ≠ 0 → bits w.toNat 3 0 = 2 → s.chip.tw.negotiating = false →
      bits w.toNat 63 32 = s.chip.f Dip.CEIL_CRC → Ends (.heartbeatReceive w uid (some a)) s fun t => t.chip.tw.take = 0)
    ∧ (s.chip.f Dip.ROLE = 3 → s.chip.tw.take = 2 → s.chip.f Dip.OWN_OUT = 0 → s.chip.tw.backoff = false →
      (s.chip.f Dip.OWN_IN = 0 → Ends .takeoverDrive s fun t => TakesOver s t)
      ∧ (s.chip.f Dip.OWN_IN = 1 → s.chip.lowerRank = true → Ends .takeoverDrive s fun t => t.chip.f Dip.ROLE = 3 ∧ t.chip.f Dip.OWN_OUT = 0
        ∧ t.chip.tw.backoff = true ∧ t.chip.tw.k = s.chip.tw.k + 1 ∧ (10 ≤ s.chip.tw.k + 1 → Posts s t 6 6 7 []))
      ∧ (s.chip.f Dip.OWN_IN = 1 → s.chip.lowerRank = false → Ends .takeoverDrive s fun t => t.chip.f Dip.ROLE = 3 ∧ t.chip.f Dip.OWN_OUT = 1
        ∧ t.chip.driveOff = true ∧ t.chip.tw.paused = true))
    ∧ (s.chip.tw.backoff = true → Ends .withdrawRetry s fun t => t.chip.f Dip.OWN_OUT = 1 ∧ t.chip.tw.backoff = false ∧ t.chip.tw.sample = true)
    ∧ (s.chip.f Dip.OWN_OUT = 1 → s.chip.driveOff = false → Ends .withdrawCountRestart s fun t => t.chip.tw.k = 0)
    ∧ (s.chip.tw.take ≠ 1 → s.chip.tw.sample = true → s.chip.f Dip.OWN_OUT = 1 →
      (s.chip.tw.take = 2 → Ends (.ownInSample false) s fun t => TakesOver s t)
      ∧ (s.chip.tw.take = 0 → Ends (.ownInSample false) s fun t => t.chip.driveOff = false ∧ t.chip.f Dip.OWN_OUT = 1 ∧ t.chip.f Dip.OWN_IN = 0)
      ∧ (s.chip.lowerRank = true → Ends (.ownInSample true) s fun t => t.chip.driveOff = true ∧ t.chip.f Dip.OWN_OUT = 0 ∧ t.chip.tw.backoff = true))
    ∧ (s.chip.tw.take = 1 → s.chip.tw.blocked = false → Ends (.ownInSample true) s fun t => t.chip.tw.take = 1 ∧ Posts s t 6 6 7 [])
    ∧ (s.chip.tw.negotiating = false → s.chip.tw.sample = false → s.chip.f Dip.OWN_OUT = 1 → s.chip.driveOff = false → Ends .ownInAssert s fun t =>
        t.chip.driveOff = true ∧ t.chip.f Dip.OWN_IN = 1 ∧ (s.chip.lowerRank = false → t.chip.f Dip.OWN_OUT = 1)
        ∧ (s.chip.lowerRank = true → t.chip.f Dip.OWN_OUT = 0))
    ∧ (s.chip.tw.negotiating = false → s.chip.tw.sample = false → s.chip.f Dip.OWN_OUT = 0 → s.chip.f Dip.ROLE = 2 → s.chip.tw.paused = false →
        Ends .ownInAssert s fun t => Demoted t ∧ Posts s t 6 6 10 [])
    ∧ (s.chip.tw.sample = true → s.chip.tw.negotiating = false → s.chip.driveOff = true → Ends .ownInAssert s fun t =>
        t.chip.f Dip.OWN_IN = 1 ∧ t.chip.tw = s.chip.tw ∧ t.chip.driveOff = true ∧ SameRegsBut (fun a => a = Dip.OWN_IN.addr) s t)
    ∧ (s.chip.tw.paused = true → s.chip.f Dip.OWN_OUT = 1 →
      (s.chip.tw.take = 0 → Ends .ownInDeassert s fun t => t.chip.driveOff = false ∧ t.chip.f Dip.OWN_IN = 0 ∧ t.chip.tw.paused = false)
      ∧ (s.chip.tw.take = 2 → Ends .ownInDeassert s fun t => TakesOver s t))
    ∧ (s.chip.f Dip.ROLE = 3 → Ends .twinOkLapse s fun t => t.chip.f Dip.TWIN_OK = 0)
    ∧ (s.chip.tw.negotiating = true → s.chip.f Dip.LINK ≠ 2 → s.chip.f Dip.OWN_IN = 0 →
      (s.chip.f Dip.PREF = 1 ∨ 1 ≤ s.chip.tw.negs → s.chip.pw.mode = .wake → s.chip.pw.step = 9 → Ends .negTimeout s fun t => t.chip.f Dip.ROLE = 2
        ∧ t.chip.tw.negotiating = false ∧ t.chip.pw.step = 10)
      ∧ (s.chip.f Dip.PREF ≠ 1 → s.chip.tw.negs = 0 → Ends .negTimeout s fun t => t.chip.tw.negs = 1 ∧ SameRegsBut (fun _ => False) s t))

/-! ### Load switches -/

namespace Sys2Proof.Slice0

open Sys2Proof.Machine Sys2Proof.Machine.Reg

/-- R682: the sender may write channel `n`. -/
abbrev LswMay (s : State) (n : Nat) (q : Sender) : Prop :=
  s.chip.fenced 18 = false ∧ (q.priv = true ∨ bit (s.chip.f (Lsw.WMASK n)) q.tenant = true)

/-- R679: the channel wants to conduct. -/
def wants (s : State) (n : Nat) : Bool := s.chip.f (Lsw.MODE n) == 1 || (s.chip.f (Lsw.MODE n) == 2 && s.chip.b (Lsw.IN n))

/-- Nothing but the bus keeps the channel off (R680, R705); DORMANT_FAULT holds every channel off (R891). -/
def lswFree (s : State) (n : Nat) : Bool :=
  wants s n && s.chip.f (Lsw.PAUSE n) == 0 && s.chip.f (Lsw.THERM n) == 0 && s.chip.f (Lsw.LATCHED n) == 0 && s.chip.pw.mode != .dormant

/-- R680: the channel conducts exactly when it wants to and nothing holds it off. -/
def Settled (t : State) (n : Nat) : Prop :=
  t.chip.f (Lsw.WANT n) = b2n (wants t n) ∧ t.chip.f (Lsw.CONDUCT n) = b2n (lswFree t n && t.chip.f (Lsw.BUS_OFF n) == 0)

/-- Every other channel, and the switch block's protections, are as before. -/
def OtherChannels (s t : State) (n : Nat) : Prop := ∀ m : Fin 16, m.val ≠ n → ∀ k : Fin 8, t.chip.reg (Lsw.base m + 4 * k) = s.chip.reg (Lsw.base m + 4 * k)

/-- Ascending RANK, ties by number (R705). -/
def rankBefore (s : State) (a b : Nat) : Bool :=
  decide (s.chip.f (Lsw.RANK a) < s.chip.f (Lsw.RANK b) ∨ (s.chip.f (Lsw.RANK a) = s.chip.f (Lsw.RANK b) ∧ a < b))

end Sys2Proof.Slice0

/-- R679, R682–R684, R690, R711–R714: commands to a channel, its mirror word, and who may write them. R689, R691–R694, R722, R723: trips, pauses, latches
and temperature limits; a trip in the beat in which a command or a temperature limit turns the channel off still counts. -/
def Obligations.SwitchCommandsAndProtections : Prop :=
  ∀ (s : State) (n : Fin 16), Between s →
    (NoUpdate s → ∀ q : Sender, LswMay s n q → s.chip.shadow = false →
      (∀ m : BitVec 2, m ≠ 3 → Ends (.channelModeWrite n q m) s fun t => t.chip.f (Lsw.MODE n) = m.toNat ∧ Settled t n ∧ t.chip.resp = some (stOk, [])
        ∧ t.chip.f (Lsw.TRIPS n) = s.chip.f (Lsw.TRIPS n) ∧ t.chip.f (Lsw.PAUSE n) = s.chip.f (Lsw.PAUSE n) ∧ OtherChannels s t n)
      ∧ (∀ d : Word, s.chip.b Power.SEALED = true → bits d.toNat 13 8 ≤ 34 → Ends (.channelConfigWrite n q 1 d) s fun t =>
          t.chip.f (Lsw.ILIM n) = min (bits d.toNat 13 8) (s.chip.f (Lsw.ILIM_MAX n)) ∧ t.chip.f (Lsw.RANK n) = bits d.toNat 19 16
          ∧ t.chip.f (Lsw.ILIM_MAX n) = s.chip.f (Lsw.ILIM_MAX n) ∧ OtherChannels s t n)
      ∧ (Ends (.latchClr n q) s fun t => t.chip.f (Lsw.LATCHED n) = 0 ∧ t.chip.f (Lsw.TRIPS n) = 0 ∧ t.chip.f (Lsw.PAUSE n) = 0
          ∧ t.chip.f (Lsw.PAUSE_LEFT n) = 0 ∧ t.chip.f (Lsw.MODE n) = s.chip.f (Lsw.MODE n) ∧ Settled t n ∧ OtherChannels s t n))
    ∧ (∀ (q : Sender) (m : BitVec 2), s.chip.fenced 18 = false →
      (q.priv = false → bit (s.chip.f (Lsw.WMASK n)) q.tenant = false → Ends (.channelModeWrite n q m) s fun t => Refuses s t stDenied)
      ∧ (LswMay s n q → s.chip.shadow = true → m ≠ 3 → m.toNat ≠ s.chip.f (Lsw.MODE n) → Ends (.channelModeWrite n q m) s fun t =>
        Refuses s t stNotOwner))
    ∧ (∀ (q : Sender) (d : Word), s.chip.fenced 18 = false →
      (s.chip.shadow = true → q.src = 82 → q.tenant = 7 → q.priv = true → Ends (.mirrorWordWrite n q d) s fun t =>
        t.chip.f (Lsw.TWIN_TRIPS n) = bits d.toNat 11 8 ∧ t.chip.f (Lsw.TWIN_LATCHED n) = bits d.toNat 4 4
        ∧ t.chip.f (Lsw.RANK n) = bits d.toNat 15 12 ∧ t.chip.f (Lsw.ILIM n) = min (bits d.toNat 29 24) (s.chip.f (Lsw.ILIM_MAX n))
        ∧ (bits d.toNat 4 4 = 1 → t.chip.f (Lsw.MODE n) = 0) ∧ (bits d.toNat 4 4 = 0 → bits d.toNat 1 0 ≠ 3 → t.chip.f (Lsw.MODE n) = bits d.toNat 1 0)
        ∧ Settled t n ∧ OtherChannels s t n ∧ t.chip.resp = some (stOk, []))
      ∧ (s.chip.primary = true → q.priv = true → Ends (.mirrorWordWrite n q d) s fun t => Refuses s t stDenied))
    ∧ (s.chip.f (Lsw.CONDUCT n) = 1 → s.chip.f (Lsw.START n) = 0 → ∀ cur : BitVec 12, ∀ k, k = min 15 (s.chip.f (Lsw.TRIPS n) + 1) →
      Ends (.lswOc n cur) s fun t => t.chip.f (Lsw.CONDUCT n) = 0 ∧ t.chip.f (Lsw.TRIPS n) = k ∧ OtherChannels s t n
        ∧ t.chip.f (Lsw.TRIP_CNT n) = min 65535 (s.chip.f (Lsw.TRIP_CNT n) + 1) ∧ t.chip.f (Lsw.MODE n) = s.chip.f (Lsw.MODE n)
        ∧ (max 1 (s.chip.f (Lsw.RETRY_N n)) ≤ k → t.chip.f (Lsw.LATCHED n) = 1 ∧ t.chip.f (Lsw.PAUSE n) = s.chip.f (Lsw.PAUSE n))
        ∧ (k < max 1 (s.chip.f (Lsw.RETRY_N n)) → t.chip.f (Lsw.PAUSE n) = 1
            ∧ t.chip.f (Lsw.PAUSE_LEFT n) = min 512 ((s.chip.f (Lsw.RETRY_BASE n) + 1) * 2 ^ (k - 1))))
    ∧ (∀ cur : BitVec 12, s.chip.f (Lsw.CONDUCT n) = 0 ∨ s.chip.f (Lsw.START n) = 1 →
      ((s.chip.lsw n).off ≠ some s.chip.clock → Ends (.lswOc n cur) s fun t => t.chip = s.chip)
      ∧ (s.chip.f (Lsw.CONDUCT n) = 0 → (s.chip.lsw n).off = some s.chip.clock → (s.chip.lsw n).offOut = true →
        (s.chip.lsw n).tripAt ≠ some s.chip.clock → s.chip.f (Lsw.BUS_OFF n) = 0 → Ends (.lswOc n cur) s fun t =>
          t.chip.f (Lsw.TRIPS n) = min 15 (s.chip.f (Lsw.TRIPS n) + 1) ∧ t.chip.f (Lsw.TRIP_CNT n) = min 65535 (s.chip.f (Lsw.TRIP_CNT n) + 1)
          ∧ t.chip.f (Lsw.CONDUCT n) = 0 ∧ OtherChannels s t n))
    ∧ (s.chip.f (Lsw.PAUSE n) = 1 → Ends (.pauseEnd n) s fun t => t.chip.f (Lsw.PAUSE n) = 0 ∧ t.chip.f (Lsw.PAUSE_LEFT n) = 0 ∧ Settled t n
        ∧ t.chip.f (Lsw.TRIPS n) = s.chip.f (Lsw.TRIPS n) ∧ OtherChannels s t n)
    ∧ (s.chip.f (Lsw.CONDUCT n) = 1 → (s.chip.f (Lsw.START n) = 0 → Ends (.tripsReset n) s fun t => t.chip.f (Lsw.TRIPS n) = 0 ∧ OtherChannels s t n)
      ∧ Ends (.blankingEnd n) s fun t => t.chip.f (Lsw.START n) = 0 ∧ t.chip.f (Lsw.CONDUCT n) = 1 ∧ SameRegsBut (fun a => a = (Lsw.START n).addr) s t)
    ∧ (∀ (tj : Int) (dt : BitVec 8),
      (s.chip.f (Lsw.THERM n) = 0 → (40 + 10 * s.chip.f (Lsw.DT_LIM n) < dt.toNat ∨ 175 < tj) → Ends (.lswTherm n tj dt) s fun t =>
        t.chip.f (Lsw.THERM n) = 1 ∧ t.chip.f (Lsw.CONDUCT n) = 0
        ∧ t.chip.f (Lsw.THERM_CNT n) = min 65535 (s.chip.f (Lsw.THERM_CNT n)
            + b2n (s.chip.b (Lsw.CONDUCT n) || (s.chip.lsw n).off == some s.chip.clock))
        ∧ t.chip.f (Lsw.TRIPS n) = s.chip.f (Lsw.TRIPS n) ∧ t.chip.f (Lsw.LATCHED n) = s.chip.f (Lsw.LATCHED n) ∧ OtherChannels s t n)
      ∧ (dt.toNat ≤ 40 + 10 * s.chip.f (Lsw.DT_LIM n) → tj ≤ 175 → Ends (.lswTherm n tj dt) s fun t => t.chip = s.chip)
      ∧ (s.chip.f (Lsw.THERM n) = 1 → dt.toNat + 20 ≤ 40 + 10 * s.chip.f (Lsw.DT_LIM n) → tj ≤ 165 → Ends (.thermClear n tj dt) s fun t =>
        t.chip.f (Lsw.THERM n) = 0 ∧ Settled t n ∧ OtherChannels s t n)
      ∧ (40 + 10 * s.chip.f (Lsw.DT_LIM n) < dt.toNat + 20 ∨ 165 < tj → Ends (.thermClear n tj dt) s fun t => t.chip = s.chip))

/-- R695: FOLLOW inputs. R699, R700, R701, R702, R725: the watchdog; a kick in the beat of its expiry counts as in time. R704–R707: a bus dip and
the staggered return, in which a channel that is not ready at its slot stays off (the model's choice, notes/assumptions). R709: a loss of retention. -/
def Obligations.SwitchBusFollowAndWatchdog : Prop :=
  ∀ s : State, Between s →
    (∀ (n : Fin 16) (l : Bool), ∀ h, h = s.chip.lsw n →
      (l ≠ s.chip.b (Lsw.IN n) → h.barOpp = false → (l = true → h.barRise = false) → Ends (.followInputEdge n l) s fun t => t.chip.b (Lsw.IN n) = l
        ∧ (t.chip.lsw n).raw = l ∧ (t.chip.lsw n).barOpp = true ∧ (l = true → (t.chip.lsw n).barRise = true) ∧ Settled t n ∧ OtherChannels s t n)
      ∧ (l = s.chip.b (Lsw.IN n) ∨ h.barOpp = true ∨ (l = true ∧ h.barRise = true) → Ends (.followInputEdge n l) s fun t =>
        t.chip.b (Lsw.IN n) = s.chip.b (Lsw.IN n) ∧ (t.chip.lsw n).raw = l ∧ SameRegsBut (fun _ => False) s t)
      ∧ (h.raw ≠ s.chip.b (Lsw.IN n) → (h.raw = true → h.barRise = false) → Ends (.followBarEnd n false) s fun t => t.chip.b (Lsw.IN n) = h.raw ∧ Settled t n)
      ∧ (h.raw = s.chip.b (Lsw.IN n) → Ends (.followBarEnd n l) s fun t => t.chip.b (Lsw.IN n) = h.raw
        ∧ (t.chip.lsw n).barRise = (h.barRise && !l) ∧ (t.chip.lsw n).barOpp = (h.barOpp && l) ∧ SameRegsBut (fun _ => False) s t))
    ∧ (∀ (q : Sender) (d : Word), s.chip.fenced 18 = false →
      (q.priv = true → d = 0xA55A → Ends (.wdtKick q d) s fun t => t.chip.f Sw.WDT_EXP = 0 ∧ t.chip.f Sw.KICK_BAD = s.chip.f Sw.KICK_BAD
        ∧ t.chip.resp = some (stOk, []))
      ∧ (q.priv = true → d ≠ 0xA55A → Ends (.wdtKick q d) s fun t => t.chip.f Sw.WDT_EXP = s.chip.f Sw.WDT_EXP ∧ t.chip.f Sw.KICK_BAD = 1)
      ∧ (q.priv = false → Ends (.wdtKick q d) s fun t => t.chip.f Sw.WDT_EXP = s.chip.f Sw.WDT_EXP ∧ t.chip.f Sw.KICK_BAD = 1
        ∧ t.chip.resp = some (stPriv, [])))
    ∧ (s.chip.pw.mode = .run → s.chip.pw.vddh = true →
      (s.chip.f Sw.WDT_PER ≠ 0 → s.chip.shadow = false → s.chip.sw.kick ≠ s.chip.clock + 1 → Ends .lswWdt s fun t => t.chip.f Sw.WDT_EXP = 1 ∧ ∀ n : Fin 16,
        t.chip.f (Lsw.MODE n) = (match s.chip.f (Lsw.SAFE_ACT n) with | 1 => 0 | 2 => 1 | _ => s.chip.f (Lsw.MODE n))
        ∧ t.chip.f (Lsw.TRIPS n) = s.chip.f (Lsw.TRIPS n) ∧ t.chip.f (Lsw.PAUSE n) = s.chip.f (Lsw.PAUSE n)
        ∧ t.chip.f (Lsw.LATCHED n) = s.chip.f (Lsw.LATCHED n))
      ∧ (s.chip.f Sw.WDT_PER = 0 ∨ s.chip.shadow = true ∨ s.chip.sw.kick = s.chip.clock + 1 → Ends .lswWdt s fun t => t.chip = s.chip)
      ∧ (s.chip.f Sw.WDT_PER ≠ 0 → s.chip.shadow = false → ∀ q : Sender, MayPriv s 18 q → Ends .lswWdt s fun u => Ends (.wdtKick q 0xA55A) u fun t =>
        t.chip.f Sw.WDT_EXP = 0 ∧ ∀ n : Fin 16, t.chip.f (Lsw.MODE n) = s.chip.f (Lsw.MODE n)))
    ∧ (Ends .lswBusOff s fun t => t.chip.sw.back = false ∧ t.chip.sw.order = [] ∧ t.chip.f Sw.RETURNING = 0 ∧ ∀ n : Fin 16, t.chip.f (Lsw.BUS_OFF n) = 1
        ∧ t.chip.f (Lsw.CONDUCT n) = 0 ∧ t.chip.f (Lsw.MODE n) = s.chip.f (Lsw.MODE n) ∧ t.chip.f (Lsw.TRIPS n) = s.chip.f (Lsw.TRIPS n)
        ∧ t.chip.f (Lsw.LATCHED n) = s.chip.f (Lsw.LATCHED n) ∧ t.chip.f (Lsw.PAUSE_LEFT n) = s.chip.f (Lsw.PAUSE_LEFT n))
    ∧ (s.chip.sw.back = false →
      (∀ n : Fin 16, lswFree s n = true → (∀ m : Fin 16, lswFree s m = true → m = n ∨ rankBefore s n m = true) → Ends .lswBusReturn s fun t =>
        t.chip.sw.back = true ∧ t.chip.f (Lsw.BUS_OFF n) = 0 ∧ t.chip.f (Lsw.CONDUCT n) = 1
        ∧ (∀ m : Fin 16, (m.val ∈ t.chip.sw.order ↔ lswFree s m = true ∧ m ≠ n) ∧ (m ≠ n → t.chip.f (Lsw.BUS_OFF m) = s.chip.f (Lsw.BUS_OFF m)))
        ∧ t.chip.sw.order.Pairwise (fun a b => rankBefore s a b = true) ∧ (t.chip.f Sw.RETURNING = 1 ↔ t.chip.sw.order ≠ []))
      ∧ ((∀ n : Fin 16, lswFree s n = false) → Ends .lswBusReturn s fun t => t.chip.sw.order = [] ∧ t.chip.f Sw.RETURNING = 0))
    ∧ (∀ n ns, s.chip.sw.order = n :: ns → n < 16 → ns.all (fun m => m != n) = true →
      (Ends .returnSlot s fun t => t.chip.sw.order = ns ∧ (t.chip.f Sw.RETURNING = 1 ↔ ns ≠ []) ∧ OtherChannels s t n)
      ∧ (lswFree s n = true → Ends .returnSlot s fun t => t.chip.f (Lsw.BUS_OFF n) = 0 ∧ Settled t n)
      ∧ (lswFree s n = false → Ends .returnSlot s fun t => t.chip.f (Lsw.BUS_OFF n) = s.chip.f (Lsw.BUS_OFF n)))
    ∧ (Ends .lswRetainLost s fun t => t.chip.f Sw.RETAINED = 0 ∧ t.chip.f Sw.WDT_PER = 0 ∧ ∀ n : Fin 16, t.chip.f (Lsw.MODE n) = 0
        ∧ t.chip.f (Lsw.TRIPS n) = 0 ∧ t.chip.f (Lsw.LATCHED n) = 0 ∧ t.chip.f (Lsw.CONDUCT n) = 0 ∧ t.chip.f (Lsw.PAUSE n) = 0)

/-! ### Events, counters, trace, the Sketchbook and the cells -/

namespace Sys2Proof.Slice0

open Sys2Proof.Machine Sys2Proof.Machine.Reg

/-- The 16 words of a record stamped now (R740), with the role epoch 15 at a Shadow (R663). -/
def record (s : State) (src tenant code sseq : Nat) (payload : List Word) : List Word :=
  [BitVec.ofNat 32 (s.chip.f Seq.COUNT + (if s.chip.f Dip.ROLE = 3 then 15 else s.chip.f Seq.ROLE_EPOCH) * 2 ^ 28),
   BitVec.ofNat 32 (s.chip.beat % 2 ^ 32),
   BitVec.ofNat 32 (s.chip.beat / 2 ^ 32 % 2 ^ 16 + src * 2 ^ 16 + tenant * 2 ^ 24 + payload.length * 2 ^ 28),
   BitVec.ofNat 32 (code + sseq * 2 ^ 16)] ++ payload ++ List.replicate (12 - payload.length) 0

/-- SEQ stamps one record more, which the stamp buffer holds. -/
def Stamps (s t : State) (src tenant code sseq : Nat) (payload : List Word) : Prop :=
  t.chip.seq.buf = s.chip.seq.buf ++ [{ cls := code / 2048, words := record s src tenant code sseq payload }]
    ∧ t.chip.f Seq.COUNT = (s.chip.f Seq.COUNT + 1) % 2 ^ 28

/-- A 48-bit counter. -/
def cnt48 (lo hi : Nat) : Nat := lo + hi * 2 ^ 32

/-- `b` is a Crumb block of the samples `xs` (R757): its exponent is the first, up to 5, at which every sample fits in 8 bits. -/
def IsCrumb (xs : List Int) (b : Nat) : Prop :=
  b % 16 ≤ 5 ∧ b < 2 ^ 68
    ∧ (∀ i : Fin 8, b / 2 ^ (4 + 8 * i.val) % 256 = low 8 (rneDiv ((xs[i]?).getD 0) (2 ^ (b % 16) : Nat)))
    ∧ (∀ e : Fin 5, e.val < b % 16 → xs.any (fun x => decide (127 < rneDiv x (2 ^ e.val : Nat) ∨ rneDiv x (2 ^ e.val : Nat) < -128)) = true)
    ∧ (b % 16 < 5 → xs.all (fun x => decide (-128 ≤ rneDiv x (2 ^ (b % 16) : Nat) ∧ rneDiv x (2 ^ (b % 16) : Nat) ≤ 127)) = true)

/-- Sketchbook count `i`. -/
def skb (s : State) (i : Nat) : Nat := mget 0 s.chip.skb.counts i

/-- The 8 bytes of physical cell word `w`. -/
def cellWord (s : State) (w i : Nat) : Byte := mget 0xFF s.chip.nvc.cells (8 * w + i)

/-- NVC accepts page writes of the register interface to this page from this sender (R791, R793, R800). -/
abbrev NvMay (s : State) (q : Sender) (page : Nat) : Prop :=
  s.chip.activePage page = false ∧ ((q.priv = true ∧ (page < 0x2100 ∨ (0x2240 ≤ page ∧ page < 0x3F00)))
    ∨ (0x2240 ≤ page ∧ page < 0x3F00 ∧ bit (s.chip.f Nvc.USER_WR) q.tenant = true))

end Sys2Proof.Slice0

/-- R736–R740: events are checked, stamped or lost, at most one of a port in a beat; R742, R743: a ring takes the records and gives them
back; R779: a TAIL written in the beat in which a record found the ring full makes room for it. R746, R747, R748, R751, R781: counters. That one
COUNTER_TICK is one free beat is the model's choice (notes/assumptions/5.md). -/
def Obligations.EventsAreStampedAndCounted : Prop :=
  ∀ s : State, Between s →
    (s.chip.seq.locAt = s.chip.clock + 1 → Ends (.eventReceive true true) s fun t => t.chip = s.chip)
    ∧ (∀ e es, s.chip.seq.local_ = e :: es → e.2.length ≤ 12 → e.1 < 65536 → s.chip.seq.locAt ≠ s.chip.clock + 1 →
      (s.chip.seq.buf.length < 64 → s.chip.seq.lost = 0 → Ends (.eventReceive true true) s fun t => t.chip.seq.local_.take es.length = es ∧ Stamps s t 30 0 e.1 0 e.2
        ∧ t.chip.f Seq.SOVF_CNT = s.chip.f Seq.SOVF_CNT ∧ SameMemory s t)
      ∧ (64 ≤ s.chip.seq.buf.length → Ends (.eventReceive true true) s fun t => t.chip.seq.local_ = es
        ∧ t.chip.seq.buf = s.chip.seq.buf
        ∧ t.chip.f Seq.SOVF_CNT = min (2 ^ 32 - 1) (s.chip.f Seq.SOVF_CNT + 1) ∧ t.chip.seq.lost = s.chip.seq.lost + 1
        ∧ t.chip.f Seq.COUNT = s.chip.f Seq.COUNT))
    ∧ (∀ e es, s.chip.seq.local_ = e :: es → e.2.length ≤ 12 → e.1 < 65536 → s.chip.seq.buf = [] → s.chip.seq.lost = 0 →
      s.chip.seq.locAt ≠ s.chip.clock + 1 → ∀ r : Fin 4,
      (∀ k : Fin 4, s.chip.f (Seq.EVRr_EN k) = b2n (k == r)) → bit (s.chip.f (Seq.EVRr_CLASSMASK r)) (e.1 / 2048) = true → 4 ≤ s.chip.f (Seq.EVRr_LOG r) →
      s.chip.f (Seq.EVRr_LOG r) ≤ 10 → ∀ n, n = 2 ^ s.chip.f (Seq.EVRr_LOG r) → ∀ h, h = s.chip.f (Seq.EVRr_HEAD r) →
      ((h + 65536 - s.chip.f (Seq.EVRr_TAIL r)) % 65536 < n → Ends (.eventReceive true false) s fun t => t.chip.seq.buf = []
        ∧ t.chip.f (Seq.EVRr_HEAD r) = (h + 1) % 65536
        ∧ t.chip.bytesAt (nodeBase 17 + s.chip.f (Seq.EVRr_BASE r) / 64 * 64 + 64 * (h % n)) 64 = ofWords (record s 30 0 e.1 0 e.2))
      ∧ (n ≤ (h + 65536 - s.chip.f (Seq.EVRr_TAIL r)) % 65536 → Ends (.eventReceive true false) s fun t => t.chip.seq.buf = []
        ∧ t.chip.f (Seq.EVRr_HEAD r) = h ∧ t.chip.f (Seq.EVRr_OVF r) = 1
        ∧ t.chip.f (Seq.EVRr_LOST r) = min (2 ^ 32 - 1) (s.chip.f (Seq.EVRr_LOST r) + 1) ∧ t.chip.mem = s.chip.mem)
      ∧ (n ≤ (h + 65536 - s.chip.f (Seq.EVRr_TAIL r)) % 65536 → s.chip.seq.missAt ≠ s.chip.clock → s.chip.evrTook r = 0 →
        ∀ (q : Sender) (d : Word), MayPriv s 30 q → (h + 65536 - bits d.toNat 31 16) % 65536 < n → Ends (.eventReceive true false) s fun u =>
          Ends (.eventRingTailWrite r q d) u fun t => t.chip.f (Seq.EVRr_TAIL r) = bits d.toNat 31 16 ∧ t.chip.f (Seq.EVRr_HEAD r) = (h + 1) % 65536
            ∧ t.chip.f (Seq.EVRr_LOST r) = s.chip.f (Seq.EVRr_LOST r) ∧ t.chip.f (Seq.EVRr_OVF r) = s.chip.f (Seq.EVRr_OVF r)))
    ∧ (∀ p ps, (s.chip.ni 30).in3 = p :: ps → p.hdr.offset < 64 → p.hdr.len ≤ 12 → p.words.length = p.hdr.len + 1 → p.hdr.src < 128 → p.hdr.tenant < 8 →
      s.chip.seq.buf.length < 63 → s.chip.seq.lost = 0 → s.chip.seq.latAt ≠ s.chip.clock + 1 →
      (s.chip.seq.locAt = s.chip.clock + 1 ∨ s.chip.seq.local_ = []) → ∀ w, w = wordAt p.words 0 → ∀ x, x = mget 0 s.chip.seq.expect p.hdr.src →
      ((x = 0 ∨ w / 65536 = x - 1) → Ends (.eventReceive false true) s fun t => (t.chip.ni 30).in3 = ps
        ∧ Stamps s t p.hdr.src p.hdr.tenant (w % 65536) (w / 65536) (p.words.drop 1)
        ∧ mget 0 t.chip.seq.expect p.hdr.src = (w / 65536 + 1) % 65536 + 1 ∧ t.chip.f Seq.LOSS_CNT = s.chip.f Seq.LOSS_CNT)
      ∧ (∀ d, d = (w / 65536 + 65537 - x) % 65536 → x ≠ 0 → x ≤ 65536 → d ≠ 0 → Ends (.eventReceive false true) s fun t => (t.chip.ni 30).in3 = ps
        ∧ t.chip.f Seq.LOSS_CNT = min (2 ^ 32 - 1) (s.chip.f Seq.LOSS_CNT + d) ∧ t.chip.f Seq.COUNT = (s.chip.f Seq.COUNT + 2) % 2 ^ 28
        ∧ t.chip.seq.buf.dropLast = s.chip.seq.buf ++ [{ cls := 0, words := record s 30 0 1 0 [BitVec.ofNat 32 (p.hdr.src + d * 2 ^ 16)] }]))
    ∧ (s.chip.seq.lost ≠ 0 → s.chip.seq.buf = [] → Ends .seqOvf s fun t => t.chip.seq.lost = 0
        ∧ Stamps s t 30 0 3 0 [BitVec.ofNat 32 s.chip.seq.lost])
    ∧ (∀ (r : Fin 4) (q : Sender) (d : Word), MayPriv s 30 q → s.chip.evrTook r = 0 → s.chip.seq.missAt ≠ s.chip.clock → 4 ≤ s.chip.f (Seq.EVRr_LOG r) → s.chip.f (Seq.EVRr_LOG r) ≤ 10 →
      ∀ used, used = (s.chip.f (Seq.EVRr_HEAD r) + 65536 - bits d.toNat 31 16) % 65536 →
      (used ≤ 2 ^ s.chip.f (Seq.EVRr_LOG r) → Ends (.eventRingTailWrite r q d) s fun t => t.chip.f (Seq.EVRr_TAIL r) = bits d.toNat 31 16
        ∧ t.chip.f (Seq.EVRr_HEAD r) = s.chip.f (Seq.EVRr_HEAD r) ∧ t.chip.resp = some (stOk, []))
      ∧ (2 ^ s.chip.f (Seq.EVRr_LOG r) < used → Ends (.eventRingTailWrite r q d) s fun t => t.chip.f (Seq.EVRr_TAIL_BAD r) = 1
        ∧ t.chip.f (Seq.EVRr_TAIL r) = s.chip.f (Seq.EVRr_TAIL r)))
    ∧ (Ends .counterTick s fun t => t.chip.beat = (s.chip.beat + 1) % 2 ^ 48 ∧ t.chip.clock = s.chip.clock + 1 ∧ NoUpdate t
      ∧ (∀ (n : Fin 49) (k : Fin 4), ∀ v, v = cnt48 (s.chip.f (Bank.CNTk_LO n k)) (s.chip.f (Bank.CNTk_HI n k)) →
        (s.chip.f (Bank.BANK_FREEZE n) = 1 ∨ s.chip.f (Bank.CFGk_EN n k) = 0 ∨ s.chip.f (Bank.CFGk_SEL n k) = 0 →
          cnt48 (t.chip.f (Bank.CNTk_LO n k)) (t.chip.f (Bank.CNTk_HI n k)) = v)
        ∧ (s.chip.f (Bank.BANK_FREEZE n) = 0 → s.chip.f (Bank.CFGk_EN n k) = 1 → s.chip.f (Bank.CFGk_SEL n k) = 1 →
          (s.chip.ni n).clr ≠ s.chip.clock + 1 → cnt48 (t.chip.f (Bank.CNTk_LO n k)) (t.chip.f (Bank.CNTk_HI n k)) = (v + 1) % 2 ^ 48 ∧ (v = 2 ^ 48 - 1 → t.chip.f (Bank.CFGk_OVF n k) = 1)))
      ∧ (∀ k : Fin 32, s.chip.f (Seq.CCj_MODE k) = 3 → s.chip.f Seq.CC_FREEZE = 0 → s.chip.f Dip.ROLE ≠ 3 → s.chip.seq.clr ≠ s.chip.clock + 1 →
        cnt48 (t.chip.f (Seq.CCj_LO k)) (t.chip.f (Seq.CCj_HI k)) = (cnt48 (s.chip.f (Seq.CCj_LO k)) (s.chip.f (Seq.CCj_HI k)) + 1) % 2 ^ 48)
      ∧ ((∀ p : Fin 4, (s.chip.tile (24 + p)).pend = []) → SameMemory s t))
    ∧ (∀ (n : Fin 49) (q : Sender), NoUpdate s → MayPriv s n q → Ends (.bankClr n q) s fun t => t.chip.resp = some (stOk, [])
      ∧ (∀ k : Fin 4, t.chip.f (Bank.CNTk_LO n k) = 0 ∧ t.chip.f (Bank.CNTk_HI n k) = 0)
      ∧ t.chip.f (Bank.BANK_FREEZE n) = s.chip.f (Bank.BANK_FREEZE n) ∧ SameMemory s t)
    ∧ (∀ q : Sender, NoUpdate s → MayPriv s 30 q → Ends (.ccClr q) s fun t => t.chip.resp = some (stOk, [])
      ∧ (∀ k : Fin 32, t.chip.f (Seq.CCj_LO k) = 0 ∧ t.chip.f (Seq.CCj_HI k) = 0) ∧ t.chip.f Seq.CC_FREEZE = s.chip.f Seq.CC_FREEZE)

/-- R755–R761, R776: samples, Crumb blocks, pages and their memory. -/
def Obligations.TraceChannelsWritePages : Prop :=
  ∀ (s : State) (k : Fin 8) (q : Sender), Between s → May s 48 q → ∀ h, h = s.chip.trace k →
    (h.flushAt ≠ s.chip.clock + 1 → ∀ d : Word,
      (s.chip.f (Trc.EN k) = 0 → Ends (.sample k q d) s fun t => t.chip.trc = s.chip.trc ∧ t.chip.f (Trc.DROP_CNT k) = s.chip.f (Trc.DROP_CNT k)
        ∧ t.chip.resp = some (stOk, []))
      ∧ (s.chip.f (Trc.EN k) = 1 → (s.chip.f (Trc.FULL k) = 1 ∨ 2 ≤ h.pages.length) → Ends (.sample k q d) s fun t => t.chip.trace k = h
        ∧ t.chip.f (Trc.DROP k) = 1 ∧ t.chip.f (Trc.DROP_CNT k) = min (2 ^ 32 - 1) (s.chip.f (Trc.DROP_CNT k) + 1 + bits d.toNat 31 31))
      ∧ (s.chip.f (Trc.EN k) = 1 → s.chip.f (Trc.FULL k) = 0 → h.pages.length < 2 →
        (h.samples.length < 6 → Ends (.sample k q d) s fun t => (t.chip.trace k).blocks = h.blocks ∧ (t.chip.trace k).samples
            = h.samples ++ sgn 12 (d.toNat % 2 ^ 12) :: (if bits d.toNat 31 31 = 1 then [sgn 12 (bits d.toNat 27 16)] else []))
        ∧ (h.samples.length = 7 → h.blocks.length < 6 → bits d.toNat 31 31 = 0 → Ends (.sample k q d) s fun t => (t.chip.trace k).samples = []
          ∧ (t.chip.trace k).blocks.length = h.blocks.length + 1 ∧ (t.chip.trace k).blocks.dropLast = h.blocks ∧ ∀ b, (t.chip.trace k).blocks.getLast? = some b →
            IsCrumb (h.samples ++ [sgn 12 (d.toNat % 2 ^ 12)]) b)
        ∧ (h.samples.length = 7 → h.blocks.length = 6 → bits d.toNat 31 31 = 0 → h.blocks.all (fun b => decide (b < 2 ^ 68)) = true → Ends (.sample k q d) s fun t => (t.chip.trace k).samples = []
          ∧ (t.chip.trace k).blocks = [] ∧ (t.chip.trace k).pages.length = h.pages.length + 1 ∧ (t.chip.trace k).pages.dropLast = h.pages ∧ ∀ p, (t.chip.trace k).pages.getLast? = some p →
            p % 8 = k ∧ p / 8 % 8 = 7 ∧ p / 64 % 8 = 7 ∧ (∀ j : Fin 6, p / 2 ^ (36 + 68 * j.val) % 2 ^ 68 = (h.blocks[j]?).getD 0 % 2 ^ 68))))
    ∧ (q.priv = true →
      (h.samples = [] → h.blocks = [] → Ends (.flush k q) s fun t => (t.chip.trace k).samples = [] ∧ (t.chip.trace k).blocks = []
        ∧ (t.chip.trace k).pages = h.pages ∧ t.chip.resp = some (stOk, []))
      ∧ (h.samples = [] → h.blocks ≠ [] → h.blocks.length < 8 → Ends (.flush k q) s fun t => (t.chip.trace k).blocks = []
        ∧ (t.chip.trace k).pages = h.pages ++ [tracePage k h.blocks 7])
      ∧ (h.samples ≠ [] → h.blocks.length < 7 → h.samples.length < 8 → h.blocks.all (fun b => decide (b < 2 ^ 68)) = true → Ends (.flush k q) s fun t =>
        (t.chip.trace k).samples = [] ∧ (t.chip.trace k).blocks = [] ∧ (t.chip.trace k).pages.length = h.pages.length + 1 ∧ (t.chip.trace k).pages.dropLast = h.pages ∧ ∀ p, (t.chip.trace k).pages.getLast? = some p →
          p % 8 = k ∧ p / 8 % 8 = h.blocks.length + 1 ∧ p / 64 % 8 = h.samples.length - 1
          ∧ IsCrumb (h.samples ++ List.replicate (8 - h.samples.length) 0) (p / 2 ^ (36 + 68 * h.blocks.length) % 2 ^ 68)))
    ∧ (h.pages = [] → Ends (.tracePageWrite k) s fun t => t.chip = s.chip)
    ∧ (∀ p ps, h.pages = p :: ps → 12 ≤ s.chip.f (Trc.LOG k) → ∀ n, n = 2 ^ (s.chip.f (Trc.LOG k) - 6) →
      ∀ a, a = s.chip.f (Trc.BASE k) / (64 * n) * (64 * n) + 64 * (s.chip.f (Trc.PSEQ k) % n) → a < 2 ^ 32 - 64 →
      ∀ stops, stops = decide (s.chip.f (Trc.STOP k) = 1 ∧ s.chip.f (Trc.PSEQ k) % n = n - 1) → Ends (.tracePageWrite k) s fun t =>
        (t.chip.trace k).pages = (if stops then [] else ps) ∧ (stops = true → (t.chip.trace k).samples = [] ∧ (t.chip.trace k).blocks = [])
        ∧ t.chip.f (Trc.DROP_CNT k) = min (2 ^ 32 - 1) (s.chip.f (Trc.DROP_CNT k)
            + if stops then (ps.map pageSamples).sum + 8 * h.blocks.length + h.samples.length else 0)
        ∧ t.chip.f (Trc.PSEQ k) = (s.chip.f (Trc.PSEQ k) + 1) % 2 ^ 24
        ∧ (∀ i : Fin 64, mget 0 t.chip.xmem (a + i) = BitVec.ofNat 8 ((p + s.chip.f (Trc.PSEQ k) * 2 ^ 9) / 256 ^ i.val))
        ∧ (t.chip.f (Trc.FULL k) = 1 ↔ s.chip.f (Trc.FULL k) = 1 ∨ stops = true)
        ∧ t.chip.mem = s.chip.mem)

/-- R762–R764: what a second, a millisecond and a droop episode add. R770, R771, R785: persists. R794–R803, R807: the cells, pulse by pulse. R825:
KEYCMD. -/
def Obligations.SketchbookAndCells : Prop :=
  ∀ s : State, Between s →
    (s.chip.pw.vddh = true → s.chip.skb.counting = true → ∀ (i : Fin 32) (temp : Int),
      (i.val = 0 → temp < -280) → (1 ≤ i.val → -320 + 40 * i.val ≤ temp) → (1 ≤ i.val → i.val ≤ 30 → temp < -280 + 40 * i.val) →
      Ends (.skbSecondTick temp) s fun t => skb t 826 = skb s 826 + 1
        ∧ (∀ j : Fin 32, skb t j = skb s j + b2n (j == i))
        ∧ (∀ n : Fin 16, skb t (800 + n) = skb s (800 + n) + (s.chip.f (Lsw.TRIP_CNT n) + 65536 - mget 0 s.chip.skb.tripSeen n) % 65536)
        ∧ SameMemory s t ∧ SameRegsBut (fun _ => False) s t)
    ∧ (s.chip.skb.counting = true → ∀ (r : Fin 16), ∀ x, x = s.chip.fi (Rail.IRAIL r) →
      (s.chip.f (Rail.EN r) = 1 →
        (x < 0 → Ends .skbMsTick s fun t => skb t (32 + 32 * r + 31) = skb s (32 + 32 * r + 31) + 1)
        ∧ (x = 0 → Ends .skbMsTick s fun t => skb t (32 + 32 * r) = skb s (32 + 32 * r) + 1)
        ∧ (∀ (l : Fin 15) (b : Bool), 2 ^ l.val + b2n b * 2 ^ l.val / 2 ≤ x → x < 2 ^ l.val + (b2n b + 1) * 2 ^ l.val / 2 → (l.val = 0 → b = false) →
          Ends .skbMsTick s fun t => skb t (32 + 32 * r + 1 + 2 * l + b2n b) = skb s (32 + 32 * r + 1 + 2 * l + b2n b) + 1))
      ∧ (s.chip.f (Rail.EN r) = 0 → Ends .skbMsTick s fun t => ∀ j : Fin 32, skb t (32 + 32 * r + j) = skb s (32 + 32 * r + j))
      ∧ (∀ d : Nat, mget 0 s.chip.skb.done r = d + 1 → Ends (.droopEpisodeEnd r) s fun t => mget 0 t.chip.skb.done r = 0
        ∧ skb t (544 + 16 * r + min 15 (d / 16)) = skb s (544 + 16 * r + min 15 (d / 16)) + 1)
      ∧ (s.chip.skb.page = none → Ends .persistTimer s fun t => t.chip.skb.page = some 0 ∧ t.chip.f Skb.BUSY = 1
        ∧ t.chip.skb.snapCounts = s.chip.skb.counts ∧ t.chip.skb.snapGen = (s.chip.f Skb.GEN + 1) % 2 ^ 32))
    ∧ (∀ q : Sender, MayPriv s 32 q →
      (s.chip.skb.page = none → Ends (.persistNow q) s fun t => t.chip.skb.page = some 0 ∧ t.chip.f Skb.BUSY = 1
        ∧ t.chip.skb.snapCounts = s.chip.skb.counts ∧ t.chip.resp = some (stOk, []))
      ∧ (∀ l, s.chip.skb.page = some l → Ends (.persistNow q) s fun t => t.chip.skb.more = true ∧ t.chip.skb.page = some l ∧ t.chip.resp = some (stOk, [])))
    ∧ (∀ l, s.chip.skb.page = some l → s.chip.skb.waiting = false → s.chip.nvc.queue.length < 4 → Ends .skbPersist s fun t => t.chip.skb.waiting = true
      ∧ t.chip.nvc.queue.length = s.chip.nvc.queue.length + 1 ∧ t.chip.nvc.queue.dropLast = s.chip.nvc.queue ∧ ∀ w, t.chip.nvc.queue.getLast? = some w → w.page = 0x2100 + 16 * l + s.chip.skb.snapGen % 16
        ∧ w.origin = .skb ∧ w.data % 2 ^ 32 = s.chip.skb.snapGen % 2 ^ 32 ∧ (l < 7 → w.data / 2 ^ 64 % 2 ^ 16 = skbCode (mget 0 s.chip.skb.snapCounts (122 * l))))
    ∧ (∀ (q : Sender) (d : Word), s.chip.fenced 42 = false → ∀ p, p = bits d.toNat 13 0 →
      (NvMay s q p → s.chip.f Nvc.BUSY = 0 → s.chip.nvc.queue.length < 4 → bits d.toNat 31 28 = 1 → Ends (.cmdWrite q d) s fun t => t.chip.f Nvc.BUSY = 1
        ∧ t.chip.resp = some (stOk, []) ∧ t.chip.nvc.queue.length = s.chip.nvc.queue.length + 1 ∧ t.chip.nvc.queue.dropLast = s.chip.nvc.queue ∧ ∀ w, t.chip.nvc.queue.getLast? = some w → w.page = p
          ∧ ∀ i : Fin 64, w.data / 2 ^ (32 * i.val) % 2 ^ 32 = s.chip.f (Nvc.PBUF_word_i i))
      ∧ (NvMay s q p → s.chip.f Nvc.BUSY = 1 → Ends (.cmdWrite q d) s fun t => Refuses s t stBusy)
      ∧ (NvMay s q p → s.chip.f Nvc.BUSY = 0 → bits d.toNat 31 28 ≠ 1 → Ends (.cmdWrite q d) s fun t => t.chip.resp = some (stOk, []) ∧ t.chip.nvc = s.chip.nvc)
      ∧ ((0x2100 ≤ p ∧ p < 0x2240) ∨ 0x3F00 ≤ p ∨ s.chip.activePage p = true → s.chip.f Nvc.BUSY = 0 → Ends (.cmdWrite q d) s fun t =>
        t.chip.resp = some (stDenied, []) ∧ t.chip.f Nvc.DONE = 1 ∧ t.chip.f Nvc.RESULT = 3 ∧ t.chip.nvc = s.chip.nvc))
    ∧ (s.chip.pw.resetDue = 0 → s.chip.nvc.cur = none → ∀ w ws, s.chip.nvc.queue = w :: ws → Ends .nvPageWriteStart s fun t =>
        t.chip.nvc.queue = ws ∧ t.chip.nvc.cur = some { w := w } ∧ t.chip.nvc.cells = s.chip.nvc.cells ∧ SameRegsBut (fun _ => False) s t)
    ∧ (∀ x, s.chip.nvc.cur = some x → ∀ p, p = s.chip.nvTarget x →
      (x.erasing = true →
        (Ends (.nvErasePulseDone true) s fun t => t.chip.nvc.cur = some { x with epulses := x.epulses + 1, erasing := false }
          ∧ (∀ (w : Fin 32) (i : Fin 8), cellWord t (32 * p + w) i = 0xFF) ∧ (∀ w : Fin 32, mget 0 t.chip.nvc.cond (32 * p + w) = 0)
          ∧ SameRegsBut (fun _ => False) s t)
        ∧ (x.epulses < 2 → Ends (.nvErasePulseDone false) s fun t => t.chip.nvc = { s.chip.nvc with cur := some { x with epulses := x.epulses + 1 } }))
      ∧ (x.erasing = false →
        (x.word < 31 → Ends (.nvProgramPulseDone true) s fun t => t.chip.nvc.cur = some { x with word := x.word + 1, n := 0, pulses := x.pulses + 1 }
          ∧ (∀ i : Fin 8, cellWord t (32 * p + x.word) i = BitVec.ofNat 8 (s.chip.nvData x / 2 ^ (64 * x.word + 8 * i)))
          ∧ (∀ a : Nat, a / 8 ≠ 32 * p + x.word → mget 0xFF t.chip.nvc.cells a = mget 0xFF s.chip.nvc.cells a))
        ∧ (x.word = 31 → x.stage = 0 → x.w.origin = .regs → Ends (.nvProgramPulseDone true) s fun t => t.chip.nvc.cur = none ∧ t.chip.f Nvc.RESULT = 0
          ∧ t.chip.f Nvc.PULSES = (x.pulses + 1) % 512 ∧ t.chip.f Nvc.EPULSES = x.epulses % 4 ∧ t.chip.f Nvc.LAST_PAGE = x.w.page % 2 ^ 14
          ∧ t.chip.f Nvc.BUSY = 0 ∧ t.chip.f Nvc.DONE = 1)
        ∧ (x.n < 7 → Ends (.nvProgramPulseDone false) s fun t => t.chip.nvc = { s.chip.nvc with cur := some { x with n := x.n + 1, pulses := x.pulses + 1 } })
        ∧ (x.n = 7 → x.stage = 0 → ∀ sp, freeSpare s.chip.nvc.remap = some sp → spareOf s.chip.nvc.remap x.w.page = none →
          Ends (.nvProgramPulseDone false) s fun t => (t.chip.nvc.cur).map (fun y => (y.stage, y.spare, y.w, y.erasing, y.epulses)) = some (1, sp, x.w, true, 0))))
    ∧ (∀ (a : BitVec 22) (q : Sender) (len : Fin 16), s.chip.fenced 42 = false → a.toNat % 4 = 0 → a.toNat % 64 + 4 * len.val < 64 → q.priv = true →
      (s.chip.nvc.cur = none → (∀ i : Fin 16, i.val ≤ len.val → s.chip.cellCond (a.toNat + 4 * i) = 0) → Ends (.nvWindowRead a q len) s fun t =>
        t.chip.resp = some (stOk, (List.range (len + 1)).map (fun i => BitVec.ofNat 32 (s.chip.cellsAt (a.toNat + 4 * i) 4)))
        ∧ SameMemory s t ∧ SameRegsBut (fun _ => False) s t)
      ∧ (s.chip.nvc.cur = none → s.chip.cellCond a.toNat = 2 → Ends (.nvWindowRead a q len) s fun t => t.chip.resp = some (stData, [])
        ∧ min (2 ^ 32 - 1) (s.chip.f Nvc.UNCORR_CNT + 1) ≤ t.chip.f Nvc.UNCORR_CNT ∧ SameMemory s t)
      ∧ (s.chip.bankBusy (a.toNat / 256) = true → Ends (.nvWindowRead a q len) s fun t => Refuses s t stBusy))
    ∧ (∀ (q : Sender) (d : Word), MayPriv s 31 q → ∀ k, k = bits d.toNat 1 0 →
      (s.chip.f Img.OPEN = 1 → s.chip.b Power.SEALED = false → k ≠ 3 → s.chip.keyState k = 0 → Ends (.keycmd q d) s fun t => t.chip.keyState k = 1
        ∧ t.chip.resp = some (stOk, []) ∧ ∀ i : Fin 12, t.chip.keyHash k / 2 ^ (32 * i.val) % 2 ^ 32 = s.chip.f (Img.KEYHASHi i))
      ∧ (s.chip.f Img.OPEN = 0 ∨ s.chip.b Power.SEALED = true ∨ k = 3 ∨ s.chip.keyState k ≠ 0 → Ends (.keycmd q d) s fun t => Refuses s t stDenied))

/-! ### The Glaze personality -/

namespace Sys2Proof.Slice0

open Sys2Proof.Machine Sys2Proof.Machine.Reg

/-- The code of a macrocell's INIT (R841): 0 EMPTY, 1 TOKEN0, 2 TOKEN1. -/
def initOf (s : State) (col row m : Nat) : Option Bool :=
  match s.chip.area col row (6720 + 64 * m + 57) 2 with | 1 => some false | 2 => some true | _ => none

/-- R158: every storage element at a position that satisfies `p` holds its INIT. -/
def AtInit (s t : State) (p : Nat → Bool) : Prop := ∀ (col : Fin 16) (row : Fin 12) (m : Fin 16), p (posOf col) = true →
  mget none t.chip.gl.mc (mcNo col row m) = initOf s col row m

/-- The place of a step code in ORDER (R853). -/
def placeOf (ord code : Nat) : Nat := (List.range 4).findIdx (fun i => ord / 4 ^ i % 4 == code)

/-- ORDER is a permutation of the four step codes (R853). -/
def isOrder (ord : Nat) : Bool := (List.range 4).all (fun code => decide (placeOf ord code < 4))

/-- R855: the flags of an order. -/
def orderFlags (ord : Nat) : Nat :=
  (if placeOf ord 1 < placeOf ord 0 then 1 else 0) + (if placeOf ord 1 < placeOf ord 2 then 2 else 0) + (if placeOf ord 2 < placeOf ord 3 then 4 else 0)

/-- The array is STOPPED: outputs at rest, no port B write stores, storage elements held (R843). -/
def Held (t : State) : Prop :=
  t.chip.f Gcfg.STATE = 1 ∧ t.chip.gl.rel = false ∧ t.chip.gl.wr = false ∧ t.chip.gl.sr = false ∧ t.chip.gl.checking = false

/-- The command had no effect but CMD_ERR (R844). -/
def CmdErr (s t : State) : Prop :=
  t.chip.f Gcfg.CMD_ERR = 1 ∧ t.chip.gl = s.chip.gl ∧ SameRegsBut (fun a => a = Gcfg.CMD_ERR.addr) s t ∧ SameMemory s t

/-- The start-up step that has taken its effect last (R853, R854). -/
def stepNow (s : State) : Nat := s.chip.f Gcfg.STARTUP_ORDER / 4 ^ (s.chip.gl.step - 1) % 4

/-- R853: the effect of start-up step `code` on the array. -/
def Effect (s t : State) (code : Nat) : Prop :=
  t.chip.gl.rel = (s.chip.gl.rel || code == 1) ∧ t.chip.gl.sr = (s.chip.gl.sr || code == 2) ∧ t.chip.gl.wr = (s.chip.gl.wr || code == 3)

/-- R846, R845: the next frame's address. -/
def farAfter (far : Nat) : Nat := (far / 16 + 1) % 4096 * 16

end Sys2Proof.Slice0

/-- R844–R847, R853–R855, R857, R866, R867, R869: the configuration commands, frame writes, readback and preload words. That the refusal of a
frame is judged at its 48th word is the model's reading (notes/assumptions). -/
def Obligations.ConfigurationCommandsActOnTheArray : Prop :=
  ∀ (s : State) (q : Sender), Between s → MayPriv s 10 q → ∀ g, g = s.chip.f Gcfg.STATE →
    Ends (.null q) s (fun t => t.chip.gl = s.chip.gl ∧ SameRegsBut (fun _ => False) s t ∧ t.chip.resp = some (stOk, []))
    ∧ (g ≤ 1 ∨ (g = 3 ∧ ∃ r : Fin 8, s.chip.f (Gcfg.REGIONr_EN r) = 1 ∧ s.chip.f (Gcfg.REGIONr_STATE r) = 1) →
        Ends (.wcfg q) s fun t => t.chip.gl = { s.chip.gl with wcfg := some [] } ∧ SameRegsBut (fun _ => False) s t)
    ∧ (g ≠ 0 → g ≠ 1 → g ≠ 3 → Ends (.wcfg q) s (CmdErr s))
    ∧ Ends (.rcfg q) s (fun t => t.chip.gl = { s.chip.gl with rcfg := some 0 } ∧ SameRegsBut (fun _ => False) s t)
    ∧ (g ≠ 1 ∨ isOrder (s.chip.f Gcfg.STARTUP_ORDER) = false → Ends (.start q) s (CmdErr s))
    ∧ (g = 1 → isOrder (s.chip.f Gcfg.STARTUP_ORDER) = true → ∀ fl, fl = orderFlags (s.chip.f Gcfg.STARTUP_ORDER) → Ends (.start q) s fun t =>
        t.chip.f Gcfg.STATE = 2 ∧ t.chip.f Gcfg.ORDER_FLAGS = fl ∧ t.chip.gl.checking = true ∧ t.chip.gl.frames = s.chip.gl.frames
        ∧ t.chip.gl.mc = s.chip.gl.mc ∧ (fl ≠ 0 → Posts s t 10 9 3 [(8, fl)])
        ∧ SameRegsBut (fun a => a = Gcfg.STATE.addr ∨ a = Gcfg.ORDER_FLAGS.addr ∨ NiErr 10 a) s t ∧ SameMemory s t)
    ∧ (g = 2 ∨ g = 3 → Ends (.shutdown q) s fun t => Held t ∧ Posts s t 10 9 6 [(8, 0)] ∧ AtInit s t (fun _ => true)
        ∧ (∀ r : Fin 8, t.chip.f (Gcfg.REGIONr_STATE r) = 0) ∧ t.chip.gl.frames = s.chip.gl.frames ∧ SameMemory s t)
    ∧ (g ≠ 2 → g ≠ 3 → Ends (.shutdown q) s (CmdErr s))
    ∧ (g = 1 → Ends (.grestore q) s fun t => AtInit s t (fun _ => true) ∧ t.chip.gl.frames = s.chip.gl.frames ∧ SameMemory s t
        ∧ SameRegsBut (fun _ => False) s t)
    ∧ (g ≠ 1 → Ends (.grestore q) s (CmdErr s))
    ∧ (∀ r : Fin 8, ∀ st, st = s.chip.f (Gcfg.REGIONr_STATE r) → ∀ en, en = s.chip.f (Gcfg.REGIONr_EN r) →
        (g ≠ 3 ∨ en = 0 ∨ st ≠ 0 → Ends (.overpaintBegin q r) s (CmdErr s))
        ∧ (g ≠ 3 ∨ en = 0 ∨ st ≠ 1 → Ends (.overpaintEnd q r) s (CmdErr s))
        ∧ (g = 3 → en = 1 → st = 1 → Ends (.overpaintEnd q r) s fun t => t.chip.f (Gcfg.REGIONr_STATE r) = 2
            ∧ t.chip.gl = { s.chip.gl with regCheck := t.chip.gl.regCheck } ∧ SameRegsBut (fun a => a = (Gcfg.REGIONr_STATE r).addr) s t)
        ∧ (g = 3 → en = 1 → st = 0 → Ends (.overpaintBegin q r) s fun t => t.chip.f (Gcfg.REGIONr_STATE r) = 1 ∧ t.chip.f (Gcfg.REGIONr_ERR r) = 0
            ∧ (∀ (col : Fin 16) (row : Fin 12) (m : Fin 16), mget none t.chip.gl.mc (mcNo col row m)
                = if s.chip.inRegion r (posOf col) = true then none else mget none s.chip.gl.mc (mcNo col row m))
            ∧ (s.chip.inRegion r 18 = false → ∀ p : Fin 18, s.chip.inRegion r p = true → t.chip.posRest p = true)
            ∧ (∀ fr : Fin 2304, mget false t.chip.gl.written fr = (mget false s.chip.gl.written fr && !s.chip.inRegion r (posOf (fr / 128))))
            ∧ (∀ (n : Fin 4) (k : Fin 8), (outChanRest t.chip n k = true → t.chip.f (Gport.OUT_MODE (gNode n) k) ≠ 1 → t.chip.chValid n k = false
                  ∧ mget false t.chip.gl.snap (8 * n + k) = false)
                ∧ (inChanRest t.chip n k = true → (t.chip.inChan n k).fifo = [] ∧ (t.chip.inChan n k).last = (s.chip.inChan n k).last))
            ∧ (s.chip.pl.holds = [] → Posts s t 10 9 9 [(8, r)]) ∧ t.chip.gl.frames = s.chip.gl.frames ∧ SameMemory s t))
    ∧ (∀ d : Word,
        (s.chip.gl.wcfg = none → Ends (.fdata q d) s fun t => t.chip.gl = s.chip.gl ∧ SameRegsBut (fun _ => False) s t)
        ∧ (∀ ws, s.chip.gl.wcfg = some ws → ws.length < 47 → Ends (.fdata q d) s fun t =>
            t.chip.gl = { s.chip.gl with wcfg := some (ws ++ [d]) } ∧ SameRegsBut (fun _ => False) s t)
        ∧ (∀ ws, s.chip.gl.wcfg = some ws → ws.length = 47 → ∀ far, far = s.chip.f Gcfg.FAR → ∀ col, col = far / 2048 % 32 →
          (∀ fr, fr = far / 16 % 4096 → (g ≠ 3 ∨ (col < 18 ∧ ∃ r : Fin 8, s.chip.f (Gcfg.REGIONr_EN r) = 1 ∧ s.chip.f (Gcfg.REGIONr_STATE r) = 1
              ∧ s.chip.inRegion r (posOf col) = true)) → col ≤ 18 → Ends (.fdata q d) s fun t =>
            (∀ k, mget 0 t.chip.gl.frames k = if 48 * fr ≤ k ∧ k < 48 * fr + 48 then ((ws ++ [d])[k - 48 * fr]?).getD 0 else mget 0 s.chip.gl.frames k)
            ∧ t.chip.f Gcfg.FAR = farAfter far ∧ mget false t.chip.gl.nvMark fr = false ∧ t.chip.gl.wcfg = some []
            ∧ mget 0 t.chip.gl.sig fr = crc32 (wordBytes (ws ++ [d])) + 1 ∧ t.chip.f Gcfg.STATE = (if g = 0 then 1 else g) ∧ SameMemory s t)
          ∧ (g = 3 → (∀ r : Fin 8, s.chip.f (Gcfg.REGIONr_EN r) = 0 ∨ s.chip.f (Gcfg.REGIONr_STATE r) ≠ 1 ∨ s.chip.inRegion r (posOf col) = false) → Ends (.fdata q d) s fun t =>
            t.chip.resp = some (stDenied, []) ∧ t.chip.f Gcfg.WR_REFUSED = 1 ∧ t.chip.gl = { s.chip.gl with wcfg := none }
            ∧ SameRegsBut (fun a => a = Gcfg.WR_REFUSED.addr) s t)))
    ∧ (∀ i, s.chip.gl.rcfg = some i → i < 48 → ∀ far, far = s.chip.f Gcfg.FAR → far / 2048 ≤ 18 → Ends (.fdout q) s fun t =>
        t.chip.resp = some (stOk, [if g = 0 then 0 else mget 0 s.chip.gl.frames (48 * (far / 16) + i)])
        ∧ t.chip.gl = { s.chip.gl with rcfg := some (if i = 47 then 0 else i + 1) }
        ∧ t.chip.f Gcfg.FAR = if i = 47 then farAfter far else far)
    ∧ (∀ d : Word, ∀ m, m = s.chip.f Gcfg.PL_ADDR_MEM → ∀ w, w = s.chip.f Gcfg.PL_ADDR_WORD → m < 24 →
        (g ≤ 1 ∨ (∃ r : Fin 8, s.chip.f (Gcfg.REGIONr_EN r) = 1 ∧ s.chip.f (Gcfg.REGIONr_STATE r) = 1 ∧ s.chip.inRegion r (if m < 12 then 8 else 17) = true) →
          Ends (.plData q d) s fun t => (∀ k, mget 0 t.chip.gl.gmem k = if k = 4096 * m + w then bits d.toNat 8 0 else mget 0 s.chip.gl.gmem k)
            ∧ t.chip.f Gcfg.PL_ADDR_WORD = (w + 1) % 4096 ∧ t.chip.resp = some (stOk, []) ∧ SameRegsBut (fun a => a = Gcfg.PL_ADDR_WORD.addr) s t)
        ∧ (2 ≤ g → (∀ r : Fin 8, s.chip.f (Gcfg.REGIONr_EN r) = 0 ∨ s.chip.f (Gcfg.REGIONr_STATE r) ≠ 1
            ∨ s.chip.inRegion r (if m < 12 then 8 else 17) = false) → Ends (.plData q d) s fun t =>
            Refuses s t stDenied))

/-- R849, R853, R854, R856: the fabric check's end, the start-up steps and the abort of WAIT_LOCK. R860–R864: a scrubber visit. R869–R871: a
region's check and its start-up. -/
def Obligations.StartUpScrubberAndRegions : Prop :=
  ∀ s : State, Between s → s.chip.pw.mode ≠ .wake →
    (s.chip.f Gcfg.STATE = 2 →
      (s.chip.gl.checking = true → s.chip.gl.step = 0 →
        (s.chip.fabric (fun _ => true) = none → (s.chip.f Gcfg.CTL_CRC_CHK = 0 ∨ s.chip.arrayCrc = s.chip.f Gcfg.CRC_EXP) → Ends .fabricCheckDone s fun t =>
          AtInit s t (fun _ => true) ∧ t.chip.gl.checking = false ∧ t.chip.gl.step = 1 ∧ Effect s t (s.chip.f Gcfg.STARTUP_ORDER % 4)
          ∧ t.chip.f Gcfg.STATE = 2 ∧ t.chip.gl.gmem = s.chip.gl.preload
          ∧ (∀ (n : Fin 4) (k : Fin 8), s.chip.f (Gport.OUT_MODE (gNode n) k) = 1 → t.chip.chValid n k = false)
          ∧ SameRegsBut (fun a => ∃ (n : Fin 4) (k : Fin 8), a = (Gport.OUT_PEEK_VALID (gNode n) k).addr) s t
          ∧ t.chip.mem = s.chip.mem ∧ t.chip.xmem = s.chip.xmem ∧ t.chip.nvc.cells = s.chip.nvc.cells)
        ∧ (∀ e, s.chip.fabric (fun _ => true) = some e → Ends .fabricCheckDone s fun t => t.chip.f Gcfg.STATE = 1
          ∧ t.chip.f Gcfg.REFUSE_CODE = e.1 ∧ t.chip.f Gcfg.REFUSE_COLUMN = e.2.1 ∧ (e.2.2.1 ≠ openLoc → t.chip.f Gcfg.REFUSE_ROW = e.2.2.1)
          ∧ (e.2.2.2 ≠ openLoc → t.chip.f Gcfg.REFUSE_MC = e.2.2.2) ∧ t.chip.gl.mc = s.chip.gl.mc ∧ t.chip.gl.rel = s.chip.gl.rel
          ∧ Posts s t 10 9 2 [(8, e.1), (8, e.2.1), (8, t.chip.f Gcfg.REFUSE_ROW), (8, t.chip.f Gcfg.REFUSE_MC)])
        ∧ (s.chip.fabric (fun _ => true) = none → s.chip.f Gcfg.CTL_CRC_CHK = 1 → s.chip.arrayCrc ≠ s.chip.f Gcfg.CRC_EXP → Ends .fabricCheckDone s fun t =>
          t.chip.f Gcfg.STATE = 1 ∧ t.chip.f Gcfg.REFUSE_CODE = 8))
      ∧ (s.chip.gl.checking = false → 1 ≤ s.chip.gl.step →
        (stepNow s = 0 → s.chip.locked = false →
          (Ends (.startupStep none) s fun t => t.chip = s.chip)
          ∧ (Ends .glazeLockTmo s fun t => Held t ∧ t.chip.f Gcfg.LOCK_TMO = 1 ∧ Posts s t 10 9 4 [(8, s.chip.f Garr.VDDG_SET)]))
        ∧ (stepNow s ≠ 0 ∨ s.chip.locked = true →
          Ends .glazeLockTmo s (fun t => t.chip = s.chip)
          ∧ (∀ code, code = s.chip.f Gcfg.STARTUP_ORDER / 4 ^ s.chip.gl.step % 4 → s.chip.gl.step < 4 → Ends (.startupStep none) s fun t =>
              Effect s t code ∧ t.chip.gl.step = s.chip.gl.step + 1
              ∧ (s.chip.gl.step < 3 ∨ code = 0 → t.chip.f Gcfg.STATE = 2)
              ∧ (s.chip.gl.step = 3 → code ≠ 0 → t.chip.f Gcfg.STATE = 3 ∧ t.chip.gl.scrub = 0
                  ∧ Posts s t 10 9 5 [(8, if s.chip.gl.byWcfg = true then 2 else s.chip.f Gcfg.SLOT)]))
          ∧ (s.chip.gl.step = 4 → Ends (.startupStep none) s fun t => t.chip.f Gcfg.STATE = 3 ∧ t.chip.gl.scrub = 0
              ∧ Posts s t 10 9 5 [(8, if s.chip.gl.byWcfg = true then 2 else s.chip.f Gcfg.SLOT)]))))
    ∧ (∀ r : Fin 8,
      (∀ k, k = mget 0 s.chip.gl.regStep r - 1 → mget 0 s.chip.gl.regStep r ≠ 0 → k < 4 → ∀ code, code = s.chip.f Gcfg.STARTUP_ORDER / 4 ^ k % 4 → Ends (.startupStep (some r)) s fun t =>
        mget false t.chip.gl.regRel r = (mget false s.chip.gl.regRel r || code == 1)
        ∧ mget false t.chip.gl.regSr r = (mget false s.chip.gl.regSr r || code == 2)
        ∧ (k < 3 → mget 0 t.chip.gl.regStep r = k + 2 ∧ SameRegsBut (fun _ => False) s t)
        ∧ (k = 3 → mget 0 t.chip.gl.regStep r = 0 ∧ t.chip.f (Gcfg.REGIONr_STATE r) = 0 ∧ Posts s t 10 9 10 [(8, r)]))
      ∧ (s.chip.f (Gcfg.REGIONr_STATE r) = 2 → mget false s.chip.gl.regCheck r = true → ∀ frs, frs = s.chip.regionFrames r →
        (∀ e, e = (if frs.any (fun fr => !mget false s.chip.gl.written fr) = true then 1
            else if crc32 (wordBytes (mget [] s.chip.gl.regWords r)) ≠ s.chip.f (Gcfg.REGIONr_CRC_EXP r) then 2
            else match s.chip.fabric (fun col => decide (col < 18) && s.chip.inRegion r (posOf col)) with | some x => 8 + x.1 | none => 0) →
          (e ≠ 0 → Ends (.regionCheckDone r) s fun t => t.chip.f (Gcfg.REGIONr_STATE r) = 1 ∧ t.chip.f (Gcfg.REGIONr_ERR r) = e
            ∧ Posts s t 10 9 11 [(8, r), (8, e)] ∧ t.chip.gl.written = s.chip.gl.written ∧ t.chip.gl.mc = s.chip.gl.mc)
          ∧ (e = 0 → Ends (.regionCheckDone r) s fun t => AtInit s t (s.chip.inRegion r) ∧ mget 0 t.chip.gl.regStep r = 2
            ∧ t.chip.f (Gcfg.REGIONr_STATE r) = 2 ∧ SameRegsBut (fun _ => False) s t))))
    ∧ (∀ fr, fr = s.chip.gl.scrub → fr < 2432 → ∀ (w : Fin 96) (v : BitVec 16), s.chip.f Gcfg.STATE = 3 → s.chip.f Power.STATE = 0 →
      (∀ r : Fin 8, s.chip.f (Gcfg.REGIONr_EN r) = 0 ∨ s.chip.f (Gcfg.REGIONr_STATE r) ≠ 1) → s.chip.gl.repairs = 0 →
      s.chip.frameCrc fr = s.chip.signature fr → v ≠ 0 → s.chip.f Gcfg.SCRUB_CRIT_ACT = 0 →
      (Ends (.scrubVisit []) s fun t => t.chip.gl.scrub = (fr + 1) % 2432 ∧ t.chip.gl.frames = s.chip.gl.frames ∧ t.chip.f Gcfg.CRIT = s.chip.f Gcfg.CRIT
        ∧ t.chip.f Gcfg.SCRUB_PASSES = min (2 ^ 32 - 1) (s.chip.f Gcfg.SCRUB_PASSES + if fr = 2431 then 1 else 0)
        ∧ SameRegsBut (fun a => a = Gcfg.SCRUB_PASSES.addr) s t ∧ SameMemory s t)
      ∧ (mget false s.chip.gl.nvMark fr = true → s.chip.cellBad (slotBase (s.chip.b Nvc.ACTIVE_SLOT) + 0x100 + 192 * fr) 192 = false →
        (∀ i : Fin 48, mget 0 s.chip.gl.frames (48 * fr + i)
          = BitVec.ofNat 32 (s.chip.cellsAt (slotBase (s.chip.b Nvc.ACTIVE_SLOT) + 0x100 + 192 * fr + 4 * i) 4)) →
        (s.chip.marked fr w = false → Ends (.scrubVisit [(w, v)]) s fun t => (∀ k, mget 0 t.chip.gl.frames k = mget 0 s.chip.gl.frames k)
          ∧ t.chip.f Gcfg.REPAIR_CNT = min (2 ^ 32 - 1) (s.chip.f Gcfg.REPAIR_CNT + 1) ∧ t.chip.f Gcfg.CRIT = s.chip.f Gcfg.CRIT
          ∧ t.chip.f Gcfg.CRIT_CNT = s.chip.f Gcfg.CRIT_CNT)
        ∧ (s.chip.marked fr w = true → Ends (.scrubVisit [(w, v)]) s fun t => (∀ k, mget 0 t.chip.gl.frames k = mget 0 s.chip.gl.frames k)
          ∧ t.chip.f Gcfg.CRIT = 1 ∧ t.chip.f Gcfg.LAST_UPSET_FRAME = 16 * fr ∧ t.chip.f Gcfg.LAST_UPSET_WORD = w
          ∧ t.chip.f Gcfg.CRIT_CNT = min (2 ^ 32 - 1) (s.chip.f Gcfg.CRIT_CNT + 1) ∧ t.chip.f Gcfg.REPAIR_CNT = s.chip.f Gcfg.REPAIR_CNT
          ∧ t.chip.f Gcfg.STATE = 3 ∧ Posts s t 10 9 7 [(8, fr / 128), (16, 16 * fr), (8, w), (8, 1), (8, 0)]))
      ∧ (mget false s.chip.gl.nvMark fr = false → Ends (.scrubVisit [(w, v)]) s fun t => t.chip.f Gcfg.CRIT = 1 ∧ t.chip.f Gcfg.LAST_UPSET_WORD = 127
        ∧ (∀ k, mget 0 t.chip.gl.frames k = if k = 48 * fr + w / 2 then
            mget 0 s.chip.gl.frames k ^^^ BitVec.ofNat 32 (v.toNat * 65536 ^ (w.val % 2)) else mget 0 s.chip.gl.frames k)
        ∧ t.chip.frameCrc fr = t.chip.signature fr ∧ Posts s t 10 9 7 [(8, fr / 128), (16, 16 * fr), (8, 127), (8, 1), (8, 0)]))

/-! ### Waking, resets and power states; the TAPs -/

namespace Sys2Proof.Slice0

open Sys2Proof.Machine Sys2Proof.Machine.Reg

/-- The wake record (R894). -/
def WakeRec (t : State) (reason fail step attempts : Nat) : Prop :=
  t.chip.f Power.WAKE_REASON = reason ∧ t.chip.f Power.WAKE_FAIL = fail ∧ t.chip.f Power.WAKE_FAIL_STEP = step
    ∧ t.chip.f Power.WAKE_ATTEMPTS = attempts

/-- The part wakes, at step `k`, before any attempt at it has failed. -/
def WakesAt (t : State) (k : Nat) : Prop := t.chip.pw.mode = .wake ∧ t.chip.pw.step = k ∧ t.chip.pw.attempts = 0 ∧ t.chip.pw.failed = false

/-- R885, R911: step `k` is over and the next begins; a step that needed more than one attempt is reported at S10. -/
def StepOver (s t : State) (k : Nat) : Prop :=
  WakesAt t (k + 1) ∧ t.chip.pw.posts = s.chip.pw.posts ++ (if s.chip.pw.attempts = 0 then [] else [(2, [(8, k), (8, s.chip.pw.attempts + 1)])])

/-- R25, R896, R907: what a reset of kind I or W leaves: SEAL, the straps as S0 sampled them, routes, slot entries, the cells, the channels'
retained fields and the configuration of the array. -/
def ResetKeeps (s t : State) : Prop :=
  t.chip.f Power.SEALED = s.chip.f Power.SEALED ∧ t.chip.f Dip.PREF = s.chip.pw.pref % 4
    ∧ (∀ q : Fin 2, t.chip.f (PortQ.PMADDR q) = s.chip.pw.pmaddr % 8) ∧ t.chip.pw.pref = s.chip.pw.pref ∧ t.chip.pw.pmaddr = s.chip.pw.pmaddr
    ∧ (∀ (n : Fin 49) (i : Fin 128), t.chip.reg (niBase n + 0x100 + 4 * i) = s.chip.reg (niBase n + 0x100 + 4 * i))
    ∧ (∀ (n : Fin 16), t.chip.f (Lsw.MODE n) = s.chip.f (Lsw.MODE n) ∧ t.chip.f (Lsw.LATCHED n) = s.chip.f (Lsw.LATCHED n)
        ∧ t.chip.f (Lsw.RANK n) = s.chip.f (Lsw.RANK n))
    ∧ t.chip.nvc.cells = s.chip.nvc.cells ∧ t.chip.f Gcfg.STATE = s.chip.f Gcfg.STATE
    ∧ t.chip.gl.frames = s.chip.gl.frames ∧ t.chip.gl.mc = s.chip.gl.mc ∧ t.chip.gl.gmem = s.chip.gl.gmem

/-- R896: nothing is driven, and OWN_OUT and READY are deasserted; the free-beat count starts again (R909). -/
def Quiet (t : State) : Prop :=
  t.chip.ready = false ∧ t.chip.f Dip.OWN_OUT = 0 ∧ t.chip.driving = false ∧ t.chip.beat = 0 ∧ ∀ p : Fin 8, t.chip.pwmCore p = .z

/-- R38: every field that has a sealed ceiling is under it. -/
def UnderCeilings (t : State) : Prop :=
  (∀ r : Fin 16, t.chip.f (Rail.VSET r) ≤ t.chip.f (Rail.VOUT_MAX r) ∧ t.chip.f (Rail.RATE_UP r) ≤ t.chip.f (Rail.SLEW_MAX r)
      ∧ t.chip.f (Rail.RATE_DN r) ≤ t.chip.f (Rail.SLEW_MAX r) ∧ t.chip.f (Rail.ICEIL r) ≤ t.chip.f (Rail.IOUT_MAX r)
      ∧ t.chip.f (Rail.GCEIL r) ≤ t.chip.f (Rail.IOUT_MAX r))
    ∧ (∀ p : Fin 96, t.chip.f (Sense.IPH_TRIP p) ≤ t.chip.f (Sense.IPH_MAX p)) ∧ t.chip.f Board.BUDGET ≤ t.chip.f Board.BUDGET_MAX

/-- A step whose block does not report ready: which one, at which step, with which FAIL code (R885, R894). -/
def failOf : StartBlock → Option (Nat × Nat)
  | .ref => some (1, 1) | .vddl => some (2, 2) | .vddg => some (2, 3) | .pllBeat => some (4, 5) | .pllPwm => some (4, 6)
  | .osc | .pllSerdes => none

/-- R900: POWER.CMD is refused for its KEY. -/
def KeyErr (s t : State) : Prop :=
  t.chip.f Power.ENTRY_ERR = 5 ∧ t.chip.resp = some (stDenied, []) ∧ t.chip.pw = s.chip.pw ∧ Posts s t 31 11 8 [(8, 5)]
    ∧ SameRegsBut (fun a => a = Power.ENTRY_ERR.addr ∨ NiErr 31 a) s t

/-- The responder acknowledged and returned these bytes (R892). -/
def Responds (t : State) (ack : Bool) (bs : List Byte) : Prop := (t.chip.ten 1).ack = ack ∧ (t.chip.ten 1).out = bs

end Sys2Proof.Slice0

/-- R884, R885, R894: a power-on reset's end and the start-up steps; R852, R858: steps S5 and S6 without a valid slot; R893: an image refused; R38,
R887, R911: S10. R889–R891: steps that do not finish. -/
def Obligations.WakesRunTheirSteps : Prop :=
  ∀ s : State, Between s →
    (s.chip.pw.mode = .reset → Ends .powerOnResetEnd s fun t => WakesAt t 0 ∧ WakeRec t 1 0 0 0)
    ∧ (s.chip.pw.mode ≠ .reset → Ends .powerOnResetEnd s fun t => t.chip = s.chip)
    ∧ (∀ b : StartBlock, ∀ k x, failOf b = some (k, x) → s.chip.atStep k = true → (k = 2 → s.chip.pw.vddh = true) →
        (s.chip.pw.attempts < 3 → Ends (.stepTimeout b) s fun t => t.chip = { s.chip with pw := { s.chip.pw with attempts := s.chip.pw.attempts + 1, failed := true } })
        ∧ (3 ≤ s.chip.pw.attempts → Ends (.stepTimeout b) s fun t => t.chip.pw.mode = .dormant ∧ Quiet t
            ∧ WakeRec t (s.chip.f Power.WAKE_REASON) x k 4 ∧ ∀ n : Fin 16, t.chip.f (Lsw.CONDUCT n) = 0))
    ∧ (s.chip.atStep 3 = true → (s.chip.pw.oscOk = true → Ends (.stepTimeout .osc) s fun t => t.chip.f Power.CLK_FALLBACK = 1 ∧ t.chip.pw.step = 4
          ∧ t.chip.pw.linkHold = true ∧ t.chip.pw.posts = s.chip.pw.posts ++ [(4, [])] ∧ SameRegsBut (fun a => a = Power.CLK_FALLBACK.addr) s t)
        ∧ (s.chip.pw.oscOk = false → Ends (.stepTimeout .osc) s fun t => t.chip.pw.mode = .dormant ∧ WakeRec t (s.chip.f Power.WAKE_REASON) 4 3 1))
    ∧ (s.chip.atStep 4 = true → 3 ≤ s.chip.pw.attempts → Ends (.stepTimeout .pllSerdes) s fun t => WakesAt t 5 ∧ t.chip.pw.linkHold = true
        ∧ t.chip.pw.posts = s.chip.pw.posts ++ [(2, [(8, 4), (8, 4)])] ∧ SameRegsBut (fun _ => False) s t)
    ∧ (s.chip.pw.mode = .wake → s.chip.pw.failed = true → Ends .stepRetry s fun t => t.chip = { s.chip with pw := { s.chip.pw with failed := false } })
    ∧ (∀ (a : BitVec 3) (p : BitVec 2) (o : Bool), s.chip.atStep 0 = true → Ends (.stepS0 a p o) s fun t => StepOver s t 0
        ∧ (∀ q : Fin 2, t.chip.f (PortQ.PMADDR q) = a.toNat) ∧ t.chip.f Dip.PREF = p.toNat ∧ t.chip.pw.oscOk = o
        ∧ t.chip.pw.pmaddr = a.toNat ∧ t.chip.pw.pref = p.toNat)
    ∧ (s.chip.atStep 1 = true → Ends .stepS1 s fun t => StepOver s t 1 ∧ SameRegsBut (fun _ => False) s t)
    ∧ (s.chip.atStep 2 = true → (s.chip.pw.vddh = true → Ends .stepS2 s fun t => StepOver s t 2 ∧ SameRegsBut (fun _ => False) s t)
        ∧ (s.chip.pw.vddh = false → Ends .stepS2 s fun t => t.chip = s.chip))
    ∧ (s.chip.atStep 3 = true → Ends .stepS3 s fun t => StepOver s t 3 ∧ SameRegsBut (fun _ => False) s t)
    ∧ (s.chip.atStep 4 = true → Ends .stepS4 s fun t => StepOver s t 4 ∧ SameRegsBut (fun _ => False) s t)
    ∧ (s.chip.atStep 5 = true → s.chip.fenced 31 = false → s.chip.nvc.cells = [] →
        (s.chip.arrayKept = true → Ends .stepS5 s fun t => StepOver s t 5 ∧ t.chip.f Gcfg.STATE = 3 ∧ t.chip.gl = s.chip.gl)
        ∧ (s.chip.arrayKept = false → Ends .stepS5 s fun t => StepOver s t 5 ∧ t.chip.f Gcfg.STATE = 0 ∧ t.chip.f Gcfg.BOOT_FAIL = 1
            ∧ t.chip.f Gcfg.STARTUP_ORDER = 0x6C ∧ Posts s t 31 9 1 []))
    ∧ (s.chip.atStep 6 = true →
        (s.chip.pw.keepGlaze = true → Ends .stepS6 s fun t => StepOver s t 6 ∧ t.chip.gl = s.chip.gl ∧ SameRegsBut (fun _ => False) s t)
        ∧ (s.chip.pw.keepGlaze = false → s.chip.f Gcfg.STATE = 0 → Ends .stepS6 s fun t => StepOver s t 6 ∧ t.chip.f Gcfg.BOOT_FAIL = 1
            ∧ t.chip.f Gcfg.STATE = 0)
        ∧ (s.chip.pw.keepGlaze = false → s.chip.f Gcfg.STATE = 1 → isOrder (s.chip.f Gcfg.STARTUP_ORDER) = true → Ends .stepS6 s fun t =>
            t.chip.f Gcfg.STATE = 2 ∧ t.chip.gl.checking = true ∧ t.chip.pw.step = 6)
        ∧ (s.chip.f Gcfg.STATE = 2 → s.chip.gl.checking = false → s.chip.gl.step = 4 →
            (stepNow s ≠ 0 ∨ s.chip.locked = true → Ends (.startupStep none) s fun t => t.chip.f Gcfg.STATE = 3 ∧ StepOver s t 6
              ∧ t.chip.f Gcfg.BOOT_FAIL = s.chip.f Gcfg.BOOT_FAIL)
            ∧ (stepNow s = 0 → s.chip.locked = false → Ends .glazeLockTmo s fun t => t.chip.f Gcfg.STATE = 1 ∧ StepOver s t 6
              ∧ t.chip.f Gcfg.BOOT_FAIL = 1)))
    ∧ (∀ nor : List Byte, s.chip.atStep 7 = true → ∀ sh, sh = shapeCheck nor (s.chip.f Id.DEV_ID) →
        (∀ e, sh = some e → s.chip.pw.reread = false → Ends (.stepS7 none nor) s fun t => t.chip.pw.mode = .wake ∧ t.chip.pw.step = 7
            ∧ t.chip.pw.reread = true ∧ t.chip.f Img.IMG_ERR_CODE = e.1)
        ∧ (∀ e, sh = some e → s.chip.pw.reread = true → Ends (.stepS7 none nor) s fun t => t.chip.pw.mode = .halt ∧ t.chip.f Img.IMG_ERR_CODE = e.1
            ∧ WakeRec t (s.chip.f Power.WAKE_REASON) 8 7 2)
        ∧ (sh = none → crcCheck nor = none → s.chip.keysEmpty = true → Ends (.stepS7 none nor) s fun t => StepOver s t 7 ∧ t.chip.f Img.OPEN = 1
            ∧ t.chip.f Img.IMG_ID = imgAt nor 32 4 ∧ t.chip.f Img.SECVER = imgAt nor 16 4 ∧ t.chip.pw.img = nor))
    ∧ (s.chip.atStep 8 = true → ∀ rc, rc = recordCheck s.chip.pw.img →
        (rc = none → Ends .stepS8 s fun t => StepOver s t 8 ∧ t.chip.f Sw.RETAINED = 1 ∧ t.chip.sw.loaded = true)
        ∧ (∀ e, rc = some e → s.chip.pw.reread = true → Ends .stepS8 s fun t => t.chip.pw.mode = .halt ∧ t.chip.f Img.IMG_ERR_CODE = e.1
            ∧ WakeRec t (s.chip.f Power.WAKE_REASON) 8 8 2)
        ∧ (∀ e, rc = some e → s.chip.pw.reread = false → Ends .stepS8 s fun t => WakesAt t 7 ∧ t.chip.pw.reread = true))
    ∧ (s.chip.atStep 9 = true → s.chip.tw.negotiating = false →
        (s.chip.f Dip.PREF = 0 → s.chip.pw.attempts = 0 → Ends .stepS9 s fun t => t.chip.f Dip.ROLE = 0 ∧ StepOver s t 9)
        ∧ (s.chip.f Dip.PREF ≠ 0 → s.chip.pw.linkHold = true → s.chip.f Dip.OWN_IN = 1 → Ends .stepS9 s fun t => t.chip.f Dip.ROLE = 4 ∧ t.chip.pw.step = 10)
        ∧ (s.chip.f Dip.PREF ≠ 0 → s.chip.f Dip.OWN_IN = 0 → s.chip.linkUp = false → s.chip.tw.lastHb = none → Ends .stepS9 s fun t =>
            t.chip.f Dip.ROLE = 1 ∧ t.chip.tw.negotiating = true ∧ t.chip.pw.step = 9))
    ∧ (∀ us : Word, s.chip.atStep 10 = true → Ends (.stepS10 us) s fun t => t.chip.pw.mode = .run ∧ t.chip.ready = true ∧ t.chip.f Power.SEALED = 1
        ∧ t.chip.f Power.STATE = 0 ∧ t.chip.f Power.WAKE_US = us.toNat ∧ UnderCeilings t ∧ t.chip.pw.posts = []
        ∧ (s.chip.f Plane.LOAD_ERR_CODE = 0 → t.chip.f Plane.STATE = 1 ∧ t.chip.f Plane.ROUND = 0 ∧ t.chip.f Plane.PBEAT = 0)
        ∧ (∀ r : Fin 16, t.chip.f (Rail.EN r) = s.chip.f (Rail.EN r)) ∧ t.chip.f Dip.ROLE = s.chip.f Dip.ROLE)

/-- R884, R886, R892, R895, R896, R901, R905, R907, R908, R912, R918: resets of the whole part, its supplies and the always-on responder. -/
def Obligations.ResetsAndSuppliesActOnThePart : Prop :=
  ∀ s : State, Between s →
    (Ends .vauxLoss s fun t => t.chip.pw.mode = .reset ∧ Quiet t ∧ t.chip.nvc.cells = s.chip.nvc.cells ∧ t.chip.f Power.SEALED = 0
      ∧ t.chip.faultN = false ∧ t.chip.alertA = false ∧ t.chip.gl.frames = [])
    ∧ (s.chip.pw.mode ≠ .reset → s.chip.pw.mode ≠ .dormant → s.chip.f Power.STATE = 0 →
      (s.chip.nvc.cur = none → s.chip.pw.resetDue = 0 → Ends .resetNAssert s fun t => WakesAt t 1 ∧ WakeRec t 2 0 0 0 ∧ Quiet t ∧ ResetKeeps s t)
      ∧ (s.chip.nvc.cur.isSome = true → Ends .resetNAssert s fun t => t.chip = { s.chip with pw := { s.chip.pw with resetDue := s.chip.pw.resetDue ||| 2 } }))
    ∧ (s.chip.pw.mode = .reset → Ends .resetNAssert s fun t => t.chip = s.chip)
    ∧ (s.chip.pw.mode = .dormant → s.chip.nvc.cur = none → s.chip.pw.resetDue = 0 → Ends .resetNAssert s fun t => WakesAt t 1 ∧ WakeRec t 2 0 0 0)
    ∧ (∀ q : Sender, MayPriv s 31 q → s.chip.pw.mode = .run → s.chip.f Power.STATE = 0 →
      (s.chip.nvc.cur = none → s.chip.pw.resetDue = 0 → Ends (.warmReset q 0xA5A50001) s fun t => WakesAt t 5 ∧ WakeRec t 3 0 0 0 ∧ Quiet t ∧ ResetKeeps s t)
      ∧ (s.chip.nvc.cur.isSome = true → Ends (.warmReset q 0xA5A50001) s fun t => t.chip.pw.resetDue = s.chip.pw.resetDue ||| 4
          ∧ t.chip.pw.mode = .run ∧ SameRegsBut (fun _ => False) s t)
      ∧ (∀ d : Word, d ≠ 0xA5A50001 → Ends (.warmReset q d) s fun t => t.chip.pw = s.chip.pw ∧ SameRegsBut (fun _ => False) s t))
    ∧ (∀ (q : Sender) (d : Word), s.chip.fenced 31 = false → q.priv = false → Ends (.warmReset q d) s fun t => Refuses s t stPriv)
    ∧ (s.chip.pw.mode = .deep →
      (Ends .vddhLoss s fun t => t.chip = { s.chip with pw := { s.chip.pw with vddh := false, sawLow := true } })
      ∧ (s.chip.pw.sawLow = true → Ends .vddhGood s fun t => WakesAt t 2 ∧ WakeRec t 4 0 0 0 ∧ t.chip.pw.vddh = true)
      ∧ (s.chip.pw.sawLow = false → Ends .vddhGood s fun t => t.chip = { s.chip with pw := { s.chip.pw with vddh := true } }))
    ∧ (s.chip.pw.mode = .run ∨ s.chip.pw.mode = .halt ∨ s.chip.pw.mode = .deepRamp ∨ s.chip.pw.mode = .deepPersist → Ends .vddhLoss s fun t => WakesAt t 2
      ∧ t.chip.pw.vddh = false ∧ t.chip.pw.vddhLost = true ∧ t.chip.f Power.UNCLEAN = 1 ∧ t.chip.pw.lossDue = true ∧ Quiet t
      ∧ t.chip.f Power.SEALED = s.chip.f Power.SEALED)
    ∧ (s.chip.pw.mode = .wake →
      (s.chip.pw.step ≤ 2 → Ends .vddhLoss s fun t => t.chip.pw.vddh = false ∧ t.chip.pw.mode = .wake ∧ t.chip.pw.step = s.chip.pw.step
        ∧ SameRegsBut (fun _ => False) s t)
      ∧ (3 ≤ s.chip.pw.step → s.chip.pw.step ≤ 10 → Ends .vddhLoss s fun t => WakesAt t 2 ∧ t.chip.f Power.UNCLEAN = 1
        ∧ WakeRec t (s.chip.f Power.WAKE_REASON) 7 s.chip.pw.step 1)
      ∧ (s.chip.pw.vddhLost = true → Ends .vddhGood s fun t => WakesAt t 2 ∧ WakeRec t 6 0 0 0 ∧ t.chip.pw.vddh = true)
      ∧ (s.chip.pw.vddhLost = false → Ends .vddhGood s fun t => t.chip = { s.chip with pw := { s.chip.pw with vddh := true } }))
    ∧ (Ends .vio33Low s fun t => t.chip = { s.chip with pw := { s.chip.pw with vio33Low := true } } ∧ t.chip.ownOutBall = false
      ∧ ∀ p : Fin 96, t.chip.pwmPin p = .z)
    ∧ (Ends .vio33Return s fun t => t.chip = { s.chip with pw := { s.chip.pw with vio33Low := false } } ∧ t.chip.ownOutBall = s.chip.b Dip.OWN_OUT)
    ∧ (s.chip.responder = true →
      (s.chip.pw.mode = .dormant → Ends .responderStatusByte s fun t => Responds t true [0x41#8] ∧ SameRegsBut (fun _ => False) s t)
      ∧ (s.chip.pw.mode = .wake → Ends .responderStatusByte s fun t => Responds t true [0x40#8] ∧ SameRegsBut (fun _ => False) s t)
      ∧ (Ends .mfrWakeReason s fun t => Responds t true ([s.chip.f Power.WAKE_REASON, s.chip.f Power.WAKE_FAIL, s.chip.f Power.WAKE_FAIL_STEP,
          s.chip.f Power.WAKE_ATTEMPTS].map (BitVec.ofNat 8)) ∧ SameRegsBut (fun _ => False) s t)
      ∧ (∀ v : BitVec 8, Ends (.mfrWake v (some false)) s fun t => Responds t false [] ∧ SameRegsBut (fun _ => False) s t ∧ t.chip.pw = s.chip.pw)
      ∧ (∀ pec : Option Bool, pec ≠ some false →
        (∀ v : BitVec 8, v ≠ 0xA5 → Ends (.mfrWake v pec) s fun t => Responds t true [] ∧ SameRegsBut (fun _ => False) s t ∧ t.chip.pw = s.chip.pw)
        ∧ (s.chip.pw.mode = .dormant → Ends (.mfrWake 0xA5 pec) s fun t => Responds t true [] ∧ WakesAt t 1 ∧ WakeRec t 5 0 0 0)
        ∧ (s.chip.pw.mode = .deep → s.chip.pw.vddh = true → Ends (.mfrWake 0xA5 pec) s fun t => Responds t true [] ∧ WakesAt t 2 ∧ WakeRec t 5 0 0 0)))

/-- R900, R901, R903, R904, R914: STANDBY, its end, and DEEP, with the refusals of POWER.CMD. -/
def Obligations.PowerStatesChangeOnCommand : Prop :=
  ∀ (s : State) (q : Sender), Between s → MayPriv s 31 q →
    (∀ (d : BitVec 16) (us : Word), d ≠ 0x5A5A →
      Ends (.standby q d) s (KeyErr s) ∧ Ends (.run q d us) s (KeyErr s) ∧ Ends (.deep q d) s (KeyErr s))
    ∧ (s.chip.f Dip.ROLE = 3 → Ends (.standby q 0x5A5A) s fun t => t.chip.f Power.ENTRY_ERR = 1 ∧ t.chip.pw = s.chip.pw ∧ t.chip.resp = some (stDenied, []))
    ∧ (s.chip.f Dip.ROLE = 2 → s.chip.linkUp = true → Ends (.deep q 0x5A5A) s fun t => t.chip.f Power.ENTRY_ERR = 2 ∧ t.chip.pw = s.chip.pw
        ∧ t.chip.resp = some (stDenied, []))
    ∧ (s.chip.f Dip.ROLE ≠ 3 → s.chip.pw.mode ≠ .run ∨ s.chip.f Power.STATE ≠ 0 → Ends (.standby q 0x5A5A) s fun t =>
        t.chip.f Power.ENTRY_ERR = 3 ∧ t.chip.pw = s.chip.pw)
    ∧ (s.chip.linkUp = false → s.chip.pw.mode ≠ .run ∨ s.chip.f Power.STATE ≠ 0 → Ends (.deep q 0x5A5A) s fun t =>
        t.chip.f Power.ENTRY_ERR = 3 ∧ t.chip.pw = s.chip.pw)
    ∧ (∀ us : Word, s.chip.pw.mode ≠ .run ∨ s.chip.f Power.STATE ≠ 1 → Ends (.run q 0x5A5A us) s fun t =>
        t.chip.f Power.ENTRY_ERR = 3 ∧ t.chip.pw = s.chip.pw)
    ∧ (s.chip.pw.mode = .run → ∀ r : Fin 8, s.chip.f (Gcfg.REGIONr_STATE r) ≠ 0 →
        (s.chip.f Power.STATE = 0 → s.chip.f Dip.ROLE ≠ 3 → Ends (.standby q 0x5A5A) s fun t => t.chip.f Power.ENTRY_ERR = 4 ∧ t.chip.pw = s.chip.pw))
    ∧ (s.chip.pw.mode = .run → (∀ r : Fin 8, s.chip.f (Gcfg.REGIONr_STATE r) = 0) →
        (s.chip.f Power.STATE = 0 → s.chip.f Dip.ROLE ≠ 3 →
          (s.chip.f Plane.STATE = 0 ∨ s.chip.f Plane.STATE = 4 → Ends (.standby q 0x5A5A) s fun t => t.chip.f Power.STATE = 1 ∧ t.chip.gl.vddg = 0
            ∧ t.chip.resp = some (stOk, []) ∧ t.chip.ready = true ∧ t.chip.pw.planeWas = s.chip.f Plane.STATE
            ∧ (∀ r : Fin 16, t.chip.f (Rail.EN r) = s.chip.f (Rail.EN r)
              ∧ (s.chip.f (Rail.STBY_KEEP r) = 0 → s.chip.f (Rail.EN r) = 1 → (t.chip.rail r).off = true) ∧ (t.chip.rail r).ceilLine = false)
            ∧ (∀ p : Fin 96, (t.chip.phase p).force = false) ∧ Posts s t 31 11 6 [])
          ∧ (s.chip.f Plane.STATE = 1 → Ends (.standby q 0x5A5A) s fun t => t.chip.f Power.STATE = 2 ∧ t.chip.pw.standby = true
            ∧ t.chip.f Plane.STATE = 1 ∧ SameRegsBut (fun a => a = Power.STATE.addr) s t))
        ∧ (∀ us : Word, s.chip.f Power.STATE = 1 → Ends (.run q 0x5A5A us) s fun t => t.chip.f Power.STATE = 0 ∧ t.chip.gl.scrub = 0
            ∧ t.chip.resp = some (stOk, [])
            ∧ (s.chip.pw.planeWas = 1 → t.chip.f Plane.STATE = 1 ∧ t.chip.f Plane.PBEAT = 0 ∧ t.chip.f Plane.ROUND = (s.chip.f Plane.ROUND + 1) % 2 ^ 32)
            ∧ (s.chip.pw.planeWas ≠ 1 → t.chip.f Plane.STATE = s.chip.f Plane.STATE)
            ∧ (∀ r : Fin 16, (t.chip.rail r).off = false ∧ t.chip.f (Rail.EN r) = s.chip.f (Rail.EN r)))
        ∧ (s.chip.f Power.STATE = 0 → s.chip.linkUp = false → Ends (.deep q 0x5A5A) s fun t => t.chip.pw.mode = .deepRamp ∧ t.chip.ready = true
            ∧ t.chip.f Plane.STATE = 0 ∧ t.chip.resp = some (stOk, [])
            ∧ ∀ r : Fin 16, t.chip.f (Rail.EN r) = s.chip.f (Rail.EN r) ∧ (s.chip.f (Rail.EN r) = 1 → (t.chip.rail r).off = true)))
    ∧ (s.chip.pw.mode = .deepRamp → Ends .deepRampDone s fun t => t.chip.pw.mode = .deepPersist ∧ t.chip.f Dip.OWN_OUT = 0 ∧ t.chip.driving = false
        ∧ t.chip.ready = true ∧ (s.chip.skb.page = none → t.chip.skb.page = some 0 ∧ t.chip.f Skb.BUSY = 1) ∧ t.chip.mem = s.chip.mem)
    ∧ (s.chip.pw.mode ≠ .deepRamp → Ends .deepRampDone s fun t => t.chip = s.chip)
    ∧ (s.chip.pw.mode = .deepPersist → s.chip.skb.page = none → s.chip.nvc.cur = none → s.chip.nvc.queue = [] → Ends .deepEntryComplete s fun t =>
        t.chip.pw.mode = .deep ∧ Quiet t ∧ t.chip.responder = true ∧ t.chip.nvc.cells = s.chip.nvc.cells
        ∧ t.chip.f Power.SEALED = s.chip.f Power.SEALED ∧ t.chip.gl.frames = []
        ∧ ∀ n : Fin 16, t.chip.f (Lsw.MODE n) = s.chip.f (Lsw.MODE n) ∧ t.chip.f (Lsw.CONDUCT n) = s.chip.f (Lsw.CONDUCT n))
    ∧ (s.chip.pw.mode = .deepPersist → s.chip.skb.page.isSome = true ∨ s.chip.nvc.cur.isSome = true → Ends .deepEntryComplete s fun t => t.chip = s.chip)

/-- R949–R953: the TAP instructions. Only the boundary cells of the PWM balls (0–95) and of the GIO balls (96 on) are
modelled, and a cell goes by its ball (notes/assumptions/96.md). -/
def Obligations.TapInstructionsDecideTheBalls : Prop :=
  ∀ (s : State) (d : Die), Between s → ∀ other, other = (match d with | .l => Die.m | .m => Die.l) →
    (Ends (.idcode d) s fun t => t.chip.tap.word d = some (match d with | .l => 0xA72405A7 | .m => 0xA72415A7)
      ∧ t.chip.tap.ir other = s.chip.tap.ir other ∧ t.chip = { s.chip with tap := t.chip.tap })
    ∧ (Ends (.bypass d) s fun t => t.chip.tap.ir d = .bypass ∧ t.chip.tap.word d = none ∧ t.chip = { s.chip with tap := t.chip.tap })
    ∧ (Ends (.extest d) s fun t => t.chip.tap.ir d = .extest ∧ t.chip = { s.chip with tap := t.chip.tap }
      ∧ (d = .l → ∀ g : Fin 96, t.chip.gioPin g = if mget false s.chip.tap.cells (96 + g) = true then .high else .low)
      ∧ (d = .l → s.chip.pw.vio33Low = false → ∀ p : Fin 96, t.chip.pwmPin p = if mget false s.chip.tap.cells p = true then .high else .low))
    ∧ (Ends (.clamp d) s fun t => t.chip.tap.ir d = .clamp ∧ t.chip = { s.chip with tap := t.chip.tap }
      ∧ (d = .l → ∀ g : Fin 96, t.chip.gioPin g = if mget false s.chip.tap.cells (96 + g) = true then .high else .low)
      ∧ (d = .l → s.chip.pw.vio33Low = false → ∀ p : Fin 96, t.chip.pwmPin p = if mget false s.chip.tap.cells p = true then .high else .low))
    ∧ (Ends (.highz d) s fun t => t.chip.tap.ir d = .highz ∧ t.chip = { s.chip with tap := t.chip.tap } ∧ (d = .l → ∀ p : Fin 96, t.chip.pwmPin p = .z ∧ t.chip.gioPin p = .z))
    ∧ (Ends .extestPulse s fun t => t.chip.tap.l = .extestPulse ∧ t.chip.tap.m = s.chip.tap.m ∧ t.chip.tap.cells = s.chip.tap.cells
      ∧ (s.chip.pw.vio33Low = false → ∀ p : Fin 96, t.chip.pwmPin p = if mget false s.chip.tap.cells p = true then .high else .low))
    ∧ (Ends .extestTrain s fun t => t.chip.tap.l = .extestTrain ∧ t.chip.tap.m = s.chip.tap.m ∧ t.chip.tap.cells = s.chip.tap.cells
      ∧ (s.chip.pw.vio33Low = false → ∀ p : Fin 96, t.chip.pwmPin p = if mget false s.chip.tap.cells p = true then .high else .low))
    ∧ (∀ (p : Fin 192) (l : Bool),
      (Ends (.samplePreload .l [(p, l)]) s fun t => t.chip.tap.l = .samplePreload ∧ mget false t.chip.tap.cells p = l
        ∧ (∀ k : Fin 192, k ≠ p → mget false t.chip.tap.cells k = mget false s.chip.tap.cells k)
        ∧ (∀ k : Fin 96, mget 0 t.chip.tap.sampled k = (if s.chip.pw.vio33Low = true then PinLevel.z else s.chip.pwmCore k).code
            ∧ mget 0 t.chip.tap.sampled (96 + k) = (s.chip.gioCore k).code)
        ∧ t.chip = { s.chip with tap := t.chip.tap })
      ∧ (Ends (.samplePreload .m [(p, l)]) s fun t => t.chip.tap.m = .samplePreload ∧ t.chip.tap.cells = s.chip.tap.cells
        ∧ t.chip = { s.chip with tap := t.chip.tap }))

/-! ### Easel words and reset values -/

/-- R430–R440, R456–R497: the word of an Easel instruction spells that instruction, with every operand at every value, and a word that spells
an instruction is that instruction's word: no bit of an encoding is dropped, and no word has two meanings. -/
def Obligations.EaselWordsSpellTheirInstructions : Prop :=
  (∀ (i : Instr) (t : Fin 28), easelTile i = some t → decodeEasel t (easelWord i) = some i)
  ∧ (∀ (t : Fin 28) (w : Word), ∀ i, decodeEasel t w = some i → easelWord i = w ∧ easelTile i = some t)

/-- R10–R15, R884, R896: a power-on reset returns every register to its Reset entry, but for the fields whose Survives entry names P; what the
state after it holds. -/
def Obligations.PowerOnResetReturnsRegisters : Prop :=
  (∀ (s : State) (a : Nat), Between s → s.chip.f Power.STATE ≠ 1 → (mkeys s.chip.regs).Pairwise (· < ·) → s.chip.image = [] →
    Ends .vauxLoss s fun t => t.chip.reg a = BitVec.ofNat 32 (resetWord svP (a / 0x2000000) (imageBase a).toNat (fieldsAt a) (s.chip.reg a).toNat))
  ∧ State.reset.chip.f Id.DEV_ID = 0x07240A02
  ∧ (∀ r : Fin 16, State.reset.chip.f (Rail.EN r) = 0) ∧ (∀ p : Fin 96, State.reset.chip.pwmPin p = .z)
  ∧ State.reset.chip.f Power.SEALED = 0 ∧ State.reset.chip.ready = false ∧ State.reset.chip.f Dip.OWN_OUT = 0
  ∧ (∀ n : Fin 49, State.reset.chip.f (Ni.FENCED n) = 0) ∧ State.reset.chip.f Gcfg.STATE = 0 ∧ State.reset.chip.f Plane.STATE = 0
end

