-- ==== Sys2Proof/Laws/Maps.lean ====
section
/-! SUPPORT. Laws of the keyed sequences: a read after a write, what a write keeps of the canonical form, and the folds. -/

namespace Sys2Proof.Machine

/-! ### Reading and writing -/

theorem mget_mdel {α : Type} (d : α) (k n : Nat) (m : Map α) : mget d (mdel k m) n = if n = k then d else mget d m n := by
  induction m with
  | nil => simp [mdel, mget]
  | cons e m ih =>
    obtain ⟨a, v⟩ := e
    by_cases h : a = k
    · subst h
      simp only [mdel, if_pos, ih, mget]
      by_cases h2 : n = a
      · simp [h2]
      · simp [h2, Ne.symm h2]
    · simp only [mdel, h, if_false, mget, ih]
      by_cases h2 : a = n
      · subst h2; simp [h]
      · simp [h2]

theorem mget_mins_ne {α : Type} (d : α) (k n : Nat) (v : α) (m : Map α) (h : n ≠ k) : mget d (mins k v m) n = mget d m n := by
  induction m with
  | nil => simp [mins, mget, Ne.symm h]
  | cons e m ih =>
    obtain ⟨a, w⟩ := e
    simp only [mins]
    by_cases h1 : k < a
    · simp [h1, mget, Ne.symm h]
    · simp [h1, mget, ih]

theorem mget_mins_mdel {α : Type} (d : α) (k : Nat) (v : α) (m : Map α) : mget d (mins k v (mdel k m)) k = v := by
  induction m with
  | nil => simp [mdel, mins, mget]
  | cons e m ih =>
    obtain ⟨a, w⟩ := e
    by_cases h : a = k
    · simp [mdel, h, ih]
    · simp only [mdel, h, if_false, mins]
      by_cases h1 : k < a
      · simp [h1, mget]
      · simp [h1, mget, h, ih]

/-- A write leaves every other key as it was, whatever an unlisted key reads as. -/
theorem mget_mset_ne {α : Type} [DecidableEq α] (d e : α) (m : Map α) (k : Nat) (v : α) {n : Nat} (h : n ≠ k) :
    mget e (mset d m k v) n = mget e m n := by
  unfold mset
  split
  · simp [mget_mdel, h]
  · simp [mget_mins_ne _ _ _ _ _ h, mget_mdel, h]

@[simp] theorem mget_mset_same {α : Type} [DecidableEq α] (d : α) (m : Map α) (k : Nat) (v : α) : mget d (mset d m k v) k = v := by
  unfold mset
  split
  · simp [mget_mdel, *]
  · simp [mget_mins_mdel]

/-- A read after a write: the key written reads the value, every other key reads as before. -/
theorem mget_mset {α : Type} [DecidableEq α] (d : α) (m : Map α) (k : Nat) (v : α) (n : Nat) :
    mget d (mset d m k v) n = if n = k then v else mget d m n := by
  by_cases h : n = k
  · simp [h]
  · simp [h, mget_mset_ne d d m k v h]

/-! ### The canonical form -/

theorem risingFrom_le {α : Type} {b c : Nat} {m : Map α} (h : risingFrom b m = true) (hc : c ≤ b) : risingFrom c m = true := by
  cases m with
  | nil => rfl
  | cons e m => simp only [risingFrom, Bool.and_eq_true, decide_eq_true_eq] at h ⊢; exact ⟨by omega, h.2⟩

theorem risingFrom_mdel {α : Type} (k : Nat) {b : Nat} {m : Map α} (h : risingFrom b m = true) : risingFrom b (mdel k m) = true := by
  induction m generalizing b with
  | nil => rfl
  | cons e m ih =>
    obtain ⟨a, v⟩ := e
    simp only [risingFrom, Bool.and_eq_true, decide_eq_true_eq] at h
    simp only [mdel]
    split
    · exact risingFrom_le (ih h.2) (by omega)
    · simp only [risingFrom, Bool.and_eq_true, decide_eq_true_eq]; exact ⟨h.1, ih h.2⟩

theorem mdel_notMem {α : Type} (k : Nat) (m : Map α) : ∀ e ∈ mdel k m, e.1 ≠ k := by
  induction m with
  | nil => simp [mdel]
  | cons e m ih =>
    obtain ⟨a, v⟩ := e
    simp only [mdel]
    split
    · exact ih
    · intro x hx
      rcases List.mem_cons.mp hx with rfl | hx
      · assumption
      · exact ih x hx

theorem risingFrom_mins {α : Type} (k : Nat) (v : α) {b : Nat} {m : Map α} (h : risingFrom b m = true) (hb : b ≤ k)
    (hk : ∀ e ∈ m, e.1 ≠ k) : risingFrom b (mins k v m) = true := by
  induction m generalizing b with
  | nil => simp [mins, risingFrom, hb]
  | cons e m ih =>
    obtain ⟨a, w⟩ := e
    simp only [risingFrom, Bool.and_eq_true, decide_eq_true_eq] at h
    simp only [mins]
    split
    · rename_i hlt
      simp only [risingFrom, Bool.and_eq_true, decide_eq_true_eq]
      exact ⟨hb, by omega, h.2⟩
    · have hak : a ≠ k := hk (a, w) (by simp)
      simp only [risingFrom, Bool.and_eq_true, decide_eq_true_eq]
      exact ⟨h.1, ih h.2 (by omega) (fun e he => hk e (by simp [he]))⟩

theorem mem_mdel {α : Type} {k : Nat} {m : Map α} {e : Nat × α} (h : e ∈ mdel k m) : e ∈ m := by
  induction m with
  | nil => simp [mdel] at h
  | cons x m ih =>
    obtain ⟨a, v⟩ := x
    simp only [mdel] at h
    split at h
    · simp [ih h]
    · rcases List.mem_cons.mp h with rfl | h
      · simp
      · simp [ih h]

theorem mem_mins {α : Type} {k : Nat} {v : α} {m : Map α} {e : Nat × α} (h : e ∈ mins k v m) : e = (k, v) ∨ e ∈ m := by
  induction m with
  | nil => simpa [mins] using h
  | cons x m ih =>
    obtain ⟨a, w⟩ := x
    simp only [mins] at h
    split at h
    · simpa using h
    · rcases List.mem_cons.mp h with rfl | h
      · simp
      · rcases ih h with h | h <;> simp [h]

/-- A write keeps the canonical form. -/
theorem mset_wf {α : Type} [DecidableEq α] (d : α) {m : Map α} (k : Nat) (v : α) (h : Map.wf d m = true) :
    Map.wf d (mset d m k v) = true := by
  simp only [Map.wf, Bool.and_eq_true, List.all_eq_true, bne_iff_ne] at h ⊢
  unfold mset
  split
  · exact ⟨risingFrom_mdel k h.1, fun e he => h.2 e (mem_mdel he)⟩
  · refine ⟨risingFrom_mins k v (risingFrom_mdel k h.1) (Nat.zero_le k) (mdel_notMem k m), fun e he => ?_⟩
    rcases mem_mins he with rfl | he
    · assumption
    · exact h.2 e (mem_mdel he)

/-! ### Folds -/

/-- What every round of a counted fold keeps, the fold keeps. -/
theorem forN_keeps {σ : Type} (P : σ → Prop) (n : Nat) (f : Nat → σ → σ) (hf : ∀ i s, i < n → P s → P (f i s)) (s : σ) (h : P s) :
    P (forN n f s) := by
  have key : ∀ (l : List Nat) (s : σ), (∀ i ∈ l, i < n) → P s → P (l.foldl (fun s i => f i s) s) := by
    intro l
    induction l with
    | nil => intro s _ hs; exact hs
    | cons a l ih =>
      intro s hl hs
      exact ih _ (fun i hi => hl i (by simp [hi])) (hf a s (hl a (by simp)) hs)
  exact key _ s (fun i hi => List.mem_range.mp hi) h

/-- What every round of a fold over a list keeps, the fold keeps. -/
theorem forL_keeps {α σ : Type} (P : σ → Prop) (l : List α) (f : α → σ → σ) (hf : ∀ a s, a ∈ l → P s → P (f a s)) (s : σ) (h : P s) :
    P (forL l f s) := by
  unfold forL
  induction l generalizing s with
  | nil => exact h
  | cons a l ih => exact ih (fun b s hb => hf b s (by simp [hb])) (f a s) (hf a s (by simp) h)

/-- A projection that no round changes is the same after the fold. -/
theorem forN_same {σ β : Type} (g : σ → β) (n : Nat) (f : Nat → σ → σ) (hf : ∀ i s, i < n → g (f i s) = g s) (s : σ) :
    g (forN n f s) = g s :=
  forN_keeps (fun t => g t = g s) n f (fun i t hi ht => (hf i t hi).trans ht) s rfl

@[inherit_doc forN_same] theorem forL_same {α σ β : Type} (g : σ → β) (l : List α) (f : α → σ → σ)
    (hf : ∀ a s, a ∈ l → g (f a s) = g s) (s : σ) : g (forL l f s) = g s :=
  forL_keeps (fun t => g t = g s) l f (fun a t ha ht => (hf a t ha).trans ht) s rfl

theorem forN_succ {σ : Type} (n : Nat) (f : Nat → σ → σ) (s : σ) : forN (n + 1) f s = f n (forN n f s) := by
  simp [forN, List.range_succ]

@[simp] theorem forN_zero {σ : Type} (f : Nat → σ → σ) (s : σ) : forN 0 f s = s := rfl

end Sys2Proof.Machine
end

