-- ==== Sys2Proof/Laws/Fabric.lean ====
section
/-! SUPPORT. The fabric check: a configuration that uses no macrocell, no memory port and no drive passes every check of R849. -/

namespace Sys2Proof.Machine

theorem mget_filterMap_range {α : Type} [DecidableEq α] (d : α) (W : Nat → α) (l : List Nat) (k : Nat) :
    mget d ((l.filter (fun i => W i ≠ d)).map (fun i => (i, W i))) k = if k ∈ l then W k else d := by
  induction l with
  | nil => simp [mget]
  | cons i l ih =>
    by_cases hw : W i = d
    · simp only [List.filter_cons, hw, ne_eq, not_true_eq_false, decide_false, Bool.false_eq_true, if_false, List.mem_cons]
      rw [ih]
      by_cases hk : k = i
      · subst hk; simp [hw]
      · simp [hk]
    · simp only [List.filter_cons, hw, ne_eq, not_false_eq_true, decide_true, if_true, List.map_cons, mget, List.mem_cons]
      by_cases hk : i = k
      · subst hk; simp
      · simp [hk, Ne.symm hk]; simpa using ih

theorem sum_map_zero {α : Type} {l : List α} {f : α → Nat} (h : ∀ x ∈ l, f x = 0) : (l.map f).sum = 0 := by
  induction l with
  | nil => rfl
  | cons x l ih => simp [h x (by simp), ih fun y hy => h y (by simp [hy])]

theorem sumN_zero {n : Nat} {f : Nat → Nat} (h : ∀ i < n, f i = 0) : sumN n f = 0 := by
  unfold sumN
  have : ∀ (l : List Nat), (∀ i ∈ l, f i = 0) → l.foldl (fun a i => a + f i) 0 = 0 := by
    intro l hl
    induction l with
    | nil => rfl
    | cons i l ih => simp [List.foldl_cons, hl i (by simp)]; exact ih fun j hj => hl j (by simp [hj])
  exact this _ fun i hi => h i (List.mem_range.mp hi)

/-- The configuration words of the unused array: every select is 255, every other bit 0 (R840, R841). -/
def unusedWord (k : Nat) : Word :=
  let i := k % 384
  if k / 384 % 16 < 12 then
    (if k / 6144 < 16 then (if 242 ≤ i ∧ i < 252 then 0xFFFFFFFF else 0)
     else if k / 6144 < 18 then (if i < 8 then 0xFFFFFFFF else if i = 8 then 0xFFFF else 0) else 0)
  else 0

/-- Its frames, in the canonical form. -/
def unusedFrames : Map Word := ((List.range (48 * 2432)).filter (fun i => unusedWord i ≠ 0)).map (fun i => (i, unusedWord i))

theorem firstClash_none (seen : List Nat) (l : List (Nat × Nat × Nat × Nat × Nat × Nat)) (h : ∀ x ∈ l, x.2.2.2.1 = 0) : firstClash seen l = none := by
  induction l generalizing seen with
  | nil => rfl
  | cons x l ih =>
    obtain ⟨col, r, tc, d, row, m⟩ := x
    have hd : d = 0 := h (col, r, tc, d, row, m) (by simp)
    subst hd
    simp only [firstClash, driveKeys, bit]
    exact ih _ fun y hy => h y (by simp [hy])

/-- A set reserved bit or a reserved code in a column that is checked is never let pass. -/
theorem fabric_refused {c : Chip} {cols : Nat → Bool} {col : Nat} (hcol : col < 19) (hc : cols col = true) (h : c.badReserved col ≠ none) :
    ∃ e, c.fabric cols = some e := by
  rw [← Option.isSome_iff_exists, Option.isSome_iff_ne_none]
  intro hn
  apply h
  simp only [Chip.fabric, Option.orElse_eq_orElse, Option.orElse_eq_or, Option.or_eq_none_iff, List.findSome?_eq_none_iff] at hn
  exact hn.2.2.2.2.2.1 col (List.mem_filter.mpr ⟨List.mem_range.mpr hcol, hc⟩)

section
variable {c : Chip} (hc : c.gl.frames = unusedFrames)
include hc

theorem unused_areaBit {col r b : Nat} (hcol : col < 19) (hr : r < 12) (hb : b < 12288) :
    c.areaBit col r b = if col < 16 then decide (7744 ≤ b ∧ b < 8064) else if col < 18 then decide (b < 272) else false := by
  unfold Chip.areaBit Chip.frameBit
  rw [hc]
  unfold unusedFrames
  have hk : 48 * (128 * col + (8 * r + b / 1536)) + b % 1536 / 32 = 6144 * col + 384 * r + b / 32 := by omega
  rw [mget_filterMap_range, hk, if_pos (List.mem_range.mpr (by omega))]
  have h32 : b % 1536 % 32 = b % 32 := by omega
  rw [h32]
  unfold unusedWord
  have h1 : (6144 * col + 384 * r + b / 32) % 384 = b / 32 := by omega
  have h2 : (6144 * col + 384 * r + b / 32) / 384 % 16 = r := by omega
  have h3 : (6144 * col + 384 * r + b / 32) / 6144 = col := by omega
  simp only [h1, h2, h3, hr, if_true]
  have ones : ∀ j < 32, (0xFFFFFFFF : Word).getLsbD j = true := by decide
  have half : ∀ j < 32, (0xFFFF : Word).getLsbD j = decide (j < 16) := by decide
  have zer : ∀ j, (0 : Word).getLsbD j = false := fun j => by simp
  have hj : b % 32 < 32 := Nat.mod_lt _ (by decide)
  split
  · split
    · rw [ones _ hj]; symm; rw [decide_eq_true_eq]; omega
    · rw [zer]; symm; rw [decide_eq_false_iff_not]; omega
  · split
    · split
      · rw [ones _ hj]; symm; rw [decide_eq_true_eq]; omega
      · split
        · rw [half _ hj, decide_eq_decide]; omega
        · rw [zer]; symm; rw [decide_eq_false_iff_not]; omega
    · simp

theorem unused_area {col r lo w : Nat} (hcol : col < 19) (hr : r < 12) (hw : lo + w ≤ 12288)
    (h : col < 16 ∧ (lo + w ≤ 7744 ∨ 8064 ≤ lo) ∨ 16 ≤ col ∧ 272 ≤ lo ∨ col = 18) : c.area col r lo w = 0 := by
  unfold Chip.area
  apply sumN_zero
  intro i hi
  rw [unused_areaBit hc hcol hr (by omega), if_neg]
  split
  · simp only [decide_eq_true_eq]; omega
  · split
    · simp only [decide_eq_true_eq]; omega
    · simp

theorem unused_select {col r lo : Nat} (hcol : col < 18) (hr : r < 12) (h : col < 16 ∧ 7744 ≤ lo ∧ lo + 8 ≤ 8064 ∨ 16 ≤ col ∧ lo + 8 ≤ 272) :
    c.area col r lo 8 = 255 := by
  unfold Chip.area
  have hb : ∀ i < 8, c.areaBit col r (lo + i) = true := by
    intro i hi
    rw [unused_areaBit hc (by omega) hr (by omega)]
    split
    · simp only [decide_eq_true_eq]; omega
    · simp only [decide_eq_true_eq]; omega
  have : ∀ i < 8, (if c.areaBit col r (lo + i) then 2 ^ i else 0) = 2 ^ i := fun i hi => by rw [hb i hi]; rfl
  have e : sumN 8 (fun i => if c.areaBit col r (lo + i) then 2 ^ i else 0) = sumN 8 (fun i => 2 ^ i) := by
    simp only [sumN, show List.range 8 = [0, 1, 2, 3, 4, 5, 6, 7] from rfl, List.foldl_cons, List.foldl_nil, this 0 (by decide), this 1 (by decide),
      this 2 (by decide), this 3 (by decide), this 4 (by decide), this 5 (by decide), this 6 (by decide), this 7 (by decide)]
  rw [e]; decide

theorem unused_steer {col r t : Nat} (hcol : col < 16) (hr : r < 12) (ht : t < 56) : c.steer col r t = 0 :=
  unused_area hc (by omega) hr (by omega) (by omega)

theorem unused_steeredTo {col r m : Nat} (hcol : col < 16) (hr : r < 12) : c.steeredTo col r m = [] := by
  unfold Chip.steeredTo
  rw [List.filter_eq_nil_iff]
  intro t ht
  simp [unused_steer hc hcol hr (List.mem_range.mp ht), bit]

theorem unused_support {col r m : Nat} (hcol : col < 16) (hr : r < 12) (hm : m < 16) : c.support col r m = [] := by
  have ht : ∀ rail0, c.terms col r m rail0 = [] := by
    intro rail0
    unfold Chip.terms
    rw [List.filter_eq_nil_iff]
    intro t ht
    have := List.mem_range.mp ht
    simp [unused_area hc (col := col) (r := r) (lo := 6272 + 8 * t) (w := 6) (by omega) hr (by omega) (by omega), bit]
  unfold Chip.support
  rw [List.filter_eq_nil_iff]
  intro i hi
  have := List.mem_range.mp hi
  simp [ht, unused_areaBit hc (col := col) (r := r) (b := 6720 + 64 * m + i) (by omega) hr (by omega), hcol]
  omega

theorem unused_chainIn {col r m : Nat} (hcol : col < 16) (hr : r < 12) (hm : m < 16) : c.chainIn col r m = false := by
  unfold Chip.chainIn
  rw [unused_areaBit hc (by omega) hr (by omega), if_pos hcol]
  simp only [decide_eq_false_iff_not]; omega

theorem unused_portSrc {i : Nat} (hi : i < 720) : c.portSrc i = none := by
  unfold Chip.portSrc
  rw [unused_area hc (by omega) (by omega) (by omega) (by omega)]
  simp [bit]

theorem unused_memWire {m i : Nat} (hm : m < 24) (hi : i < 34) : c.memWire m i = none := by
  unfold Chip.memWire
  rw [unused_select hc (by omega) (by omega) (by omega)]
  simp

theorem unused_consumers (col r m : Nat) : c.consumers (.mc col r m) = 0 := by
  unfold Chip.consumers
  have h1 : (c.blocks.map (fun b => ((List.range 16).filter (fun k => !(c.inputsOf (.mc col r m) b.1 b.2 k).isEmpty)).length)).sum = 0 := by
    refine sum_map_zero fun b hb => ?_
    unfold Chip.blocks at hb
    obtain ⟨hb, _⟩ := List.mem_filter.mp hb
    obtain ⟨cl, hcl, hb⟩ := List.mem_flatMap.mp hb
    obtain ⟨rw', hrw, rfl⟩ := List.mem_map.mp hb
    rw [List.length_eq_zero_iff, List.filter_eq_nil_iff]
    intro k hk
    simp [Chip.inputsOf, unused_support hc (List.mem_range.mp hcl) (List.mem_range.mp hrw) (List.mem_range.mp hk)]
  have h2 : (List.range 720).filter (fun i => c.portSrc i == some (.mc col r m)) = [] := by
    rw [List.filter_eq_nil_iff]
    intro i hi
    simp [unused_portSrc hc (List.mem_range.mp hi)]
  have h3 : ∀ k < 24, ∀ lo w, lo + w ≤ 34 → c.memReads (.mc col r m) k lo w = false := by
    intro k hk lo w hw
    unfold Chip.memReads
    rw [List.any_eq_false]
    intro i hi
    have := List.mem_range.mp hi
    simp [unused_memWire hc hk (show lo + i < 34 by omega)]
  have h4 : ((List.range 24).map (fun k => if c.blockUsed (16 + k / 12) (k % 12) then
      b2n (c.memReads (.mc col r m) k 0 12) + b2n (c.memReads (.mc col r m) k 12 22) else 0)).sum = 0 := by
    refine sum_map_zero fun k hk => ?_
    have := List.mem_range.mp hk
    simp [h3 k this 0 12 (by omega), h3 k this 12 22 (by omega), b2n]
  rw [h1, h2, h4]
  simp

theorem unused_drives {col : Nat} (hcol : col < 19) : ∀ x ∈ c.drives col, x.2.2.1 = 0 := by
  intro x hx
  unfold Chip.drives at hx
  split at hx
  · obtain ⟨r, hr, hx⟩ := List.mem_flatMap.mp hx
    obtain ⟨m, hm, rfl⟩ := List.mem_map.mp hx
    have := List.mem_range.mp hr
    have := List.mem_range.mp hm
    exact unused_area hc (by omega) (by omega) (by omega) (by omega)
  · split at hx
    · obtain ⟨r, hr, hx⟩ := List.mem_flatMap.mp hx
      obtain ⟨m, hm, rfl⟩ := List.mem_map.mp hx
      have := List.mem_range.mp hr
      have := List.mem_range.mp hm
      exact unused_area hc (by omega) (by omega) (by omega) (by omega)
    · obtain ⟨e, he, rfl⟩ := List.mem_map.mp hx
      have := List.mem_range.mp he
      have h0 : c.area 18 1 (16 * e) 14 = 0 := unused_area hc (by omega) (by omega) (by omega) (by omega)
      simp only [h0]
      split <;> rfl

theorem unused_frames {e : Nat × Word} (he : e ∈ c.gl.frames) : e.1 / 48 % 128 < 96 ∧ e.1 / 48 / 128 < 19 := by
  rw [hc] at he
  obtain ⟨k, hk, rfl⟩ := List.mem_map.mp he
  obtain ⟨hk, hw⟩ := List.mem_filter.mp hk
  have := List.mem_range.mp hk
  refine ⟨?_, by simp only; omega⟩
  by_cases hn : k / 384 % 16 < 12
  · simp only; omega
  · simp [unusedWord, hn] at hw

theorem unused_anyFrame (col lo hi : Nat) (h : 96 ≤ lo) : c.anyFrame col lo hi = false := by
  unfold Chip.anyFrame
  rw [List.any_eq_false]
  intro e he
  have := (unused_frames hc he).1
  simp; omega

theorem unused_badCells (col : Nat) : c.badCells col = false := by
  unfold Chip.badCells
  rw [List.any_eq_false]
  intro e he
  have := (unused_frames hc he).1
  simp; omega

theorem unused_anyArea {col r lo : Nat} (hcol : col < 19) (hr : r < 12)
    (h : col < 16 ∧ 8064 ≤ lo ∨ 16 ≤ col ∧ 272 ≤ lo ∨ col = 18) : c.anyArea col r lo = false := by
  unfold Chip.anyArea
  rw [List.any_eq_false]
  intro i hi
  have := List.mem_range.mp hi
  rw [unused_areaBit hc hcol hr (by omega)]
  split
  · simp only [decide_eq_true_eq]; omega
  · split
    · simp only [decide_eq_true_eq]; omega
    · simp

omit hc in
theorem unused_overMcs (code : Nat) (cols : Nat → Bool) {bad : Nat → Nat → Nat → Bool} (h : ∀ col < 16, ∀ r < 12, ∀ m < 16, bad col r m = false) :
    Chip.overMcs cols code bad = none := by
  unfold Chip.overMcs
  rw [List.findSome?_eq_none_iff]
  intro col hcol
  have hcol := List.mem_range.mp (List.mem_filter.mp hcol).1
  rw [List.findSome?_eq_none_iff]
  intro r hr
  rw [Option.map_eq_none_iff, List.find?_eq_none]
  intro m hm
  simp [h col hcol r (List.mem_range.mp hr) m (List.mem_range.mp hm)]

theorem unused_badReserved {col : Nat} (hcol : col < 19) : c.badReserved col = none := by
  unfold Chip.badReserved
  split
  · rename_i h16
    have h : ∀ r ∈ List.range 12, (match (List.range 16).find? (fun m => have x := c.area col r (6720 + 64 * m) 64
          bits x 58 57 == 3 || decide (bits x 63 60 ≠ 0) || badDrive (c.mcDrive col r m)) with
      | some m => some (6, col, r, m)
      | none =>
        if (List.range 56).any (fun t => decide (64 ≤ c.steer col r t))
          || (List.range 40).any (fun i => badSelect col r (c.area col r (7744 + 8 * i) 8)) || c.anyArea col r 8288
        then some (6, col, r, openLoc) else none) = none := by
      intro r hr
      have hr := List.mem_range.mp hr
      have hf : (List.range 16).find? (fun m => have x := c.area col r (6720 + 64 * m) 64
          bits x 58 57 == 3 || decide (bits x 63 60 ≠ 0) || badDrive (c.mcDrive col r m)) = none := by
        rw [List.find?_eq_none]
        intro m hm
        have hm := List.mem_range.mp hm
        have h1 : c.area col r (6720 + 64 * m) 64 = 0 := unused_area hc hcol hr (by omega) (by omega)
        have h2 : c.mcDrive col r m = 0 := unused_area hc hcol hr (by omega) (by omega)
        simp [h1, h2, bits, badDrive]
      rw [hf]
      have h3 : (List.range 56).any (fun t => decide (64 ≤ c.steer col r t)) = false := by
        rw [List.any_eq_false]
        intro t ht
        simp [unused_steer hc h16 hr (List.mem_range.mp ht)]
      have h4 : (List.range 40).any (fun i => badSelect col r (c.area col r (7744 + 8 * i) 8)) = false := by
        rw [List.any_eq_false]
        intro i hi
        have := List.mem_range.mp hi
        rw [unused_select hc (by omega) hr (by omega)]
        simp [badSelect]
      simp [h3, h4, unused_anyArea hc hcol hr (lo := 8288) (by omega)]
    rw [List.findSome?_eq_none_iff.mpr]
    · simp [unused_badCells hc, unused_anyFrame hc]
    · exact h
  · split
    · rename_i h16 h18
      have h : ∀ m ∈ List.range 12, (if (List.range 34).any (fun i => have s := c.area col m (8 * i) 8; !(decide (64 ≤ s) && decide (s < 112)) && s != 255)
        || (List.range 10).any (fun j => have d := c.area col m (272 + 14 * j) 14; decide (48 ≤ d % 64) || decide (128 ≤ d))
        || c.anyArea col m 412 then some ((6, col, m, openLoc) : FabricFail) else none) = none := by
        intro m hm
        have hm := List.mem_range.mp hm
        have h1 : (List.range 34).any (fun i => have s := c.area col m (8 * i) 8; !(decide (64 ≤ s) && decide (s < 112)) && s != 255) = false := by
          rw [List.any_eq_false]
          intro i hi
          have := List.mem_range.mp hi
          simp [unused_select hc h18 hm (show col < 16 ∧ 7744 ≤ 8 * i ∧ 8 * i + 8 ≤ 8064 ∨ 16 ≤ col ∧ 8 * i + 8 ≤ 272 by omega)]
        have h2 : (List.range 10).any (fun j => have d := c.area col m (272 + 14 * j) 14; decide (48 ≤ d % 64) || decide (128 ≤ d)) = false := by
          rw [List.any_eq_false]
          intro j hj
          have := List.mem_range.mp hj
          have h0 : c.area col m (272 + 14 * j) 14 = 0 := unused_area hc hcol hm (by omega) (by omega)
          simp [h0]
        rw [h1, h2, unused_anyArea hc hcol hm (lo := 412) (by omega)]; rfl
      rw [List.findSome?_eq_none_iff.mpr]
      · simp [unused_badCells hc, unused_anyFrame hc]
      · exact h
    · have h1 : (List.range 720).any (fun i => decide (c.area 18 0 (16 * i + 13) 2 ≠ 0)) = false := by
        rw [List.any_eq_false]
        intro i hi
        have := List.mem_range.mp hi
        have h0 : c.area 18 0 (16 * i + 13) 2 = 0 := unused_area hc (by omega) (by omega) (by omega) (by omega)
        simp [h0]
      have h2 : (List.range 608).any (fun i => have d := c.area 18 1 (16 * i) 16; decide (2 ^ 14 ≤ d) || badDrive d) = false := by
        rw [List.any_eq_false]
        intro i hi
        have := List.mem_range.mp hi
        have h0 : c.area 18 1 (16 * i) 16 = 0 := unused_area hc (by omega) (by omega) (by omega) (by omega)
        simp [h0, badDrive, bits]
      have h3 : c.anyFrame 18 16 128 = false := by
        unfold Chip.anyFrame
        rw [List.any_eq_false]
        intro e he
        rw [hc] at he
        obtain ⟨k, hk, rfl⟩ := List.mem_map.mp he
        obtain ⟨_, hw⟩ := List.mem_filter.mp hk
        by_cases h : k / 6144 < 18
        · simp; omega
        · have h16 : ¬ k / 6144 < 16 := by omega
          simp [unusedWord, h, h16] at hw
      rw [h1, h2, h3, unused_anyArea hc (col := 18) (r := 0) (lo := 11520) (by omega) (by omega) (by omega),
        unused_anyArea hc (col := 18) (r := 1) (lo := 9728) (by omega) (by omega) (by omega)]
      rfl

/-- The unused array passes every check of R849, whole or in part. -/
theorem fabric_unused (cols : Nat → Bool) : c.fabric cols = none := by
  unfold Chip.fabric
  have h1 : Chip.overMcs cols 1 c.badTerms = none := unused_overMcs 1 cols fun col hcol r hr m _ => by
    simp [Chip.badTerms, unused_steeredTo hc hcol hr]
  have h2 : Chip.overMcs cols 2 c.badPool = none := unused_overMcs 2 cols fun col hcol r hr m _ => by
    simp [Chip.badPool, unused_steeredTo hc hcol hr]
  have h3 : c.badTracks cols = none := by
    unfold Chip.badTracks
    refine firstClash_none _ _ fun x hx => ?_
    obtain ⟨col, hcol, hx⟩ := List.mem_flatMap.mp hx
    obtain ⟨d, hd, rfl⟩ := List.mem_map.mp hx
    exact unused_drives hc (List.mem_range.mp (List.mem_filter.mp hcol).1) d hd
  have h4 : Chip.overMcs cols 4 (fun col r m => decide (24 < c.consumers (.mc col r m))) = none :=
    unused_overMcs 4 cols fun col _ r _ m _ => by simp [unused_consumers hc]
  have h5 : Chip.overMcs cols 5 c.badChain = none := unused_overMcs 5 cols fun col hcol r hr m hm => by
    simp [Chip.badChain, unused_chainIn hc hcol hr hm]
  have h6 : ((List.range 19).filter cols).findSome? c.badReserved = none := by
    rw [List.findSome?_eq_none_iff]
    intro col hcol
    exact unused_badReserved hc (List.mem_range.mp (List.mem_filter.mp hcol).1)
  have h7 : c.badSource cols = none := by
    unfold Chip.badSource
    have : (List.range 720).any (fun i => have x := c.area 18 0 (16 * i) 16
        bit x 15 && (decide (15 < bits x 12 8) || decide (11 < bits x 7 4))) = false := by
      rw [List.any_eq_false]
      intro i hi
      have := List.mem_range.mp hi
      have h0 : c.area 18 0 (16 * i) 16 = 0 := unused_area hc (by omega) (by omega) (by omega) (by omega)
      simp [h0, bit]
    simp [this]
  simp [h1, h2, h3, h4, h5, h6, h7]

end

end Sys2Proof.Machine
end

