-- ==== Sys2Proof/Laws/Memory.lean ====
section
/-! SUPPORT. Every operation on an addressed memory keeps its canonical form, and changes no byte outside what it stores. -/

namespace Sys2Proof.Machine

theorem risingFrom_filter {α : Type} (p : Nat × α → Bool) {b : Nat} {m : Map α} (h : risingFrom b m = true) : risingFrom b (m.filter p) = true := by
  induction m generalizing b with
  | nil => rfl
  | cons e m ih =>
    obtain ⟨k, v⟩ := e
    simp only [risingFrom, Bool.and_eq_true, decide_eq_true_eq] at h
    rw [List.filter_cons]
    split
    · simp only [risingFrom, Bool.and_eq_true, decide_eq_true_eq]
      exact ⟨h.1, ih h.2⟩
    · exact risingFrom_le (ih h.2) (by omega)

/-- IMEM, DMEM and SRAM (R960). -/
theorem setBytes_wf (c : Chip) (a : Nat) (bs : List Byte) (h : Map.wf (0 : Byte) c.mem = true) : Map.wf (0 : Byte) (c.setBytes a bs).mem = true := by
  induction bs generalizing c a with
  | nil => exact h
  | cons b bs ih => exact ih _ _ (mset_wf 0 a b h)

theorem setEcc_mem (c : Chip) (a v : Nat) : (c.setEcc a v).mem = c.mem := rfl

theorem storeBytes_mem (c : Chip) (a : Nat) (bs : List Byte) : (c.storeBytes a bs).mem = (c.setBytes a bs).mem := by
  unfold Chip.storeBytes
  refine forN_same Chip.mem _ _ (fun _ _ _ => ?_) _
  rfl

theorem storeBytes_wf (c : Chip) (a : Nat) (bs : List Byte) (h : Map.wf (0 : Byte) c.mem = true) : Map.wf (0 : Byte) (c.storeBytes a bs).mem = true := by
  rw [storeBytes_mem]; exact setBytes_wf c a bs h

/-- A policy load clears its memories (R817). -/
theorem clearMem_wf (c : Chip) (a n : Nat) (h : Map.wf (0 : Byte) c.mem = true) : Map.wf (0 : Byte) (c.clearMem a n).mem = true := by
  simp only [Map.wf, Bool.and_eq_true, List.all_eq_true] at h ⊢
  exact ⟨risingFrom_filter _ h.1, fun e he => h.2 e (List.mem_filter.mp he).1⟩

/-- The trace memory, written by DQX (R331) and by trace pages (R760). -/
theorem setX_wf (c : Chip) (a : Nat) (bs : List Byte) (h : Map.wf (0 : Byte) c.xmem = true) : Map.wf (0 : Byte) (c.setX a bs).xmem = true := by
  induction bs generalizing c a with
  | nil => exact h
  | cons b bs ih => exact ih _ _ (mset_wf 0 a b h)

@[inherit_doc setX_wf] theorem setXmem_wf (c : Chip) (a : Nat) (bs : List Byte) (h : Map.wf (0 : Byte) c.xmem = true) :
    Map.wf (0 : Byte) (c.setXmem a bs).xmem = true := by
  induction bs generalizing c a with
  | nil => exact h
  | cons b bs ih => exact ih _ _ (mset_wf 0 _ b h)

/-- The cells (R789). -/
theorem setCell_wf (c : Chip) (w v cond : Nat) (h : Map.wf (0xFF : Byte) c.nvc.cells = true) : Map.wf (0xFF : Byte) (c.setCell w v cond).nvc.cells = true := by
  simp only [Chip.setCell]
  refine forN_keeps (fun m => Map.wf (0xFF : Byte) m = true) 8 _ (fun _ _ _ hs => ?_) _ h
  exact mset_wf _ _ _ hs

/-- Bytes outside the stored ones are as before. -/
theorem byte_setBytes_out (c : Chip) (a : Nat) (bs : List Byte) (b : Nat) (h : b < a ∨ a + bs.length ≤ b) : (c.setBytes a bs).byte b = c.byte b := by
  induction bs generalizing c a with
  | nil => rfl
  | cons x bs ih =>
    simp only [List.length_cons] at h
    rw [Chip.setBytes, ih _ _ (by omega)]
    exact mget_mset_ne 0 0 c.mem a x (by omega)

/-- Byte `i` of what is stored is read back. -/
theorem byte_setBytes_in (c : Chip) (a : Nat) (bs : List Byte) (i : Nat) (h : i < bs.length) : (c.setBytes a bs).byte (a + i) = bs[i] := by
  induction bs generalizing c a i with
  | nil => simp at h
  | cons x bs ih =>
    cases i with
    | zero =>
      rw [Chip.setBytes, Nat.add_zero, byte_setBytes_out _ _ _ _ (by omega)]
      simp [Chip.byte]
    | succ i =>
      simp only [List.length_cons] at h
      rw [Chip.setBytes, show a + (i + 1) = a + 1 + i by omega, ih _ _ i (by omega)]
      rfl

end Sys2Proof.Machine
end

