-- ==== Sys2Proof/Laws/Regs.lean ====
section
/-! SUPPORT. Laws of registers: what a field reads after a word or a field is written. -/

namespace Sys2Proof.Machine

/-! ### Bits of numbers -/

theorem bits_lt (n hi lo : Nat) : bits n hi lo < 2 ^ (hi + 1 - lo) := Nat.mod_lt _ (Nat.two_pow_pos _)

theorem testBit_bits (n hi lo i : Nat) : (bits n hi lo).testBit i = (decide (i < hi + 1 - lo) && n.testBit (lo + i)) := by
  simp [bits, Nat.testBit_mod_two_pow, Nat.testBit_div_two_pow, Nat.add_comm]

theorem setBits_eq (n hi lo v : Nat) (h : lo ≤ hi) :
    setBits n hi lo v = (n / 2 ^ (hi + 1) * 2 ^ (hi + 1 - lo) + v % 2 ^ (hi + 1 - lo)) * 2 ^ lo + n % 2 ^ lo := by
  have e : 2 ^ (hi + 1) = 2 ^ (hi + 1 - lo) * 2 ^ lo := by rw [← Nat.pow_add]; congr 1; omega
  simp only [setBits]
  rw [Nat.add_mul, Nat.mul_assoc, ← e]

theorem testBit_setBits (n hi lo v i : Nat) (h : lo ≤ hi) :
    (setBits n hi lo v).testBit i = if lo ≤ i ∧ i ≤ hi then v.testBit (i - lo) else n.testBit i := by
  rw [setBits_eq n hi lo v h, Nat.mul_comm, Nat.testBit_two_pow_mul_add _ (Nat.mod_lt _ (Nat.two_pow_pos _))]
  by_cases h1 : i < lo
  · simp [h1, Nat.testBit_mod_two_pow] <;> omega
  · have h1' : lo ≤ i := by omega
    simp only [h1, if_false, h1', true_and]
    rw [Nat.mul_comm, Nat.testBit_two_pow_mul_add _ (Nat.mod_lt _ (Nat.two_pow_pos _))]
    by_cases h2 : i ≤ hi
    · have : i - lo < hi + 1 - lo := by omega
      simp [h2, this, Nat.testBit_mod_two_pow]
    · have : ¬ i - lo < hi + 1 - lo := by omega
      simp only [this, h2, if_false, Nat.testBit_div_two_pow]
      congr 1; omega

theorem bits_setBits (n hi lo v : Nat) (h : lo ≤ hi) : bits (setBits n hi lo v) hi lo = v % 2 ^ (hi + 1 - lo) := by
  apply Nat.eq_of_testBit_eq
  intro i
  simp only [testBit_bits, testBit_setBits _ _ _ _ _ h, Nat.testBit_mod_two_pow]
  by_cases h1 : i < hi + 1 - lo
  · have h3 : lo ≤ lo + i ∧ lo + i ≤ hi := by omega
    have h4 : lo + i - lo = i := by omega
    simp only [h1, decide_true, Bool.true_and, if_pos h3, h4]
  · simp [h1]

theorem bits_setBits_ne (n hi lo v hi2 lo2 : Nat) (h : lo ≤ hi) (hd : hi2 < lo ∨ hi < lo2) :
    bits (setBits n hi lo v) hi2 lo2 = bits n hi2 lo2 := by
  apply Nat.eq_of_testBit_eq
  intro i
  simp only [testBit_bits, testBit_setBits _ _ _ _ _ h]
  by_cases h1 : i < hi2 + 1 - lo2
  · have : ¬ (lo ≤ lo2 + i ∧ lo2 + i ≤ hi) := by omega
    simp [this]
  · simp [h1]

theorem setBits_lt (n hi lo v w : Nat) (h : lo ≤ hi) (hw : hi < w) (hn : n < 2 ^ w) : setBits n hi lo v < 2 ^ w := by
  apply Nat.lt_pow_two_of_testBit
  intro i hi2
  rw [testBit_setBits _ _ _ _ _ h]
  have : ¬ (lo ≤ i ∧ i ≤ hi) := by omega
  simp only [this, if_false]
  exact Nat.testBit_lt_two_pow (Nat.lt_of_lt_of_le hn (Nat.pow_le_pow_right (by omega) hi2))

theorem ofNat_setBits (w : Word) (hi lo v : Nat) (h : lo ≤ hi) (hw : hi < 32) :
    (BitVec.ofNat 32 (setBits w.toNat hi lo v)).toNat = setBits w.toNat hi lo v := by
  simp only [BitVec.toNat_ofNat]
  exact Nat.mod_eq_of_lt (setBits_lt _ _ _ _ 32 h hw w.isLt)

/-! ### Words -/

theorem reg_setReg (c : Chip) (a b : Nat) (w : Word) : (c.setReg a w).reg b = if b = a then w else c.reg b := by
  unfold Chip.reg Chip.setReg
  by_cases h : b = a
  · subst h; simp
  · simp [h, mget_mset_ne _ _ _ _ _ h]

@[simp] theorem reg_setReg_same (c : Chip) (a : Nat) (w : Word) : (c.setReg a w).reg a = w := by simp [reg_setReg]

theorem reg_setReg_ne (c : Chip) {a b : Nat} (w : Word) (h : b ≠ a) : (c.setReg a w).reg b = c.reg b := by simp [reg_setReg, h]

theorem f_setReg_ne (c : Chip) {a : Nat} (w : Word) (y : Fld) (h : y.addr ≠ a) : (c.setReg a w).f y = c.f y := by
  simp [Chip.f, reg_setReg, h]

/-! ### Fields -/

/-- The field lies in a 32-bit word. -/
abbrev Fld.ok (x : Fld) : Prop := x.lo ≤ x.hi ∧ x.hi < 32

theorem f_put (c : Chip) (x : Fld) (v : Nat) (h : x.ok) : (c.put x v).f x = v % 2 ^ (x.hi + 1 - x.lo) := by
  simp [Chip.f, Chip.put, ofNat_setBits _ _ _ _ h.1 h.2, bits_setBits _ _ _ _ h.1]

theorem f_put_lt (c : Chip) (x : Fld) (v : Nat) (h : x.ok) (hv : v < 2 ^ (x.hi + 1 - x.lo)) : (c.put x v).f x = v := by
  rw [f_put c x v h, Nat.mod_eq_of_lt hv]

theorem f_put_ne (c : Chip) (x : Fld) (v : Nat) (y : Fld) (h : y.addr ≠ x.addr) : (c.put x v).f y = c.f y :=
  f_setReg_ne c _ y h

/-- Another field of the same word, or of another word, keeps its value. -/
theorem f_put_other (c : Chip) (x : Fld) (v : Nat) (y : Fld) (hx : x.ok) (h : y.addr ≠ x.addr ∨ y.hi < x.lo ∨ x.hi < y.lo) :
    (c.put x v).f y = c.f y := by
  by_cases ha : y.addr = x.addr
  · have hd : y.hi < x.lo ∨ x.hi < y.lo := by rcases h with h | h | h <;> first | exact absurd ha h | simp [h]
    simp only [Chip.f, Chip.put, ha, reg_setReg_same, ofNat_setBits _ _ _ _ hx.1 hx.2]
    exact bits_setBits_ne _ _ _ _ _ _ hx.1 hd
  · exact f_put_ne c x v y ha

theorem f_lt (c : Chip) (x : Fld) : c.f x < 2 ^ (x.hi + 1 - x.lo) := bits_lt _ _ _

theorem reg_put_ne (c : Chip) (x : Fld) (v : Nat) {a : Nat} (h : a ≠ x.addr) : (c.put x v).reg a = c.reg a := reg_setReg_ne c _ h

theorem b_putB (c : Chip) (x : Fld) (v : Bool) (h : x.ok) : (c.putB x v).b x = v := by
  have h1 : 1 < 2 ^ (x.hi + 1 - x.lo) := Nat.one_lt_two_pow (by have := h.1; omega)
  cases v
  · simp [Chip.b, Chip.putB, f_put c x _ h, b2n]
  · simp [Chip.b, Chip.putB, f_put c x _ h, b2n, Nat.mod_eq_of_lt h1]

theorem b_put_other (c : Chip) (x : Fld) (v : Nat) (y : Fld) (hx : x.ok) (h : y.addr ≠ x.addr ∨ y.hi < x.lo ∨ x.hi < y.lo) :
    (c.put x v).b y = c.b y := by simp [Chip.b, f_put_other c x v y hx h]

theorem putB_eq (c : Chip) (x : Fld) (v : Bool) : c.putB x v = c.put x (b2n v) := rfl
theorem inc_eq (c : Chip) (x : Fld) : c.inc x = c.put x (satInc (x.hi + 1 - x.lo) (c.f x)) := rfl
theorem incBy_eq (c : Chip) (x : Fld) (k : Nat) : c.incBy x k = c.put x (satAdd (x.hi + 1 - x.lo) (c.f x) k) := rfl
theorem orF_eq (c : Chip) (x : Fld) (m : Nat) : c.orF x m = c.put x (c.f x ||| m) := rfl
theorem putI_eq (c : Chip) (x : Fld) (v : Int) : c.putI x v = c.put x (low (x.hi + 1 - x.lo) v) := rfl

theorem f_inc (c : Chip) (x : Fld) (h : x.ok) : (c.inc x).f x = satInc (x.hi + 1 - x.lo) (c.f x) := by
  rw [inc_eq, f_put_lt c x _ h]
  have := Nat.two_pow_pos (x.hi + 1 - x.lo)
  simp only [satInc]; omega

end Sys2Proof.Machine
end

