-- ==== Sys2Proof/Laws/State.lean ====
section
/-! SUPPORT. One lemma per field per update of the part's record: each update leaves every field but its own. -/

namespace Sys2Proof.Machine

/-! ### `Chip.setReg` -/

@[simp] theorem Chip.setReg_image (c : Chip) (a : Nat) (w : Word) : (c.setReg a w).image = c.image := (rfl)
@[simp] theorem Chip.setReg_beat (c : Chip) (a : Nat) (w : Word) : (c.setReg a w).beat = c.beat := (rfl)
@[simp] theorem Chip.setReg_clock (c : Chip) (a : Nat) (w : Word) : (c.setReg a w).clock = c.clock := (rfl)
@[simp] theorem Chip.setReg_fresh (c : Chip) (a : Nat) (w : Word) : (c.setReg a w).fresh = c.fresh := (rfl)
@[simp] theorem Chip.setReg_driveOff (c : Chip) (a : Nat) (w : Word) : (c.setReg a w).driveOff = c.driveOff := (rfl)
@[simp] theorem Chip.setReg_rl (c : Chip) (a : Nat) (w : Word) : (c.setReg a w).rl = c.rl := (rfl)
@[simp] theorem Chip.setReg_lat (c : Chip) (a : Nat) (w : Word) : (c.setReg a w).lat = c.lat := (rfl)
@[simp] theorem Chip.setReg_pl (c : Chip) (a : Nat) (w : Word) : (c.setReg a w).pl = c.pl := (rfl)
@[simp] theorem Chip.setReg_gl (c : Chip) (a : Nat) (w : Word) : (c.setReg a w).gl = c.gl := (rfl)
@[simp] theorem Chip.setReg_tl (c : Chip) (a : Nat) (w : Word) : (c.setReg a w).tl = c.tl := (rfl)
@[simp] theorem Chip.setReg_mem (c : Chip) (a : Nat) (w : Word) : (c.setReg a w).mem = c.mem := (rfl)
@[simp] theorem Chip.setReg_ecc (c : Chip) (a : Nat) (w : Word) : (c.setReg a w).ecc = c.ecc := (rfl)
@[simp] theorem Chip.setReg_xmem (c : Chip) (a : Nat) (w : Word) : (c.setReg a w).xmem = c.xmem := (rfl)
@[simp] theorem Chip.setReg_hub (c : Chip) (a : Nat) (w : Word) : (c.setReg a w).hub = c.hub := (rfl)
@[simp] theorem Chip.setReg_tw (c : Chip) (a : Nat) (w : Word) : (c.setReg a w).tw = c.tw := (rfl)
@[simp] theorem Chip.setReg_sw (c : Chip) (a : Nat) (w : Word) : (c.setReg a w).sw = c.sw := (rfl)
@[simp] theorem Chip.setReg_pw (c : Chip) (a : Nat) (w : Word) : (c.setReg a w).pw = c.pw := (rfl)
@[simp] theorem Chip.setReg_seq (c : Chip) (a : Nat) (w : Word) : (c.setReg a w).seq = c.seq := (rfl)
@[simp] theorem Chip.setReg_trc (c : Chip) (a : Nat) (w : Word) : (c.setReg a w).trc = c.trc := (rfl)
@[simp] theorem Chip.setReg_skb (c : Chip) (a : Nat) (w : Word) : (c.setReg a w).skb = c.skb := (rfl)
@[simp] theorem Chip.setReg_nvc (c : Chip) (a : Nat) (w : Word) : (c.setReg a w).nvc = c.nvc := (rfl)
@[simp] theorem Chip.setReg_tap (c : Chip) (a : Nat) (w : Word) : (c.setReg a w).tap = c.tap := (rfl)
@[simp] theorem Chip.setReg_lockActs (c : Chip) (a : Nat) (w : Word) : (c.setReg a w).lockActs = c.lockActs := (rfl)
@[simp] theorem Chip.setReg_lockWas (c : Chip) (a : Nat) (w : Word) : (c.setReg a w).lockWas = c.lockWas := (rfl)
@[simp] theorem Chip.setReg_hwBits (c : Chip) (a : Nat) (w : Word) : (c.setReg a w).hwBits = c.hwBits := (rfl)
@[simp] theorem Chip.setReg_resp (c : Chip) (a : Nat) (w : Word) : (c.setReg a w).resp = c.resp := (rfl)
@[simp] theorem Chip.setReg_rail (c : Chip) (a : Nat) (w : Word) (i : Nat) : (c.setReg a w).rail i = c.rail i := (rfl)
@[simp] theorem Chip.setReg_phase (c : Chip) (a : Nat) (w : Word) (i : Nat) : (c.setReg a w).phase i = c.phase i := (rfl)
@[simp] theorem Chip.setReg_comp (c : Chip) (a : Nat) (w : Word) (i j : Nat) : (c.setReg a w).comp i j = c.comp i j := (rfl)
@[simp] theorem Chip.setReg_tmonH (c : Chip) (a : Nat) (w : Word) (i : Nat) : (c.setReg a w).tmonH i = c.tmonH i := (rfl)
@[simp] theorem Chip.setReg_ni (c : Chip) (a : Nat) (w : Word) (i : Nat) : (c.setReg a w).ni i = c.ni i := (rfl)
@[simp] theorem Chip.setReg_tag (c : Chip) (a : Nat) (w : Word) (i j : Nat) : (c.setReg a w).tag i j = c.tag i j := (rfl)
@[simp] theorem Chip.setReg_tile (c : Chip) (a : Nat) (w : Word) (i : Nat) : (c.setReg a w).tile i = c.tile i := (rfl)
@[simp] theorem Chip.setReg_ten (c : Chip) (a : Nat) (w : Word) (i : Nat) : (c.setReg a w).ten i = c.ten i := (rfl)
@[simp] theorem Chip.setReg_portH (c : Chip) (a : Nat) (w : Word) (i : Nat) : (c.setReg a w).portH i = c.portH i := (rfl)
@[simp] theorem Chip.setReg_avs (c : Chip) (a : Nat) (w : Word) (i : Nat) : (c.setReg a w).avs i = c.avs i := (rfl)
@[simp] theorem Chip.setReg_inChan (c : Chip) (a : Nat) (w : Word) (i j : Nat) : (c.setReg a w).inChan i j = c.inChan i j := (rfl)

/-! ### `Chip.put` -/

@[simp] theorem Chip.put_image (c : Chip) (x : Fld) (v : Nat) : (c.put x v).image = c.image := (rfl)
@[simp] theorem Chip.put_beat (c : Chip) (x : Fld) (v : Nat) : (c.put x v).beat = c.beat := (rfl)
@[simp] theorem Chip.put_clock (c : Chip) (x : Fld) (v : Nat) : (c.put x v).clock = c.clock := (rfl)
@[simp] theorem Chip.put_fresh (c : Chip) (x : Fld) (v : Nat) : (c.put x v).fresh = c.fresh := (rfl)
@[simp] theorem Chip.put_driveOff (c : Chip) (x : Fld) (v : Nat) : (c.put x v).driveOff = c.driveOff := (rfl)
@[simp] theorem Chip.put_rl (c : Chip) (x : Fld) (v : Nat) : (c.put x v).rl = c.rl := (rfl)
@[simp] theorem Chip.put_lat (c : Chip) (x : Fld) (v : Nat) : (c.put x v).lat = c.lat := (rfl)
@[simp] theorem Chip.put_pl (c : Chip) (x : Fld) (v : Nat) : (c.put x v).pl = c.pl := (rfl)
@[simp] theorem Chip.put_gl (c : Chip) (x : Fld) (v : Nat) : (c.put x v).gl = c.gl := (rfl)
@[simp] theorem Chip.put_tl (c : Chip) (x : Fld) (v : Nat) : (c.put x v).tl = c.tl := (rfl)
@[simp] theorem Chip.put_mem (c : Chip) (x : Fld) (v : Nat) : (c.put x v).mem = c.mem := (rfl)
@[simp] theorem Chip.put_ecc (c : Chip) (x : Fld) (v : Nat) : (c.put x v).ecc = c.ecc := (rfl)
@[simp] theorem Chip.put_xmem (c : Chip) (x : Fld) (v : Nat) : (c.put x v).xmem = c.xmem := (rfl)
@[simp] theorem Chip.put_hub (c : Chip) (x : Fld) (v : Nat) : (c.put x v).hub = c.hub := (rfl)
@[simp] theorem Chip.put_tw (c : Chip) (x : Fld) (v : Nat) : (c.put x v).tw = c.tw := (rfl)
@[simp] theorem Chip.put_sw (c : Chip) (x : Fld) (v : Nat) : (c.put x v).sw = c.sw := (rfl)
@[simp] theorem Chip.put_pw (c : Chip) (x : Fld) (v : Nat) : (c.put x v).pw = c.pw := (rfl)
@[simp] theorem Chip.put_seq (c : Chip) (x : Fld) (v : Nat) : (c.put x v).seq = c.seq := (rfl)
@[simp] theorem Chip.put_trc (c : Chip) (x : Fld) (v : Nat) : (c.put x v).trc = c.trc := (rfl)
@[simp] theorem Chip.put_skb (c : Chip) (x : Fld) (v : Nat) : (c.put x v).skb = c.skb := (rfl)
@[simp] theorem Chip.put_nvc (c : Chip) (x : Fld) (v : Nat) : (c.put x v).nvc = c.nvc := (rfl)
@[simp] theorem Chip.put_tap (c : Chip) (x : Fld) (v : Nat) : (c.put x v).tap = c.tap := (rfl)
@[simp] theorem Chip.put_lockActs (c : Chip) (x : Fld) (v : Nat) : (c.put x v).lockActs = c.lockActs := (rfl)
@[simp] theorem Chip.put_lockWas (c : Chip) (x : Fld) (v : Nat) : (c.put x v).lockWas = c.lockWas := (rfl)
@[simp] theorem Chip.put_hwBits (c : Chip) (x : Fld) (v : Nat) : (c.put x v).hwBits = c.hwBits := (rfl)
@[simp] theorem Chip.put_resp (c : Chip) (x : Fld) (v : Nat) : (c.put x v).resp = c.resp := (rfl)
@[simp] theorem Chip.put_rail (c : Chip) (x : Fld) (v : Nat) (i : Nat) : (c.put x v).rail i = c.rail i := (rfl)
@[simp] theorem Chip.put_phase (c : Chip) (x : Fld) (v : Nat) (i : Nat) : (c.put x v).phase i = c.phase i := (rfl)
@[simp] theorem Chip.put_comp (c : Chip) (x : Fld) (v : Nat) (i j : Nat) : (c.put x v).comp i j = c.comp i j := (rfl)
@[simp] theorem Chip.put_tmonH (c : Chip) (x : Fld) (v : Nat) (i : Nat) : (c.put x v).tmonH i = c.tmonH i := (rfl)
@[simp] theorem Chip.put_ni (c : Chip) (x : Fld) (v : Nat) (i : Nat) : (c.put x v).ni i = c.ni i := (rfl)
@[simp] theorem Chip.put_tag (c : Chip) (x : Fld) (v : Nat) (i j : Nat) : (c.put x v).tag i j = c.tag i j := (rfl)
@[simp] theorem Chip.put_tile (c : Chip) (x : Fld) (v : Nat) (i : Nat) : (c.put x v).tile i = c.tile i := (rfl)
@[simp] theorem Chip.put_ten (c : Chip) (x : Fld) (v : Nat) (i : Nat) : (c.put x v).ten i = c.ten i := (rfl)
@[simp] theorem Chip.put_portH (c : Chip) (x : Fld) (v : Nat) (i : Nat) : (c.put x v).portH i = c.portH i := (rfl)
@[simp] theorem Chip.put_avs (c : Chip) (x : Fld) (v : Nat) (i : Nat) : (c.put x v).avs i = c.avs i := (rfl)
@[simp] theorem Chip.put_inChan (c : Chip) (x : Fld) (v : Nat) (i j : Nat) : (c.put x v).inChan i j = c.inChan i j := (rfl)

/-! ### `Chip.putB` -/

@[simp] theorem Chip.putB_image (c : Chip) (x : Fld) (v : Bool) : (c.putB x v).image = c.image := (rfl)
@[simp] theorem Chip.putB_beat (c : Chip) (x : Fld) (v : Bool) : (c.putB x v).beat = c.beat := (rfl)
@[simp] theorem Chip.putB_clock (c : Chip) (x : Fld) (v : Bool) : (c.putB x v).clock = c.clock := (rfl)
@[simp] theorem Chip.putB_fresh (c : Chip) (x : Fld) (v : Bool) : (c.putB x v).fresh = c.fresh := (rfl)
@[simp] theorem Chip.putB_driveOff (c : Chip) (x : Fld) (v : Bool) : (c.putB x v).driveOff = c.driveOff := (rfl)
@[simp] theorem Chip.putB_rl (c : Chip) (x : Fld) (v : Bool) : (c.putB x v).rl = c.rl := (rfl)
@[simp] theorem Chip.putB_lat (c : Chip) (x : Fld) (v : Bool) : (c.putB x v).lat = c.lat := (rfl)
@[simp] theorem Chip.putB_pl (c : Chip) (x : Fld) (v : Bool) : (c.putB x v).pl = c.pl := (rfl)
@[simp] theorem Chip.putB_gl (c : Chip) (x : Fld) (v : Bool) : (c.putB x v).gl = c.gl := (rfl)
@[simp] theorem Chip.putB_tl (c : Chip) (x : Fld) (v : Bool) : (c.putB x v).tl = c.tl := (rfl)
@[simp] theorem Chip.putB_mem (c : Chip) (x : Fld) (v : Bool) : (c.putB x v).mem = c.mem := (rfl)
@[simp] theorem Chip.putB_ecc (c : Chip) (x : Fld) (v : Bool) : (c.putB x v).ecc = c.ecc := (rfl)
@[simp] theorem Chip.putB_xmem (c : Chip) (x : Fld) (v : Bool) : (c.putB x v).xmem = c.xmem := (rfl)
@[simp] theorem Chip.putB_hub (c : Chip) (x : Fld) (v : Bool) : (c.putB x v).hub = c.hub := (rfl)
@[simp] theorem Chip.putB_tw (c : Chip) (x : Fld) (v : Bool) : (c.putB x v).tw = c.tw := (rfl)
@[simp] theorem Chip.putB_sw (c : Chip) (x : Fld) (v : Bool) : (c.putB x v).sw = c.sw := (rfl)
@[simp] theorem Chip.putB_pw (c : Chip) (x : Fld) (v : Bool) : (c.putB x v).pw = c.pw := (rfl)
@[simp] theorem Chip.putB_seq (c : Chip) (x : Fld) (v : Bool) : (c.putB x v).seq = c.seq := (rfl)
@[simp] theorem Chip.putB_trc (c : Chip) (x : Fld) (v : Bool) : (c.putB x v).trc = c.trc := (rfl)
@[simp] theorem Chip.putB_skb (c : Chip) (x : Fld) (v : Bool) : (c.putB x v).skb = c.skb := (rfl)
@[simp] theorem Chip.putB_nvc (c : Chip) (x : Fld) (v : Bool) : (c.putB x v).nvc = c.nvc := (rfl)
@[simp] theorem Chip.putB_tap (c : Chip) (x : Fld) (v : Bool) : (c.putB x v).tap = c.tap := (rfl)
@[simp] theorem Chip.putB_lockActs (c : Chip) (x : Fld) (v : Bool) : (c.putB x v).lockActs = c.lockActs := (rfl)
@[simp] theorem Chip.putB_lockWas (c : Chip) (x : Fld) (v : Bool) : (c.putB x v).lockWas = c.lockWas := (rfl)
@[simp] theorem Chip.putB_hwBits (c : Chip) (x : Fld) (v : Bool) : (c.putB x v).hwBits = c.hwBits := (rfl)
@[simp] theorem Chip.putB_resp (c : Chip) (x : Fld) (v : Bool) : (c.putB x v).resp = c.resp := (rfl)
@[simp] theorem Chip.putB_rail (c : Chip) (x : Fld) (v : Bool) (i : Nat) : (c.putB x v).rail i = c.rail i := (rfl)
@[simp] theorem Chip.putB_phase (c : Chip) (x : Fld) (v : Bool) (i : Nat) : (c.putB x v).phase i = c.phase i := (rfl)
@[simp] theorem Chip.putB_comp (c : Chip) (x : Fld) (v : Bool) (i j : Nat) : (c.putB x v).comp i j = c.comp i j := (rfl)
@[simp] theorem Chip.putB_tmonH (c : Chip) (x : Fld) (v : Bool) (i : Nat) : (c.putB x v).tmonH i = c.tmonH i := (rfl)
@[simp] theorem Chip.putB_ni (c : Chip) (x : Fld) (v : Bool) (i : Nat) : (c.putB x v).ni i = c.ni i := (rfl)
@[simp] theorem Chip.putB_tag (c : Chip) (x : Fld) (v : Bool) (i j : Nat) : (c.putB x v).tag i j = c.tag i j := (rfl)
@[simp] theorem Chip.putB_tile (c : Chip) (x : Fld) (v : Bool) (i : Nat) : (c.putB x v).tile i = c.tile i := (rfl)
@[simp] theorem Chip.putB_ten (c : Chip) (x : Fld) (v : Bool) (i : Nat) : (c.putB x v).ten i = c.ten i := (rfl)
@[simp] theorem Chip.putB_portH (c : Chip) (x : Fld) (v : Bool) (i : Nat) : (c.putB x v).portH i = c.portH i := (rfl)
@[simp] theorem Chip.putB_avs (c : Chip) (x : Fld) (v : Bool) (i : Nat) : (c.putB x v).avs i = c.avs i := (rfl)
@[simp] theorem Chip.putB_inChan (c : Chip) (x : Fld) (v : Bool) (i j : Nat) : (c.putB x v).inChan i j = c.inChan i j := (rfl)

/-! ### `Chip.putI` -/

@[simp] theorem Chip.putI_image (c : Chip) (x : Fld) (v : Int) : (c.putI x v).image = c.image := (rfl)
@[simp] theorem Chip.putI_beat (c : Chip) (x : Fld) (v : Int) : (c.putI x v).beat = c.beat := (rfl)
@[simp] theorem Chip.putI_clock (c : Chip) (x : Fld) (v : Int) : (c.putI x v).clock = c.clock := (rfl)
@[simp] theorem Chip.putI_fresh (c : Chip) (x : Fld) (v : Int) : (c.putI x v).fresh = c.fresh := (rfl)
@[simp] theorem Chip.putI_driveOff (c : Chip) (x : Fld) (v : Int) : (c.putI x v).driveOff = c.driveOff := (rfl)
@[simp] theorem Chip.putI_rl (c : Chip) (x : Fld) (v : Int) : (c.putI x v).rl = c.rl := (rfl)
@[simp] theorem Chip.putI_lat (c : Chip) (x : Fld) (v : Int) : (c.putI x v).lat = c.lat := (rfl)
@[simp] theorem Chip.putI_pl (c : Chip) (x : Fld) (v : Int) : (c.putI x v).pl = c.pl := (rfl)
@[simp] theorem Chip.putI_gl (c : Chip) (x : Fld) (v : Int) : (c.putI x v).gl = c.gl := (rfl)
@[simp] theorem Chip.putI_tl (c : Chip) (x : Fld) (v : Int) : (c.putI x v).tl = c.tl := (rfl)
@[simp] theorem Chip.putI_mem (c : Chip) (x : Fld) (v : Int) : (c.putI x v).mem = c.mem := (rfl)
@[simp] theorem Chip.putI_ecc (c : Chip) (x : Fld) (v : Int) : (c.putI x v).ecc = c.ecc := (rfl)
@[simp] theorem Chip.putI_xmem (c : Chip) (x : Fld) (v : Int) : (c.putI x v).xmem = c.xmem := (rfl)
@[simp] theorem Chip.putI_hub (c : Chip) (x : Fld) (v : Int) : (c.putI x v).hub = c.hub := (rfl)
@[simp] theorem Chip.putI_tw (c : Chip) (x : Fld) (v : Int) : (c.putI x v).tw = c.tw := (rfl)
@[simp] theorem Chip.putI_sw (c : Chip) (x : Fld) (v : Int) : (c.putI x v).sw = c.sw := (rfl)
@[simp] theorem Chip.putI_pw (c : Chip) (x : Fld) (v : Int) : (c.putI x v).pw = c.pw := (rfl)
@[simp] theorem Chip.putI_seq (c : Chip) (x : Fld) (v : Int) : (c.putI x v).seq = c.seq := (rfl)
@[simp] theorem Chip.putI_trc (c : Chip) (x : Fld) (v : Int) : (c.putI x v).trc = c.trc := (rfl)
@[simp] theorem Chip.putI_skb (c : Chip) (x : Fld) (v : Int) : (c.putI x v).skb = c.skb := (rfl)
@[simp] theorem Chip.putI_nvc (c : Chip) (x : Fld) (v : Int) : (c.putI x v).nvc = c.nvc := (rfl)
@[simp] theorem Chip.putI_tap (c : Chip) (x : Fld) (v : Int) : (c.putI x v).tap = c.tap := (rfl)
@[simp] theorem Chip.putI_lockActs (c : Chip) (x : Fld) (v : Int) : (c.putI x v).lockActs = c.lockActs := (rfl)
@[simp] theorem Chip.putI_lockWas (c : Chip) (x : Fld) (v : Int) : (c.putI x v).lockWas = c.lockWas := (rfl)
@[simp] theorem Chip.putI_hwBits (c : Chip) (x : Fld) (v : Int) : (c.putI x v).hwBits = c.hwBits := (rfl)
@[simp] theorem Chip.putI_resp (c : Chip) (x : Fld) (v : Int) : (c.putI x v).resp = c.resp := (rfl)
@[simp] theorem Chip.putI_rail (c : Chip) (x : Fld) (v : Int) (i : Nat) : (c.putI x v).rail i = c.rail i := (rfl)
@[simp] theorem Chip.putI_phase (c : Chip) (x : Fld) (v : Int) (i : Nat) : (c.putI x v).phase i = c.phase i := (rfl)
@[simp] theorem Chip.putI_comp (c : Chip) (x : Fld) (v : Int) (i j : Nat) : (c.putI x v).comp i j = c.comp i j := (rfl)
@[simp] theorem Chip.putI_tmonH (c : Chip) (x : Fld) (v : Int) (i : Nat) : (c.putI x v).tmonH i = c.tmonH i := (rfl)
@[simp] theorem Chip.putI_ni (c : Chip) (x : Fld) (v : Int) (i : Nat) : (c.putI x v).ni i = c.ni i := (rfl)
@[simp] theorem Chip.putI_tag (c : Chip) (x : Fld) (v : Int) (i j : Nat) : (c.putI x v).tag i j = c.tag i j := (rfl)
@[simp] theorem Chip.putI_tile (c : Chip) (x : Fld) (v : Int) (i : Nat) : (c.putI x v).tile i = c.tile i := (rfl)
@[simp] theorem Chip.putI_ten (c : Chip) (x : Fld) (v : Int) (i : Nat) : (c.putI x v).ten i = c.ten i := (rfl)
@[simp] theorem Chip.putI_portH (c : Chip) (x : Fld) (v : Int) (i : Nat) : (c.putI x v).portH i = c.portH i := (rfl)
@[simp] theorem Chip.putI_avs (c : Chip) (x : Fld) (v : Int) (i : Nat) : (c.putI x v).avs i = c.avs i := (rfl)
@[simp] theorem Chip.putI_inChan (c : Chip) (x : Fld) (v : Int) (i j : Nat) : (c.putI x v).inChan i j = c.inChan i j := (rfl)

/-! ### `Chip.inc` -/

@[simp] theorem Chip.inc_image (c : Chip) (x : Fld) : (c.inc x).image = c.image := (rfl)
@[simp] theorem Chip.inc_beat (c : Chip) (x : Fld) : (c.inc x).beat = c.beat := (rfl)
@[simp] theorem Chip.inc_clock (c : Chip) (x : Fld) : (c.inc x).clock = c.clock := (rfl)
@[simp] theorem Chip.inc_fresh (c : Chip) (x : Fld) : (c.inc x).fresh = c.fresh := (rfl)
@[simp] theorem Chip.inc_driveOff (c : Chip) (x : Fld) : (c.inc x).driveOff = c.driveOff := (rfl)
@[simp] theorem Chip.inc_rl (c : Chip) (x : Fld) : (c.inc x).rl = c.rl := (rfl)
@[simp] theorem Chip.inc_lat (c : Chip) (x : Fld) : (c.inc x).lat = c.lat := (rfl)
@[simp] theorem Chip.inc_pl (c : Chip) (x : Fld) : (c.inc x).pl = c.pl := (rfl)
@[simp] theorem Chip.inc_gl (c : Chip) (x : Fld) : (c.inc x).gl = c.gl := (rfl)
@[simp] theorem Chip.inc_tl (c : Chip) (x : Fld) : (c.inc x).tl = c.tl := (rfl)
@[simp] theorem Chip.inc_mem (c : Chip) (x : Fld) : (c.inc x).mem = c.mem := (rfl)
@[simp] theorem Chip.inc_ecc (c : Chip) (x : Fld) : (c.inc x).ecc = c.ecc := (rfl)
@[simp] theorem Chip.inc_xmem (c : Chip) (x : Fld) : (c.inc x).xmem = c.xmem := (rfl)
@[simp] theorem Chip.inc_hub (c : Chip) (x : Fld) : (c.inc x).hub = c.hub := (rfl)
@[simp] theorem Chip.inc_tw (c : Chip) (x : Fld) : (c.inc x).tw = c.tw := (rfl)
@[simp] theorem Chip.inc_sw (c : Chip) (x : Fld) : (c.inc x).sw = c.sw := (rfl)
@[simp] theorem Chip.inc_pw (c : Chip) (x : Fld) : (c.inc x).pw = c.pw := (rfl)
@[simp] theorem Chip.inc_seq (c : Chip) (x : Fld) : (c.inc x).seq = c.seq := (rfl)
@[simp] theorem Chip.inc_trc (c : Chip) (x : Fld) : (c.inc x).trc = c.trc := (rfl)
@[simp] theorem Chip.inc_skb (c : Chip) (x : Fld) : (c.inc x).skb = c.skb := (rfl)
@[simp] theorem Chip.inc_nvc (c : Chip) (x : Fld) : (c.inc x).nvc = c.nvc := (rfl)
@[simp] theorem Chip.inc_tap (c : Chip) (x : Fld) : (c.inc x).tap = c.tap := (rfl)
@[simp] theorem Chip.inc_lockActs (c : Chip) (x : Fld) : (c.inc x).lockActs = c.lockActs := (rfl)
@[simp] theorem Chip.inc_lockWas (c : Chip) (x : Fld) : (c.inc x).lockWas = c.lockWas := (rfl)
@[simp] theorem Chip.inc_hwBits (c : Chip) (x : Fld) : (c.inc x).hwBits = c.hwBits := (rfl)
@[simp] theorem Chip.inc_resp (c : Chip) (x : Fld) : (c.inc x).resp = c.resp := (rfl)
@[simp] theorem Chip.inc_rail (c : Chip) (x : Fld) (i : Nat) : (c.inc x).rail i = c.rail i := (rfl)
@[simp] theorem Chip.inc_phase (c : Chip) (x : Fld) (i : Nat) : (c.inc x).phase i = c.phase i := (rfl)
@[simp] theorem Chip.inc_comp (c : Chip) (x : Fld) (i j : Nat) : (c.inc x).comp i j = c.comp i j := (rfl)
@[simp] theorem Chip.inc_tmonH (c : Chip) (x : Fld) (i : Nat) : (c.inc x).tmonH i = c.tmonH i := (rfl)
@[simp] theorem Chip.inc_ni (c : Chip) (x : Fld) (i : Nat) : (c.inc x).ni i = c.ni i := (rfl)
@[simp] theorem Chip.inc_tag (c : Chip) (x : Fld) (i j : Nat) : (c.inc x).tag i j = c.tag i j := (rfl)
@[simp] theorem Chip.inc_tile (c : Chip) (x : Fld) (i : Nat) : (c.inc x).tile i = c.tile i := (rfl)
@[simp] theorem Chip.inc_ten (c : Chip) (x : Fld) (i : Nat) : (c.inc x).ten i = c.ten i := (rfl)
@[simp] theorem Chip.inc_portH (c : Chip) (x : Fld) (i : Nat) : (c.inc x).portH i = c.portH i := (rfl)
@[simp] theorem Chip.inc_avs (c : Chip) (x : Fld) (i : Nat) : (c.inc x).avs i = c.avs i := (rfl)
@[simp] theorem Chip.inc_inChan (c : Chip) (x : Fld) (i j : Nat) : (c.inc x).inChan i j = c.inChan i j := (rfl)

/-! ### `Chip.setRail` -/

@[simp] theorem Chip.setRail_regs (c : Chip) (r : Nat) (h : RailH) : (c.setRail r h).regs = c.regs := (rfl)
@[simp] theorem Chip.setRail_image (c : Chip) (r : Nat) (h : RailH) : (c.setRail r h).image = c.image := (rfl)
@[simp] theorem Chip.setRail_beat (c : Chip) (r : Nat) (h : RailH) : (c.setRail r h).beat = c.beat := (rfl)
@[simp] theorem Chip.setRail_clock (c : Chip) (r : Nat) (h : RailH) : (c.setRail r h).clock = c.clock := (rfl)
@[simp] theorem Chip.setRail_fresh (c : Chip) (r : Nat) (h : RailH) : (c.setRail r h).fresh = c.fresh := (rfl)
@[simp] theorem Chip.setRail_driveOff (c : Chip) (r : Nat) (h : RailH) : (c.setRail r h).driveOff = c.driveOff := (rfl)
@[simp] theorem Chip.setRail_lat (c : Chip) (r : Nat) (h : RailH) : (c.setRail r h).lat = c.lat := (rfl)
@[simp] theorem Chip.setRail_pl (c : Chip) (r : Nat) (h : RailH) : (c.setRail r h).pl = c.pl := (rfl)
@[simp] theorem Chip.setRail_gl (c : Chip) (r : Nat) (h : RailH) : (c.setRail r h).gl = c.gl := (rfl)
@[simp] theorem Chip.setRail_tl (c : Chip) (r : Nat) (h : RailH) : (c.setRail r h).tl = c.tl := (rfl)
@[simp] theorem Chip.setRail_mem (c : Chip) (r : Nat) (h : RailH) : (c.setRail r h).mem = c.mem := (rfl)
@[simp] theorem Chip.setRail_ecc (c : Chip) (r : Nat) (h : RailH) : (c.setRail r h).ecc = c.ecc := (rfl)
@[simp] theorem Chip.setRail_xmem (c : Chip) (r : Nat) (h : RailH) : (c.setRail r h).xmem = c.xmem := (rfl)
@[simp] theorem Chip.setRail_hub (c : Chip) (r : Nat) (h : RailH) : (c.setRail r h).hub = c.hub := (rfl)
@[simp] theorem Chip.setRail_tw (c : Chip) (r : Nat) (h : RailH) : (c.setRail r h).tw = c.tw := (rfl)
@[simp] theorem Chip.setRail_sw (c : Chip) (r : Nat) (h : RailH) : (c.setRail r h).sw = c.sw := (rfl)
@[simp] theorem Chip.setRail_pw (c : Chip) (r : Nat) (h : RailH) : (c.setRail r h).pw = c.pw := (rfl)
@[simp] theorem Chip.setRail_seq (c : Chip) (r : Nat) (h : RailH) : (c.setRail r h).seq = c.seq := (rfl)
@[simp] theorem Chip.setRail_trc (c : Chip) (r : Nat) (h : RailH) : (c.setRail r h).trc = c.trc := (rfl)
@[simp] theorem Chip.setRail_skb (c : Chip) (r : Nat) (h : RailH) : (c.setRail r h).skb = c.skb := (rfl)
@[simp] theorem Chip.setRail_nvc (c : Chip) (r : Nat) (h : RailH) : (c.setRail r h).nvc = c.nvc := (rfl)
@[simp] theorem Chip.setRail_tap (c : Chip) (r : Nat) (h : RailH) : (c.setRail r h).tap = c.tap := (rfl)
@[simp] theorem Chip.setRail_lockActs (c : Chip) (r : Nat) (h : RailH) : (c.setRail r h).lockActs = c.lockActs := (rfl)
@[simp] theorem Chip.setRail_lockWas (c : Chip) (r : Nat) (h : RailH) : (c.setRail r h).lockWas = c.lockWas := (rfl)
@[simp] theorem Chip.setRail_hwBits (c : Chip) (r : Nat) (h : RailH) : (c.setRail r h).hwBits = c.hwBits := (rfl)
@[simp] theorem Chip.setRail_resp (c : Chip) (r : Nat) (h : RailH) : (c.setRail r h).resp = c.resp := (rfl)
@[simp] theorem Chip.setRail_reg (c : Chip) (r : Nat) (h : RailH) (k : Nat) : (c.setRail r h).reg k = c.reg k := (rfl)
@[simp] theorem Chip.setRail_f (c : Chip) (r : Nat) (h : RailH) (y : Fld) : (c.setRail r h).f y = c.f y := (rfl)
@[simp] theorem Chip.setRail_b (c : Chip) (r : Nat) (h : RailH) (y : Fld) : (c.setRail r h).b y = c.b y := (rfl)
@[simp] theorem Chip.setRail_fi (c : Chip) (r : Nat) (h : RailH) (y : Fld) : (c.setRail r h).fi y = c.fi y := (rfl)
@[simp] theorem Chip.setRail_phase (c : Chip) (r : Nat) (h : RailH) (i : Nat) : (c.setRail r h).phase i = c.phase i := (rfl)
@[simp] theorem Chip.setRail_comp (c : Chip) (r : Nat) (h : RailH) (i j : Nat) : (c.setRail r h).comp i j = c.comp i j := (rfl)
@[simp] theorem Chip.setRail_tmonH (c : Chip) (r : Nat) (h : RailH) (i : Nat) : (c.setRail r h).tmonH i = c.tmonH i := (rfl)
@[simp] theorem Chip.setRail_ni (c : Chip) (r : Nat) (h : RailH) (i : Nat) : (c.setRail r h).ni i = c.ni i := (rfl)
@[simp] theorem Chip.setRail_tag (c : Chip) (r : Nat) (h : RailH) (i j : Nat) : (c.setRail r h).tag i j = c.tag i j := (rfl)
@[simp] theorem Chip.setRail_tile (c : Chip) (r : Nat) (h : RailH) (i : Nat) : (c.setRail r h).tile i = c.tile i := (rfl)
@[simp] theorem Chip.setRail_ten (c : Chip) (r : Nat) (h : RailH) (i : Nat) : (c.setRail r h).ten i = c.ten i := (rfl)
@[simp] theorem Chip.setRail_portH (c : Chip) (r : Nat) (h : RailH) (i : Nat) : (c.setRail r h).portH i = c.portH i := (rfl)
@[simp] theorem Chip.setRail_avs (c : Chip) (r : Nat) (h : RailH) (i : Nat) : (c.setRail r h).avs i = c.avs i := (rfl)
@[simp] theorem Chip.setRail_inChan (c : Chip) (r : Nat) (h : RailH) (i j : Nat) : (c.setRail r h).inChan i j = c.inChan i j := (rfl)

/-! ### `Chip.setPhase` -/

@[simp] theorem Chip.setPhase_regs (c : Chip) (p : Nat) (h : PhaseH) : (c.setPhase p h).regs = c.regs := (rfl)
@[simp] theorem Chip.setPhase_image (c : Chip) (p : Nat) (h : PhaseH) : (c.setPhase p h).image = c.image := (rfl)
@[simp] theorem Chip.setPhase_beat (c : Chip) (p : Nat) (h : PhaseH) : (c.setPhase p h).beat = c.beat := (rfl)
@[simp] theorem Chip.setPhase_clock (c : Chip) (p : Nat) (h : PhaseH) : (c.setPhase p h).clock = c.clock := (rfl)
@[simp] theorem Chip.setPhase_fresh (c : Chip) (p : Nat) (h : PhaseH) : (c.setPhase p h).fresh = c.fresh := (rfl)
@[simp] theorem Chip.setPhase_driveOff (c : Chip) (p : Nat) (h : PhaseH) : (c.setPhase p h).driveOff = c.driveOff := (rfl)
@[simp] theorem Chip.setPhase_lat (c : Chip) (p : Nat) (h : PhaseH) : (c.setPhase p h).lat = c.lat := (rfl)
@[simp] theorem Chip.setPhase_pl (c : Chip) (p : Nat) (h : PhaseH) : (c.setPhase p h).pl = c.pl := (rfl)
@[simp] theorem Chip.setPhase_gl (c : Chip) (p : Nat) (h : PhaseH) : (c.setPhase p h).gl = c.gl := (rfl)
@[simp] theorem Chip.setPhase_tl (c : Chip) (p : Nat) (h : PhaseH) : (c.setPhase p h).tl = c.tl := (rfl)
@[simp] theorem Chip.setPhase_mem (c : Chip) (p : Nat) (h : PhaseH) : (c.setPhase p h).mem = c.mem := (rfl)
@[simp] theorem Chip.setPhase_ecc (c : Chip) (p : Nat) (h : PhaseH) : (c.setPhase p h).ecc = c.ecc := (rfl)
@[simp] theorem Chip.setPhase_xmem (c : Chip) (p : Nat) (h : PhaseH) : (c.setPhase p h).xmem = c.xmem := (rfl)
@[simp] theorem Chip.setPhase_hub (c : Chip) (p : Nat) (h : PhaseH) : (c.setPhase p h).hub = c.hub := (rfl)
@[simp] theorem Chip.setPhase_tw (c : Chip) (p : Nat) (h : PhaseH) : (c.setPhase p h).tw = c.tw := (rfl)
@[simp] theorem Chip.setPhase_sw (c : Chip) (p : Nat) (h : PhaseH) : (c.setPhase p h).sw = c.sw := (rfl)
@[simp] theorem Chip.setPhase_pw (c : Chip) (p : Nat) (h : PhaseH) : (c.setPhase p h).pw = c.pw := (rfl)
@[simp] theorem Chip.setPhase_seq (c : Chip) (p : Nat) (h : PhaseH) : (c.setPhase p h).seq = c.seq := (rfl)
@[simp] theorem Chip.setPhase_trc (c : Chip) (p : Nat) (h : PhaseH) : (c.setPhase p h).trc = c.trc := (rfl)
@[simp] theorem Chip.setPhase_skb (c : Chip) (p : Nat) (h : PhaseH) : (c.setPhase p h).skb = c.skb := (rfl)
@[simp] theorem Chip.setPhase_nvc (c : Chip) (p : Nat) (h : PhaseH) : (c.setPhase p h).nvc = c.nvc := (rfl)
@[simp] theorem Chip.setPhase_tap (c : Chip) (p : Nat) (h : PhaseH) : (c.setPhase p h).tap = c.tap := (rfl)
@[simp] theorem Chip.setPhase_lockActs (c : Chip) (p : Nat) (h : PhaseH) : (c.setPhase p h).lockActs = c.lockActs := (rfl)
@[simp] theorem Chip.setPhase_lockWas (c : Chip) (p : Nat) (h : PhaseH) : (c.setPhase p h).lockWas = c.lockWas := (rfl)
@[simp] theorem Chip.setPhase_hwBits (c : Chip) (p : Nat) (h : PhaseH) : (c.setPhase p h).hwBits = c.hwBits := (rfl)
@[simp] theorem Chip.setPhase_resp (c : Chip) (p : Nat) (h : PhaseH) : (c.setPhase p h).resp = c.resp := (rfl)
@[simp] theorem Chip.setPhase_reg (c : Chip) (p : Nat) (h : PhaseH) (k : Nat) : (c.setPhase p h).reg k = c.reg k := (rfl)
@[simp] theorem Chip.setPhase_f (c : Chip) (p : Nat) (h : PhaseH) (y : Fld) : (c.setPhase p h).f y = c.f y := (rfl)
@[simp] theorem Chip.setPhase_b (c : Chip) (p : Nat) (h : PhaseH) (y : Fld) : (c.setPhase p h).b y = c.b y := (rfl)
@[simp] theorem Chip.setPhase_fi (c : Chip) (p : Nat) (h : PhaseH) (y : Fld) : (c.setPhase p h).fi y = c.fi y := (rfl)
@[simp] theorem Chip.setPhase_rail (c : Chip) (p : Nat) (h : PhaseH) (i : Nat) : (c.setPhase p h).rail i = c.rail i := (rfl)
@[simp] theorem Chip.setPhase_comp (c : Chip) (p : Nat) (h : PhaseH) (i j : Nat) : (c.setPhase p h).comp i j = c.comp i j := (rfl)
@[simp] theorem Chip.setPhase_tmonH (c : Chip) (p : Nat) (h : PhaseH) (i : Nat) : (c.setPhase p h).tmonH i = c.tmonH i := (rfl)
@[simp] theorem Chip.setPhase_ni (c : Chip) (p : Nat) (h : PhaseH) (i : Nat) : (c.setPhase p h).ni i = c.ni i := (rfl)
@[simp] theorem Chip.setPhase_tag (c : Chip) (p : Nat) (h : PhaseH) (i j : Nat) : (c.setPhase p h).tag i j = c.tag i j := (rfl)
@[simp] theorem Chip.setPhase_tile (c : Chip) (p : Nat) (h : PhaseH) (i : Nat) : (c.setPhase p h).tile i = c.tile i := (rfl)
@[simp] theorem Chip.setPhase_ten (c : Chip) (p : Nat) (h : PhaseH) (i : Nat) : (c.setPhase p h).ten i = c.ten i := (rfl)
@[simp] theorem Chip.setPhase_portH (c : Chip) (p : Nat) (h : PhaseH) (i : Nat) : (c.setPhase p h).portH i = c.portH i := (rfl)
@[simp] theorem Chip.setPhase_avs (c : Chip) (p : Nat) (h : PhaseH) (i : Nat) : (c.setPhase p h).avs i = c.avs i := (rfl)
@[simp] theorem Chip.setPhase_inChan (c : Chip) (p : Nat) (h : PhaseH) (i j : Nat) : (c.setPhase p h).inChan i j = c.inChan i j := (rfl)

/-! ### `Chip.setComp` -/

@[simp] theorem Chip.setComp_regs (c : Chip) (r k : Nat) (h : Comp) : (c.setComp r k h).regs = c.regs := (rfl)
@[simp] theorem Chip.setComp_image (c : Chip) (r k : Nat) (h : Comp) : (c.setComp r k h).image = c.image := (rfl)
@[simp] theorem Chip.setComp_beat (c : Chip) (r k : Nat) (h : Comp) : (c.setComp r k h).beat = c.beat := (rfl)
@[simp] theorem Chip.setComp_clock (c : Chip) (r k : Nat) (h : Comp) : (c.setComp r k h).clock = c.clock := (rfl)
@[simp] theorem Chip.setComp_fresh (c : Chip) (r k : Nat) (h : Comp) : (c.setComp r k h).fresh = c.fresh := (rfl)
@[simp] theorem Chip.setComp_driveOff (c : Chip) (r k : Nat) (h : Comp) : (c.setComp r k h).driveOff = c.driveOff := (rfl)
@[simp] theorem Chip.setComp_lat (c : Chip) (r k : Nat) (h : Comp) : (c.setComp r k h).lat = c.lat := (rfl)
@[simp] theorem Chip.setComp_pl (c : Chip) (r k : Nat) (h : Comp) : (c.setComp r k h).pl = c.pl := (rfl)
@[simp] theorem Chip.setComp_gl (c : Chip) (r k : Nat) (h : Comp) : (c.setComp r k h).gl = c.gl := (rfl)
@[simp] theorem Chip.setComp_tl (c : Chip) (r k : Nat) (h : Comp) : (c.setComp r k h).tl = c.tl := (rfl)
@[simp] theorem Chip.setComp_mem (c : Chip) (r k : Nat) (h : Comp) : (c.setComp r k h).mem = c.mem := (rfl)
@[simp] theorem Chip.setComp_ecc (c : Chip) (r k : Nat) (h : Comp) : (c.setComp r k h).ecc = c.ecc := (rfl)
@[simp] theorem Chip.setComp_xmem (c : Chip) (r k : Nat) (h : Comp) : (c.setComp r k h).xmem = c.xmem := (rfl)
@[simp] theorem Chip.setComp_hub (c : Chip) (r k : Nat) (h : Comp) : (c.setComp r k h).hub = c.hub := (rfl)
@[simp] theorem Chip.setComp_tw (c : Chip) (r k : Nat) (h : Comp) : (c.setComp r k h).tw = c.tw := (rfl)
@[simp] theorem Chip.setComp_sw (c : Chip) (r k : Nat) (h : Comp) : (c.setComp r k h).sw = c.sw := (rfl)
@[simp] theorem Chip.setComp_pw (c : Chip) (r k : Nat) (h : Comp) : (c.setComp r k h).pw = c.pw := (rfl)
@[simp] theorem Chip.setComp_seq (c : Chip) (r k : Nat) (h : Comp) : (c.setComp r k h).seq = c.seq := (rfl)
@[simp] theorem Chip.setComp_trc (c : Chip) (r k : Nat) (h : Comp) : (c.setComp r k h).trc = c.trc := (rfl)
@[simp] theorem Chip.setComp_skb (c : Chip) (r k : Nat) (h : Comp) : (c.setComp r k h).skb = c.skb := (rfl)
@[simp] theorem Chip.setComp_nvc (c : Chip) (r k : Nat) (h : Comp) : (c.setComp r k h).nvc = c.nvc := (rfl)
@[simp] theorem Chip.setComp_tap (c : Chip) (r k : Nat) (h : Comp) : (c.setComp r k h).tap = c.tap := (rfl)
@[simp] theorem Chip.setComp_lockActs (c : Chip) (r k : Nat) (h : Comp) : (c.setComp r k h).lockActs = c.lockActs := (rfl)
@[simp] theorem Chip.setComp_lockWas (c : Chip) (r k : Nat) (h : Comp) : (c.setComp r k h).lockWas = c.lockWas := (rfl)
@[simp] theorem Chip.setComp_hwBits (c : Chip) (r k : Nat) (h : Comp) : (c.setComp r k h).hwBits = c.hwBits := (rfl)
@[simp] theorem Chip.setComp_resp (c : Chip) (r k : Nat) (h : Comp) : (c.setComp r k h).resp = c.resp := (rfl)
@[simp] theorem Chip.setComp_reg (c : Chip) (r j : Nat) (h : Comp) (k : Nat) : (c.setComp r j h).reg k = c.reg k := (rfl)
@[simp] theorem Chip.setComp_f (c : Chip) (r j : Nat) (h : Comp) (y : Fld) : (c.setComp r j h).f y = c.f y := (rfl)
@[simp] theorem Chip.setComp_b (c : Chip) (r j : Nat) (h : Comp) (y : Fld) : (c.setComp r j h).b y = c.b y := (rfl)
@[simp] theorem Chip.setComp_fi (c : Chip) (r j : Nat) (h : Comp) (y : Fld) : (c.setComp r j h).fi y = c.fi y := (rfl)
@[simp] theorem Chip.setComp_rail (c : Chip) (r k : Nat) (h : Comp) (i : Nat) : (c.setComp r k h).rail i = c.rail i := (rfl)
@[simp] theorem Chip.setComp_phase (c : Chip) (r k : Nat) (h : Comp) (i : Nat) : (c.setComp r k h).phase i = c.phase i := (rfl)
@[simp] theorem Chip.setComp_tmonH (c : Chip) (r k : Nat) (h : Comp) (i : Nat) : (c.setComp r k h).tmonH i = c.tmonH i := (rfl)
@[simp] theorem Chip.setComp_ni (c : Chip) (r k : Nat) (h : Comp) (i : Nat) : (c.setComp r k h).ni i = c.ni i := (rfl)
@[simp] theorem Chip.setComp_tag (c : Chip) (r k : Nat) (h : Comp) (i j : Nat) : (c.setComp r k h).tag i j = c.tag i j := (rfl)
@[simp] theorem Chip.setComp_tile (c : Chip) (r k : Nat) (h : Comp) (i : Nat) : (c.setComp r k h).tile i = c.tile i := (rfl)
@[simp] theorem Chip.setComp_ten (c : Chip) (r k : Nat) (h : Comp) (i : Nat) : (c.setComp r k h).ten i = c.ten i := (rfl)
@[simp] theorem Chip.setComp_portH (c : Chip) (r k : Nat) (h : Comp) (i : Nat) : (c.setComp r k h).portH i = c.portH i := (rfl)
@[simp] theorem Chip.setComp_avs (c : Chip) (r k : Nat) (h : Comp) (i : Nat) : (c.setComp r k h).avs i = c.avs i := (rfl)
@[simp] theorem Chip.setComp_inChan (c : Chip) (r k : Nat) (h : Comp) (i j : Nat) : (c.setComp r k h).inChan i j = c.inChan i j := (rfl)

/-! ### `Chip.setTmonH` -/

@[simp] theorem Chip.setTmonH_regs (c : Chip) (t : Nat) (h : TmonH) : (c.setTmonH t h).regs = c.regs := (rfl)
@[simp] theorem Chip.setTmonH_image (c : Chip) (t : Nat) (h : TmonH) : (c.setTmonH t h).image = c.image := (rfl)
@[simp] theorem Chip.setTmonH_beat (c : Chip) (t : Nat) (h : TmonH) : (c.setTmonH t h).beat = c.beat := (rfl)
@[simp] theorem Chip.setTmonH_clock (c : Chip) (t : Nat) (h : TmonH) : (c.setTmonH t h).clock = c.clock := (rfl)
@[simp] theorem Chip.setTmonH_fresh (c : Chip) (t : Nat) (h : TmonH) : (c.setTmonH t h).fresh = c.fresh := (rfl)
@[simp] theorem Chip.setTmonH_driveOff (c : Chip) (t : Nat) (h : TmonH) : (c.setTmonH t h).driveOff = c.driveOff := (rfl)
@[simp] theorem Chip.setTmonH_lat (c : Chip) (t : Nat) (h : TmonH) : (c.setTmonH t h).lat = c.lat := (rfl)
@[simp] theorem Chip.setTmonH_pl (c : Chip) (t : Nat) (h : TmonH) : (c.setTmonH t h).pl = c.pl := (rfl)
@[simp] theorem Chip.setTmonH_gl (c : Chip) (t : Nat) (h : TmonH) : (c.setTmonH t h).gl = c.gl := (rfl)
@[simp] theorem Chip.setTmonH_tl (c : Chip) (t : Nat) (h : TmonH) : (c.setTmonH t h).tl = c.tl := (rfl)
@[simp] theorem Chip.setTmonH_mem (c : Chip) (t : Nat) (h : TmonH) : (c.setTmonH t h).mem = c.mem := (rfl)
@[simp] theorem Chip.setTmonH_ecc (c : Chip) (t : Nat) (h : TmonH) : (c.setTmonH t h).ecc = c.ecc := (rfl)
@[simp] theorem Chip.setTmonH_xmem (c : Chip) (t : Nat) (h : TmonH) : (c.setTmonH t h).xmem = c.xmem := (rfl)
@[simp] theorem Chip.setTmonH_hub (c : Chip) (t : Nat) (h : TmonH) : (c.setTmonH t h).hub = c.hub := (rfl)
@[simp] theorem Chip.setTmonH_tw (c : Chip) (t : Nat) (h : TmonH) : (c.setTmonH t h).tw = c.tw := (rfl)
@[simp] theorem Chip.setTmonH_sw (c : Chip) (t : Nat) (h : TmonH) : (c.setTmonH t h).sw = c.sw := (rfl)
@[simp] theorem Chip.setTmonH_pw (c : Chip) (t : Nat) (h : TmonH) : (c.setTmonH t h).pw = c.pw := (rfl)
@[simp] theorem Chip.setTmonH_seq (c : Chip) (t : Nat) (h : TmonH) : (c.setTmonH t h).seq = c.seq := (rfl)
@[simp] theorem Chip.setTmonH_trc (c : Chip) (t : Nat) (h : TmonH) : (c.setTmonH t h).trc = c.trc := (rfl)
@[simp] theorem Chip.setTmonH_skb (c : Chip) (t : Nat) (h : TmonH) : (c.setTmonH t h).skb = c.skb := (rfl)
@[simp] theorem Chip.setTmonH_nvc (c : Chip) (t : Nat) (h : TmonH) : (c.setTmonH t h).nvc = c.nvc := (rfl)
@[simp] theorem Chip.setTmonH_tap (c : Chip) (t : Nat) (h : TmonH) : (c.setTmonH t h).tap = c.tap := (rfl)
@[simp] theorem Chip.setTmonH_lockActs (c : Chip) (t : Nat) (h : TmonH) : (c.setTmonH t h).lockActs = c.lockActs := (rfl)
@[simp] theorem Chip.setTmonH_lockWas (c : Chip) (t : Nat) (h : TmonH) : (c.setTmonH t h).lockWas = c.lockWas := (rfl)
@[simp] theorem Chip.setTmonH_hwBits (c : Chip) (t : Nat) (h : TmonH) : (c.setTmonH t h).hwBits = c.hwBits := (rfl)
@[simp] theorem Chip.setTmonH_resp (c : Chip) (t : Nat) (h : TmonH) : (c.setTmonH t h).resp = c.resp := (rfl)
@[simp] theorem Chip.setTmonH_reg (c : Chip) (t : Nat) (h : TmonH) (k : Nat) : (c.setTmonH t h).reg k = c.reg k := (rfl)
@[simp] theorem Chip.setTmonH_f (c : Chip) (t : Nat) (h : TmonH) (y : Fld) : (c.setTmonH t h).f y = c.f y := (rfl)
@[simp] theorem Chip.setTmonH_b (c : Chip) (t : Nat) (h : TmonH) (y : Fld) : (c.setTmonH t h).b y = c.b y := (rfl)
@[simp] theorem Chip.setTmonH_fi (c : Chip) (t : Nat) (h : TmonH) (y : Fld) : (c.setTmonH t h).fi y = c.fi y := (rfl)
@[simp] theorem Chip.setTmonH_rail (c : Chip) (t : Nat) (h : TmonH) (i : Nat) : (c.setTmonH t h).rail i = c.rail i := (rfl)
@[simp] theorem Chip.setTmonH_phase (c : Chip) (t : Nat) (h : TmonH) (i : Nat) : (c.setTmonH t h).phase i = c.phase i := (rfl)
@[simp] theorem Chip.setTmonH_comp (c : Chip) (t : Nat) (h : TmonH) (i j : Nat) : (c.setTmonH t h).comp i j = c.comp i j := (rfl)
@[simp] theorem Chip.setTmonH_ni (c : Chip) (t : Nat) (h : TmonH) (i : Nat) : (c.setTmonH t h).ni i = c.ni i := (rfl)
@[simp] theorem Chip.setTmonH_tag (c : Chip) (t : Nat) (h : TmonH) (i j : Nat) : (c.setTmonH t h).tag i j = c.tag i j := (rfl)
@[simp] theorem Chip.setTmonH_tile (c : Chip) (t : Nat) (h : TmonH) (i : Nat) : (c.setTmonH t h).tile i = c.tile i := (rfl)
@[simp] theorem Chip.setTmonH_ten (c : Chip) (t : Nat) (h : TmonH) (i : Nat) : (c.setTmonH t h).ten i = c.ten i := (rfl)
@[simp] theorem Chip.setTmonH_portH (c : Chip) (t : Nat) (h : TmonH) (i : Nat) : (c.setTmonH t h).portH i = c.portH i := (rfl)
@[simp] theorem Chip.setTmonH_avs (c : Chip) (t : Nat) (h : TmonH) (i : Nat) : (c.setTmonH t h).avs i = c.avs i := (rfl)
@[simp] theorem Chip.setTmonH_inChan (c : Chip) (t : Nat) (h : TmonH) (i j : Nat) : (c.setTmonH t h).inChan i j = c.inChan i j := (rfl)

/-! ### `Chip.setNi` -/

@[simp] theorem Chip.setNi_regs (c : Chip) (n : Nat) (h : Ni) : (c.setNi n h).regs = c.regs := (rfl)
@[simp] theorem Chip.setNi_image (c : Chip) (n : Nat) (h : Ni) : (c.setNi n h).image = c.image := (rfl)
@[simp] theorem Chip.setNi_beat (c : Chip) (n : Nat) (h : Ni) : (c.setNi n h).beat = c.beat := (rfl)
@[simp] theorem Chip.setNi_clock (c : Chip) (n : Nat) (h : Ni) : (c.setNi n h).clock = c.clock := (rfl)
@[simp] theorem Chip.setNi_fresh (c : Chip) (n : Nat) (h : Ni) : (c.setNi n h).fresh = c.fresh := (rfl)
@[simp] theorem Chip.setNi_driveOff (c : Chip) (n : Nat) (h : Ni) : (c.setNi n h).driveOff = c.driveOff := (rfl)
@[simp] theorem Chip.setNi_rl (c : Chip) (n : Nat) (h : Ni) : (c.setNi n h).rl = c.rl := (rfl)
@[simp] theorem Chip.setNi_pl (c : Chip) (n : Nat) (h : Ni) : (c.setNi n h).pl = c.pl := (rfl)
@[simp] theorem Chip.setNi_gl (c : Chip) (n : Nat) (h : Ni) : (c.setNi n h).gl = c.gl := (rfl)
@[simp] theorem Chip.setNi_tl (c : Chip) (n : Nat) (h : Ni) : (c.setNi n h).tl = c.tl := (rfl)
@[simp] theorem Chip.setNi_mem (c : Chip) (n : Nat) (h : Ni) : (c.setNi n h).mem = c.mem := (rfl)
@[simp] theorem Chip.setNi_ecc (c : Chip) (n : Nat) (h : Ni) : (c.setNi n h).ecc = c.ecc := (rfl)
@[simp] theorem Chip.setNi_xmem (c : Chip) (n : Nat) (h : Ni) : (c.setNi n h).xmem = c.xmem := (rfl)
@[simp] theorem Chip.setNi_hub (c : Chip) (n : Nat) (h : Ni) : (c.setNi n h).hub = c.hub := (rfl)
@[simp] theorem Chip.setNi_tw (c : Chip) (n : Nat) (h : Ni) : (c.setNi n h).tw = c.tw := (rfl)
@[simp] theorem Chip.setNi_sw (c : Chip) (n : Nat) (h : Ni) : (c.setNi n h).sw = c.sw := (rfl)
@[simp] theorem Chip.setNi_pw (c : Chip) (n : Nat) (h : Ni) : (c.setNi n h).pw = c.pw := (rfl)
@[simp] theorem Chip.setNi_seq (c : Chip) (n : Nat) (h : Ni) : (c.setNi n h).seq = c.seq := (rfl)
@[simp] theorem Chip.setNi_trc (c : Chip) (n : Nat) (h : Ni) : (c.setNi n h).trc = c.trc := (rfl)
@[simp] theorem Chip.setNi_skb (c : Chip) (n : Nat) (h : Ni) : (c.setNi n h).skb = c.skb := (rfl)
@[simp] theorem Chip.setNi_nvc (c : Chip) (n : Nat) (h : Ni) : (c.setNi n h).nvc = c.nvc := (rfl)
@[simp] theorem Chip.setNi_tap (c : Chip) (n : Nat) (h : Ni) : (c.setNi n h).tap = c.tap := (rfl)
@[simp] theorem Chip.setNi_lockActs (c : Chip) (n : Nat) (h : Ni) : (c.setNi n h).lockActs = c.lockActs := (rfl)
@[simp] theorem Chip.setNi_lockWas (c : Chip) (n : Nat) (h : Ni) : (c.setNi n h).lockWas = c.lockWas := (rfl)
@[simp] theorem Chip.setNi_hwBits (c : Chip) (n : Nat) (h : Ni) : (c.setNi n h).hwBits = c.hwBits := (rfl)
@[simp] theorem Chip.setNi_resp (c : Chip) (n : Nat) (h : Ni) : (c.setNi n h).resp = c.resp := (rfl)
@[simp] theorem Chip.setNi_reg (c : Chip) (n : Nat) (h : Ni) (k : Nat) : (c.setNi n h).reg k = c.reg k := (rfl)
@[simp] theorem Chip.setNi_f (c : Chip) (n : Nat) (h : Ni) (y : Fld) : (c.setNi n h).f y = c.f y := (rfl)
@[simp] theorem Chip.setNi_b (c : Chip) (n : Nat) (h : Ni) (y : Fld) : (c.setNi n h).b y = c.b y := (rfl)
@[simp] theorem Chip.setNi_fi (c : Chip) (n : Nat) (h : Ni) (y : Fld) : (c.setNi n h).fi y = c.fi y := (rfl)
@[simp] theorem Chip.setNi_rail (c : Chip) (n : Nat) (h : Ni) (i : Nat) : (c.setNi n h).rail i = c.rail i := (rfl)
@[simp] theorem Chip.setNi_phase (c : Chip) (n : Nat) (h : Ni) (i : Nat) : (c.setNi n h).phase i = c.phase i := (rfl)
@[simp] theorem Chip.setNi_comp (c : Chip) (n : Nat) (h : Ni) (i j : Nat) : (c.setNi n h).comp i j = c.comp i j := (rfl)
@[simp] theorem Chip.setNi_tmonH (c : Chip) (n : Nat) (h : Ni) (i : Nat) : (c.setNi n h).tmonH i = c.tmonH i := (rfl)
@[simp] theorem Chip.setNi_tile (c : Chip) (n : Nat) (h : Ni) (i : Nat) : (c.setNi n h).tile i = c.tile i := (rfl)
@[simp] theorem Chip.setNi_ten (c : Chip) (n : Nat) (h : Ni) (i : Nat) : (c.setNi n h).ten i = c.ten i := (rfl)
@[simp] theorem Chip.setNi_portH (c : Chip) (n : Nat) (h : Ni) (i : Nat) : (c.setNi n h).portH i = c.portH i := (rfl)
@[simp] theorem Chip.setNi_avs (c : Chip) (n : Nat) (h : Ni) (i : Nat) : (c.setNi n h).avs i = c.avs i := (rfl)
@[simp] theorem Chip.setNi_inChan (c : Chip) (n : Nat) (h : Ni) (i j : Nat) : (c.setNi n h).inChan i j = c.inChan i j := (rfl)

/-! ### `Chip.setTag` -/

@[simp] theorem Chip.setTag_regs (c : Chip) (n t : Nat) (h : Tag) : (c.setTag n t h).regs = c.regs := (rfl)
@[simp] theorem Chip.setTag_image (c : Chip) (n t : Nat) (h : Tag) : (c.setTag n t h).image = c.image := (rfl)
@[simp] theorem Chip.setTag_beat (c : Chip) (n t : Nat) (h : Tag) : (c.setTag n t h).beat = c.beat := (rfl)
@[simp] theorem Chip.setTag_clock (c : Chip) (n t : Nat) (h : Tag) : (c.setTag n t h).clock = c.clock := (rfl)
@[simp] theorem Chip.setTag_fresh (c : Chip) (n t : Nat) (h : Tag) : (c.setTag n t h).fresh = c.fresh := (rfl)
@[simp] theorem Chip.setTag_driveOff (c : Chip) (n t : Nat) (h : Tag) : (c.setTag n t h).driveOff = c.driveOff := (rfl)
@[simp] theorem Chip.setTag_rl (c : Chip) (n t : Nat) (h : Tag) : (c.setTag n t h).rl = c.rl := (rfl)
@[simp] theorem Chip.setTag_pl (c : Chip) (n t : Nat) (h : Tag) : (c.setTag n t h).pl = c.pl := (rfl)
@[simp] theorem Chip.setTag_gl (c : Chip) (n t : Nat) (h : Tag) : (c.setTag n t h).gl = c.gl := (rfl)
@[simp] theorem Chip.setTag_tl (c : Chip) (n t : Nat) (h : Tag) : (c.setTag n t h).tl = c.tl := (rfl)
@[simp] theorem Chip.setTag_mem (c : Chip) (n t : Nat) (h : Tag) : (c.setTag n t h).mem = c.mem := (rfl)
@[simp] theorem Chip.setTag_ecc (c : Chip) (n t : Nat) (h : Tag) : (c.setTag n t h).ecc = c.ecc := (rfl)
@[simp] theorem Chip.setTag_xmem (c : Chip) (n t : Nat) (h : Tag) : (c.setTag n t h).xmem = c.xmem := (rfl)
@[simp] theorem Chip.setTag_hub (c : Chip) (n t : Nat) (h : Tag) : (c.setTag n t h).hub = c.hub := (rfl)
@[simp] theorem Chip.setTag_tw (c : Chip) (n t : Nat) (h : Tag) : (c.setTag n t h).tw = c.tw := (rfl)
@[simp] theorem Chip.setTag_sw (c : Chip) (n t : Nat) (h : Tag) : (c.setTag n t h).sw = c.sw := (rfl)
@[simp] theorem Chip.setTag_pw (c : Chip) (n t : Nat) (h : Tag) : (c.setTag n t h).pw = c.pw := (rfl)
@[simp] theorem Chip.setTag_seq (c : Chip) (n t : Nat) (h : Tag) : (c.setTag n t h).seq = c.seq := (rfl)
@[simp] theorem Chip.setTag_trc (c : Chip) (n t : Nat) (h : Tag) : (c.setTag n t h).trc = c.trc := (rfl)
@[simp] theorem Chip.setTag_skb (c : Chip) (n t : Nat) (h : Tag) : (c.setTag n t h).skb = c.skb := (rfl)
@[simp] theorem Chip.setTag_nvc (c : Chip) (n t : Nat) (h : Tag) : (c.setTag n t h).nvc = c.nvc := (rfl)
@[simp] theorem Chip.setTag_tap (c : Chip) (n t : Nat) (h : Tag) : (c.setTag n t h).tap = c.tap := (rfl)
@[simp] theorem Chip.setTag_lockActs (c : Chip) (n t : Nat) (h : Tag) : (c.setTag n t h).lockActs = c.lockActs := (rfl)
@[simp] theorem Chip.setTag_lockWas (c : Chip) (n t : Nat) (h : Tag) : (c.setTag n t h).lockWas = c.lockWas := (rfl)
@[simp] theorem Chip.setTag_hwBits (c : Chip) (n t : Nat) (h : Tag) : (c.setTag n t h).hwBits = c.hwBits := (rfl)
@[simp] theorem Chip.setTag_resp (c : Chip) (n t : Nat) (h : Tag) : (c.setTag n t h).resp = c.resp := (rfl)
@[simp] theorem Chip.setTag_reg (c : Chip) (n t : Nat) (h : Tag) (k : Nat) : (c.setTag n t h).reg k = c.reg k := (rfl)
@[simp] theorem Chip.setTag_f (c : Chip) (n t : Nat) (h : Tag) (y : Fld) : (c.setTag n t h).f y = c.f y := (rfl)
@[simp] theorem Chip.setTag_b (c : Chip) (n t : Nat) (h : Tag) (y : Fld) : (c.setTag n t h).b y = c.b y := (rfl)
@[simp] theorem Chip.setTag_fi (c : Chip) (n t : Nat) (h : Tag) (y : Fld) : (c.setTag n t h).fi y = c.fi y := (rfl)
@[simp] theorem Chip.setTag_rail (c : Chip) (n t : Nat) (h : Tag) (i : Nat) : (c.setTag n t h).rail i = c.rail i := (rfl)
@[simp] theorem Chip.setTag_phase (c : Chip) (n t : Nat) (h : Tag) (i : Nat) : (c.setTag n t h).phase i = c.phase i := (rfl)
@[simp] theorem Chip.setTag_comp (c : Chip) (n t : Nat) (h : Tag) (i j : Nat) : (c.setTag n t h).comp i j = c.comp i j := (rfl)
@[simp] theorem Chip.setTag_tmonH (c : Chip) (n t : Nat) (h : Tag) (i : Nat) : (c.setTag n t h).tmonH i = c.tmonH i := (rfl)
@[simp] theorem Chip.setTag_tile (c : Chip) (n t : Nat) (h : Tag) (i : Nat) : (c.setTag n t h).tile i = c.tile i := (rfl)
@[simp] theorem Chip.setTag_ten (c : Chip) (n t : Nat) (h : Tag) (i : Nat) : (c.setTag n t h).ten i = c.ten i := (rfl)
@[simp] theorem Chip.setTag_portH (c : Chip) (n t : Nat) (h : Tag) (i : Nat) : (c.setTag n t h).portH i = c.portH i := (rfl)
@[simp] theorem Chip.setTag_avs (c : Chip) (n t : Nat) (h : Tag) (i : Nat) : (c.setTag n t h).avs i = c.avs i := (rfl)
@[simp] theorem Chip.setTag_inChan (c : Chip) (n t : Nat) (h : Tag) (i j : Nat) : (c.setTag n t h).inChan i j = c.inChan i j := (rfl)

/-! ### `Chip.setTile` -/

@[simp] theorem Chip.setTile_regs (c : Chip) (t : Nat) (h : Tile) : (c.setTile t h).regs = c.regs := (rfl)
@[simp] theorem Chip.setTile_image (c : Chip) (t : Nat) (h : Tile) : (c.setTile t h).image = c.image := (rfl)
@[simp] theorem Chip.setTile_beat (c : Chip) (t : Nat) (h : Tile) : (c.setTile t h).beat = c.beat := (rfl)
@[simp] theorem Chip.setTile_clock (c : Chip) (t : Nat) (h : Tile) : (c.setTile t h).clock = c.clock := (rfl)
@[simp] theorem Chip.setTile_fresh (c : Chip) (t : Nat) (h : Tile) : (c.setTile t h).fresh = c.fresh := (rfl)
@[simp] theorem Chip.setTile_driveOff (c : Chip) (t : Nat) (h : Tile) : (c.setTile t h).driveOff = c.driveOff := (rfl)
@[simp] theorem Chip.setTile_rl (c : Chip) (t : Nat) (h : Tile) : (c.setTile t h).rl = c.rl := (rfl)
@[simp] theorem Chip.setTile_lat (c : Chip) (t : Nat) (h : Tile) : (c.setTile t h).lat = c.lat := (rfl)
@[simp] theorem Chip.setTile_pl (c : Chip) (t : Nat) (h : Tile) : (c.setTile t h).pl = c.pl := (rfl)
@[simp] theorem Chip.setTile_gl (c : Chip) (t : Nat) (h : Tile) : (c.setTile t h).gl = c.gl := (rfl)
@[simp] theorem Chip.setTile_mem (c : Chip) (t : Nat) (h : Tile) : (c.setTile t h).mem = c.mem := (rfl)
@[simp] theorem Chip.setTile_ecc (c : Chip) (t : Nat) (h : Tile) : (c.setTile t h).ecc = c.ecc := (rfl)
@[simp] theorem Chip.setTile_xmem (c : Chip) (t : Nat) (h : Tile) : (c.setTile t h).xmem = c.xmem := (rfl)
@[simp] theorem Chip.setTile_hub (c : Chip) (t : Nat) (h : Tile) : (c.setTile t h).hub = c.hub := (rfl)
@[simp] theorem Chip.setTile_tw (c : Chip) (t : Nat) (h : Tile) : (c.setTile t h).tw = c.tw := (rfl)
@[simp] theorem Chip.setTile_sw (c : Chip) (t : Nat) (h : Tile) : (c.setTile t h).sw = c.sw := (rfl)
@[simp] theorem Chip.setTile_pw (c : Chip) (t : Nat) (h : Tile) : (c.setTile t h).pw = c.pw := (rfl)
@[simp] theorem Chip.setTile_seq (c : Chip) (t : Nat) (h : Tile) : (c.setTile t h).seq = c.seq := (rfl)
@[simp] theorem Chip.setTile_trc (c : Chip) (t : Nat) (h : Tile) : (c.setTile t h).trc = c.trc := (rfl)
@[simp] theorem Chip.setTile_skb (c : Chip) (t : Nat) (h : Tile) : (c.setTile t h).skb = c.skb := (rfl)
@[simp] theorem Chip.setTile_nvc (c : Chip) (t : Nat) (h : Tile) : (c.setTile t h).nvc = c.nvc := (rfl)
@[simp] theorem Chip.setTile_tap (c : Chip) (t : Nat) (h : Tile) : (c.setTile t h).tap = c.tap := (rfl)
@[simp] theorem Chip.setTile_lockActs (c : Chip) (t : Nat) (h : Tile) : (c.setTile t h).lockActs = c.lockActs := (rfl)
@[simp] theorem Chip.setTile_lockWas (c : Chip) (t : Nat) (h : Tile) : (c.setTile t h).lockWas = c.lockWas := (rfl)
@[simp] theorem Chip.setTile_hwBits (c : Chip) (t : Nat) (h : Tile) : (c.setTile t h).hwBits = c.hwBits := (rfl)
@[simp] theorem Chip.setTile_resp (c : Chip) (t : Nat) (h : Tile) : (c.setTile t h).resp = c.resp := (rfl)
@[simp] theorem Chip.setTile_reg (c : Chip) (t : Nat) (h : Tile) (k : Nat) : (c.setTile t h).reg k = c.reg k := (rfl)
@[simp] theorem Chip.setTile_f (c : Chip) (t : Nat) (h : Tile) (y : Fld) : (c.setTile t h).f y = c.f y := (rfl)
@[simp] theorem Chip.setTile_b (c : Chip) (t : Nat) (h : Tile) (y : Fld) : (c.setTile t h).b y = c.b y := (rfl)
@[simp] theorem Chip.setTile_fi (c : Chip) (t : Nat) (h : Tile) (y : Fld) : (c.setTile t h).fi y = c.fi y := (rfl)
@[simp] theorem Chip.setTile_rail (c : Chip) (t : Nat) (h : Tile) (i : Nat) : (c.setTile t h).rail i = c.rail i := (rfl)
@[simp] theorem Chip.setTile_phase (c : Chip) (t : Nat) (h : Tile) (i : Nat) : (c.setTile t h).phase i = c.phase i := (rfl)
@[simp] theorem Chip.setTile_comp (c : Chip) (t : Nat) (h : Tile) (i j : Nat) : (c.setTile t h).comp i j = c.comp i j := (rfl)
@[simp] theorem Chip.setTile_tmonH (c : Chip) (t : Nat) (h : Tile) (i : Nat) : (c.setTile t h).tmonH i = c.tmonH i := (rfl)
@[simp] theorem Chip.setTile_ni (c : Chip) (t : Nat) (h : Tile) (i : Nat) : (c.setTile t h).ni i = c.ni i := (rfl)
@[simp] theorem Chip.setTile_tag (c : Chip) (t : Nat) (h : Tile) (i j : Nat) : (c.setTile t h).tag i j = c.tag i j := (rfl)
@[simp] theorem Chip.setTile_ten (c : Chip) (t : Nat) (h : Tile) (i : Nat) : (c.setTile t h).ten i = c.ten i := (rfl)
@[simp] theorem Chip.setTile_portH (c : Chip) (t : Nat) (h : Tile) (i : Nat) : (c.setTile t h).portH i = c.portH i := (rfl)
@[simp] theorem Chip.setTile_avs (c : Chip) (t : Nat) (h : Tile) (i : Nat) : (c.setTile t h).avs i = c.avs i := (rfl)
@[simp] theorem Chip.setTile_inChan (c : Chip) (t : Nat) (h : Tile) (i j : Nat) : (c.setTile t h).inChan i j = c.inChan i j := (rfl)

/-! ### `Chip.setEcc` -/

@[simp] theorem Chip.setEcc_regs (c : Chip) (a v : Nat) : (c.setEcc a v).regs = c.regs := (rfl)
@[simp] theorem Chip.setEcc_image (c : Chip) (a v : Nat) : (c.setEcc a v).image = c.image := (rfl)
@[simp] theorem Chip.setEcc_beat (c : Chip) (a v : Nat) : (c.setEcc a v).beat = c.beat := (rfl)
@[simp] theorem Chip.setEcc_clock (c : Chip) (a v : Nat) : (c.setEcc a v).clock = c.clock := (rfl)
@[simp] theorem Chip.setEcc_fresh (c : Chip) (a v : Nat) : (c.setEcc a v).fresh = c.fresh := (rfl)
@[simp] theorem Chip.setEcc_driveOff (c : Chip) (a v : Nat) : (c.setEcc a v).driveOff = c.driveOff := (rfl)
@[simp] theorem Chip.setEcc_rl (c : Chip) (a v : Nat) : (c.setEcc a v).rl = c.rl := (rfl)
@[simp] theorem Chip.setEcc_lat (c : Chip) (a v : Nat) : (c.setEcc a v).lat = c.lat := (rfl)
@[simp] theorem Chip.setEcc_pl (c : Chip) (a v : Nat) : (c.setEcc a v).pl = c.pl := (rfl)
@[simp] theorem Chip.setEcc_gl (c : Chip) (a v : Nat) : (c.setEcc a v).gl = c.gl := (rfl)
@[simp] theorem Chip.setEcc_tl (c : Chip) (a v : Nat) : (c.setEcc a v).tl = c.tl := (rfl)
@[simp] theorem Chip.setEcc_mem (c : Chip) (a v : Nat) : (c.setEcc a v).mem = c.mem := (rfl)
@[simp] theorem Chip.setEcc_xmem (c : Chip) (a v : Nat) : (c.setEcc a v).xmem = c.xmem := (rfl)
@[simp] theorem Chip.setEcc_hub (c : Chip) (a v : Nat) : (c.setEcc a v).hub = c.hub := (rfl)
@[simp] theorem Chip.setEcc_tw (c : Chip) (a v : Nat) : (c.setEcc a v).tw = c.tw := (rfl)
@[simp] theorem Chip.setEcc_sw (c : Chip) (a v : Nat) : (c.setEcc a v).sw = c.sw := (rfl)
@[simp] theorem Chip.setEcc_pw (c : Chip) (a v : Nat) : (c.setEcc a v).pw = c.pw := (rfl)
@[simp] theorem Chip.setEcc_seq (c : Chip) (a v : Nat) : (c.setEcc a v).seq = c.seq := (rfl)
@[simp] theorem Chip.setEcc_trc (c : Chip) (a v : Nat) : (c.setEcc a v).trc = c.trc := (rfl)
@[simp] theorem Chip.setEcc_skb (c : Chip) (a v : Nat) : (c.setEcc a v).skb = c.skb := (rfl)
@[simp] theorem Chip.setEcc_nvc (c : Chip) (a v : Nat) : (c.setEcc a v).nvc = c.nvc := (rfl)
@[simp] theorem Chip.setEcc_tap (c : Chip) (a v : Nat) : (c.setEcc a v).tap = c.tap := (rfl)
@[simp] theorem Chip.setEcc_lockActs (c : Chip) (a v : Nat) : (c.setEcc a v).lockActs = c.lockActs := (rfl)
@[simp] theorem Chip.setEcc_lockWas (c : Chip) (a v : Nat) : (c.setEcc a v).lockWas = c.lockWas := (rfl)
@[simp] theorem Chip.setEcc_hwBits (c : Chip) (a v : Nat) : (c.setEcc a v).hwBits = c.hwBits := (rfl)
@[simp] theorem Chip.setEcc_resp (c : Chip) (a v : Nat) : (c.setEcc a v).resp = c.resp := (rfl)
@[simp] theorem Chip.setEcc_reg (c : Chip) (a v : Nat) (k : Nat) : (c.setEcc a v).reg k = c.reg k := (rfl)
@[simp] theorem Chip.setEcc_f (c : Chip) (a v : Nat) (y : Fld) : (c.setEcc a v).f y = c.f y := (rfl)
@[simp] theorem Chip.setEcc_b (c : Chip) (a v : Nat) (y : Fld) : (c.setEcc a v).b y = c.b y := (rfl)
@[simp] theorem Chip.setEcc_fi (c : Chip) (a v : Nat) (y : Fld) : (c.setEcc a v).fi y = c.fi y := (rfl)
@[simp] theorem Chip.setEcc_rail (c : Chip) (a v : Nat) (i : Nat) : (c.setEcc a v).rail i = c.rail i := (rfl)
@[simp] theorem Chip.setEcc_phase (c : Chip) (a v : Nat) (i : Nat) : (c.setEcc a v).phase i = c.phase i := (rfl)
@[simp] theorem Chip.setEcc_comp (c : Chip) (a v : Nat) (i j : Nat) : (c.setEcc a v).comp i j = c.comp i j := (rfl)
@[simp] theorem Chip.setEcc_tmonH (c : Chip) (a v : Nat) (i : Nat) : (c.setEcc a v).tmonH i = c.tmonH i := (rfl)
@[simp] theorem Chip.setEcc_ni (c : Chip) (a v : Nat) (i : Nat) : (c.setEcc a v).ni i = c.ni i := (rfl)
@[simp] theorem Chip.setEcc_tag (c : Chip) (a v : Nat) (i j : Nat) : (c.setEcc a v).tag i j = c.tag i j := (rfl)
@[simp] theorem Chip.setEcc_tile (c : Chip) (a v : Nat) (i : Nat) : (c.setEcc a v).tile i = c.tile i := (rfl)
@[simp] theorem Chip.setEcc_ten (c : Chip) (a v : Nat) (i : Nat) : (c.setEcc a v).ten i = c.ten i := (rfl)
@[simp] theorem Chip.setEcc_portH (c : Chip) (a v : Nat) (i : Nat) : (c.setEcc a v).portH i = c.portH i := (rfl)
@[simp] theorem Chip.setEcc_avs (c : Chip) (a v : Nat) (i : Nat) : (c.setEcc a v).avs i = c.avs i := (rfl)
@[simp] theorem Chip.setEcc_inChan (c : Chip) (a v : Nat) (i j : Nat) : (c.setEcc a v).inChan i j = c.inChan i j := (rfl)

/-! ### `Chip.setLatched` -/

@[simp] theorem Chip.setLatched_regs (c : Chip) (q page v : Nat) : (c.setLatched q page v).regs = c.regs := (rfl)
@[simp] theorem Chip.setLatched_image (c : Chip) (q page v : Nat) : (c.setLatched q page v).image = c.image := (rfl)
@[simp] theorem Chip.setLatched_beat (c : Chip) (q page v : Nat) : (c.setLatched q page v).beat = c.beat := (rfl)
@[simp] theorem Chip.setLatched_clock (c : Chip) (q page v : Nat) : (c.setLatched q page v).clock = c.clock := (rfl)
@[simp] theorem Chip.setLatched_fresh (c : Chip) (q page v : Nat) : (c.setLatched q page v).fresh = c.fresh := (rfl)
@[simp] theorem Chip.setLatched_driveOff (c : Chip) (q page v : Nat) : (c.setLatched q page v).driveOff = c.driveOff := (rfl)
@[simp] theorem Chip.setLatched_rl (c : Chip) (q page v : Nat) : (c.setLatched q page v).rl = c.rl := (rfl)
@[simp] theorem Chip.setLatched_lat (c : Chip) (q page v : Nat) : (c.setLatched q page v).lat = c.lat := (rfl)
@[simp] theorem Chip.setLatched_pl (c : Chip) (q page v : Nat) : (c.setLatched q page v).pl = c.pl := (rfl)
@[simp] theorem Chip.setLatched_gl (c : Chip) (q page v : Nat) : (c.setLatched q page v).gl = c.gl := (rfl)
@[simp] theorem Chip.setLatched_tl (c : Chip) (q page v : Nat) : (c.setLatched q page v).tl = c.tl := (rfl)
@[simp] theorem Chip.setLatched_mem (c : Chip) (q page v : Nat) : (c.setLatched q page v).mem = c.mem := (rfl)
@[simp] theorem Chip.setLatched_ecc (c : Chip) (q page v : Nat) : (c.setLatched q page v).ecc = c.ecc := (rfl)
@[simp] theorem Chip.setLatched_xmem (c : Chip) (q page v : Nat) : (c.setLatched q page v).xmem = c.xmem := (rfl)
@[simp] theorem Chip.setLatched_tw (c : Chip) (q page v : Nat) : (c.setLatched q page v).tw = c.tw := (rfl)
@[simp] theorem Chip.setLatched_sw (c : Chip) (q page v : Nat) : (c.setLatched q page v).sw = c.sw := (rfl)
@[simp] theorem Chip.setLatched_pw (c : Chip) (q page v : Nat) : (c.setLatched q page v).pw = c.pw := (rfl)
@[simp] theorem Chip.setLatched_seq (c : Chip) (q page v : Nat) : (c.setLatched q page v).seq = c.seq := (rfl)
@[simp] theorem Chip.setLatched_trc (c : Chip) (q page v : Nat) : (c.setLatched q page v).trc = c.trc := (rfl)
@[simp] theorem Chip.setLatched_skb (c : Chip) (q page v : Nat) : (c.setLatched q page v).skb = c.skb := (rfl)
@[simp] theorem Chip.setLatched_nvc (c : Chip) (q page v : Nat) : (c.setLatched q page v).nvc = c.nvc := (rfl)
@[simp] theorem Chip.setLatched_tap (c : Chip) (q page v : Nat) : (c.setLatched q page v).tap = c.tap := (rfl)
@[simp] theorem Chip.setLatched_lockActs (c : Chip) (q page v : Nat) : (c.setLatched q page v).lockActs = c.lockActs := (rfl)
@[simp] theorem Chip.setLatched_lockWas (c : Chip) (q page v : Nat) : (c.setLatched q page v).lockWas = c.lockWas := (rfl)
@[simp] theorem Chip.setLatched_hwBits (c : Chip) (q page v : Nat) : (c.setLatched q page v).hwBits = c.hwBits := (rfl)
@[simp] theorem Chip.setLatched_resp (c : Chip) (q page v : Nat) : (c.setLatched q page v).resp = c.resp := (rfl)
@[simp] theorem Chip.setLatched_reg (c : Chip) (q page v : Nat) (k : Nat) : (c.setLatched q page v).reg k = c.reg k := (rfl)
@[simp] theorem Chip.setLatched_f (c : Chip) (q page v : Nat) (y : Fld) : (c.setLatched q page v).f y = c.f y := (rfl)
@[simp] theorem Chip.setLatched_b (c : Chip) (q page v : Nat) (y : Fld) : (c.setLatched q page v).b y = c.b y := (rfl)
@[simp] theorem Chip.setLatched_fi (c : Chip) (q page v : Nat) (y : Fld) : (c.setLatched q page v).fi y = c.fi y := (rfl)
@[simp] theorem Chip.setLatched_rail (c : Chip) (q page v : Nat) (i : Nat) : (c.setLatched q page v).rail i = c.rail i := (rfl)
@[simp] theorem Chip.setLatched_phase (c : Chip) (q page v : Nat) (i : Nat) : (c.setLatched q page v).phase i = c.phase i := (rfl)
@[simp] theorem Chip.setLatched_comp (c : Chip) (q page v : Nat) (i j : Nat) : (c.setLatched q page v).comp i j = c.comp i j := (rfl)
@[simp] theorem Chip.setLatched_tmonH (c : Chip) (q page v : Nat) (i : Nat) : (c.setLatched q page v).tmonH i = c.tmonH i := (rfl)
@[simp] theorem Chip.setLatched_ni (c : Chip) (q page v : Nat) (i : Nat) : (c.setLatched q page v).ni i = c.ni i := (rfl)
@[simp] theorem Chip.setLatched_tag (c : Chip) (q page v : Nat) (i j : Nat) : (c.setLatched q page v).tag i j = c.tag i j := (rfl)
@[simp] theorem Chip.setLatched_tile (c : Chip) (q page v : Nat) (i : Nat) : (c.setLatched q page v).tile i = c.tile i := (rfl)
@[simp] theorem Chip.setLatched_ten (c : Chip) (q page v : Nat) (i : Nat) : (c.setLatched q page v).ten i = c.ten i := (rfl)
@[simp] theorem Chip.setLatched_portH (c : Chip) (q page v : Nat) (i : Nat) : (c.setLatched q page v).portH i = c.portH i := (rfl)
@[simp] theorem Chip.setLatched_avs (c : Chip) (q page v : Nat) (i : Nat) : (c.setLatched q page v).avs i = c.avs i := (rfl)
@[simp] theorem Chip.setLatched_inChan (c : Chip) (q page v : Nat) (i j : Nat) : (c.setLatched q page v).inChan i j = c.inChan i j := (rfl)

/-! ### `Chip.setTen` -/

@[simp] theorem Chip.setTen_regs (c : Chip) (t : Nat) (h : TenH) : (c.setTen t h).regs = c.regs := (rfl)
@[simp] theorem Chip.setTen_image (c : Chip) (t : Nat) (h : TenH) : (c.setTen t h).image = c.image := (rfl)
@[simp] theorem Chip.setTen_beat (c : Chip) (t : Nat) (h : TenH) : (c.setTen t h).beat = c.beat := (rfl)
@[simp] theorem Chip.setTen_clock (c : Chip) (t : Nat) (h : TenH) : (c.setTen t h).clock = c.clock := (rfl)
@[simp] theorem Chip.setTen_fresh (c : Chip) (t : Nat) (h : TenH) : (c.setTen t h).fresh = c.fresh := (rfl)
@[simp] theorem Chip.setTen_driveOff (c : Chip) (t : Nat) (h : TenH) : (c.setTen t h).driveOff = c.driveOff := (rfl)
@[simp] theorem Chip.setTen_rl (c : Chip) (t : Nat) (h : TenH) : (c.setTen t h).rl = c.rl := (rfl)
@[simp] theorem Chip.setTen_lat (c : Chip) (t : Nat) (h : TenH) : (c.setTen t h).lat = c.lat := (rfl)
@[simp] theorem Chip.setTen_pl (c : Chip) (t : Nat) (h : TenH) : (c.setTen t h).pl = c.pl := (rfl)
@[simp] theorem Chip.setTen_gl (c : Chip) (t : Nat) (h : TenH) : (c.setTen t h).gl = c.gl := (rfl)
@[simp] theorem Chip.setTen_tl (c : Chip) (t : Nat) (h : TenH) : (c.setTen t h).tl = c.tl := (rfl)
@[simp] theorem Chip.setTen_mem (c : Chip) (t : Nat) (h : TenH) : (c.setTen t h).mem = c.mem := (rfl)
@[simp] theorem Chip.setTen_ecc (c : Chip) (t : Nat) (h : TenH) : (c.setTen t h).ecc = c.ecc := (rfl)
@[simp] theorem Chip.setTen_xmem (c : Chip) (t : Nat) (h : TenH) : (c.setTen t h).xmem = c.xmem := (rfl)
@[simp] theorem Chip.setTen_tw (c : Chip) (t : Nat) (h : TenH) : (c.setTen t h).tw = c.tw := (rfl)
@[simp] theorem Chip.setTen_sw (c : Chip) (t : Nat) (h : TenH) : (c.setTen t h).sw = c.sw := (rfl)
@[simp] theorem Chip.setTen_pw (c : Chip) (t : Nat) (h : TenH) : (c.setTen t h).pw = c.pw := (rfl)
@[simp] theorem Chip.setTen_seq (c : Chip) (t : Nat) (h : TenH) : (c.setTen t h).seq = c.seq := (rfl)
@[simp] theorem Chip.setTen_trc (c : Chip) (t : Nat) (h : TenH) : (c.setTen t h).trc = c.trc := (rfl)
@[simp] theorem Chip.setTen_skb (c : Chip) (t : Nat) (h : TenH) : (c.setTen t h).skb = c.skb := (rfl)
@[simp] theorem Chip.setTen_nvc (c : Chip) (t : Nat) (h : TenH) : (c.setTen t h).nvc = c.nvc := (rfl)
@[simp] theorem Chip.setTen_tap (c : Chip) (t : Nat) (h : TenH) : (c.setTen t h).tap = c.tap := (rfl)
@[simp] theorem Chip.setTen_lockActs (c : Chip) (t : Nat) (h : TenH) : (c.setTen t h).lockActs = c.lockActs := (rfl)
@[simp] theorem Chip.setTen_lockWas (c : Chip) (t : Nat) (h : TenH) : (c.setTen t h).lockWas = c.lockWas := (rfl)
@[simp] theorem Chip.setTen_hwBits (c : Chip) (t : Nat) (h : TenH) : (c.setTen t h).hwBits = c.hwBits := (rfl)
@[simp] theorem Chip.setTen_resp (c : Chip) (t : Nat) (h : TenH) : (c.setTen t h).resp = c.resp := (rfl)
@[simp] theorem Chip.setTen_reg (c : Chip) (t : Nat) (h : TenH) (k : Nat) : (c.setTen t h).reg k = c.reg k := (rfl)
@[simp] theorem Chip.setTen_f (c : Chip) (t : Nat) (h : TenH) (y : Fld) : (c.setTen t h).f y = c.f y := (rfl)
@[simp] theorem Chip.setTen_b (c : Chip) (t : Nat) (h : TenH) (y : Fld) : (c.setTen t h).b y = c.b y := (rfl)
@[simp] theorem Chip.setTen_fi (c : Chip) (t : Nat) (h : TenH) (y : Fld) : (c.setTen t h).fi y = c.fi y := (rfl)
@[simp] theorem Chip.setTen_rail (c : Chip) (t : Nat) (h : TenH) (i : Nat) : (c.setTen t h).rail i = c.rail i := (rfl)
@[simp] theorem Chip.setTen_phase (c : Chip) (t : Nat) (h : TenH) (i : Nat) : (c.setTen t h).phase i = c.phase i := (rfl)
@[simp] theorem Chip.setTen_comp (c : Chip) (t : Nat) (h : TenH) (i j : Nat) : (c.setTen t h).comp i j = c.comp i j := (rfl)
@[simp] theorem Chip.setTen_tmonH (c : Chip) (t : Nat) (h : TenH) (i : Nat) : (c.setTen t h).tmonH i = c.tmonH i := (rfl)
@[simp] theorem Chip.setTen_ni (c : Chip) (t : Nat) (h : TenH) (i : Nat) : (c.setTen t h).ni i = c.ni i := (rfl)
@[simp] theorem Chip.setTen_tag (c : Chip) (t : Nat) (h : TenH) (i j : Nat) : (c.setTen t h).tag i j = c.tag i j := (rfl)
@[simp] theorem Chip.setTen_tile (c : Chip) (t : Nat) (h : TenH) (i : Nat) : (c.setTen t h).tile i = c.tile i := (rfl)
@[simp] theorem Chip.setTen_portH (c : Chip) (t : Nat) (h : TenH) (i : Nat) : (c.setTen t h).portH i = c.portH i := (rfl)
@[simp] theorem Chip.setTen_avs (c : Chip) (t : Nat) (h : TenH) (i : Nat) : (c.setTen t h).avs i = c.avs i := (rfl)
@[simp] theorem Chip.setTen_inChan (c : Chip) (t : Nat) (h : TenH) (i j : Nat) : (c.setTen t h).inChan i j = c.inChan i j := (rfl)

/-! ### `Chip.setPortH` -/

@[simp] theorem Chip.setPortH_regs (c : Chip) (q : Nat) (h : PortH) : (c.setPortH q h).regs = c.regs := (rfl)
@[simp] theorem Chip.setPortH_image (c : Chip) (q : Nat) (h : PortH) : (c.setPortH q h).image = c.image := (rfl)
@[simp] theorem Chip.setPortH_beat (c : Chip) (q : Nat) (h : PortH) : (c.setPortH q h).beat = c.beat := (rfl)
@[simp] theorem Chip.setPortH_clock (c : Chip) (q : Nat) (h : PortH) : (c.setPortH q h).clock = c.clock := (rfl)
@[simp] theorem Chip.setPortH_fresh (c : Chip) (q : Nat) (h : PortH) : (c.setPortH q h).fresh = c.fresh := (rfl)
@[simp] theorem Chip.setPortH_driveOff (c : Chip) (q : Nat) (h : PortH) : (c.setPortH q h).driveOff = c.driveOff := (rfl)
@[simp] theorem Chip.setPortH_rl (c : Chip) (q : Nat) (h : PortH) : (c.setPortH q h).rl = c.rl := (rfl)
@[simp] theorem Chip.setPortH_lat (c : Chip) (q : Nat) (h : PortH) : (c.setPortH q h).lat = c.lat := (rfl)
@[simp] theorem Chip.setPortH_pl (c : Chip) (q : Nat) (h : PortH) : (c.setPortH q h).pl = c.pl := (rfl)
@[simp] theorem Chip.setPortH_gl (c : Chip) (q : Nat) (h : PortH) : (c.setPortH q h).gl = c.gl := (rfl)
@[simp] theorem Chip.setPortH_tl (c : Chip) (q : Nat) (h : PortH) : (c.setPortH q h).tl = c.tl := (rfl)
@[simp] theorem Chip.setPortH_mem (c : Chip) (q : Nat) (h : PortH) : (c.setPortH q h).mem = c.mem := (rfl)
@[simp] theorem Chip.setPortH_ecc (c : Chip) (q : Nat) (h : PortH) : (c.setPortH q h).ecc = c.ecc := (rfl)
@[simp] theorem Chip.setPortH_xmem (c : Chip) (q : Nat) (h : PortH) : (c.setPortH q h).xmem = c.xmem := (rfl)
@[simp] theorem Chip.setPortH_tw (c : Chip) (q : Nat) (h : PortH) : (c.setPortH q h).tw = c.tw := (rfl)
@[simp] theorem Chip.setPortH_sw (c : Chip) (q : Nat) (h : PortH) : (c.setPortH q h).sw = c.sw := (rfl)
@[simp] theorem Chip.setPortH_pw (c : Chip) (q : Nat) (h : PortH) : (c.setPortH q h).pw = c.pw := (rfl)
@[simp] theorem Chip.setPortH_seq (c : Chip) (q : Nat) (h : PortH) : (c.setPortH q h).seq = c.seq := (rfl)
@[simp] theorem Chip.setPortH_trc (c : Chip) (q : Nat) (h : PortH) : (c.setPortH q h).trc = c.trc := (rfl)
@[simp] theorem Chip.setPortH_skb (c : Chip) (q : Nat) (h : PortH) : (c.setPortH q h).skb = c.skb := (rfl)
@[simp] theorem Chip.setPortH_nvc (c : Chip) (q : Nat) (h : PortH) : (c.setPortH q h).nvc = c.nvc := (rfl)
@[simp] theorem Chip.setPortH_tap (c : Chip) (q : Nat) (h : PortH) : (c.setPortH q h).tap = c.tap := (rfl)
@[simp] theorem Chip.setPortH_lockActs (c : Chip) (q : Nat) (h : PortH) : (c.setPortH q h).lockActs = c.lockActs := (rfl)
@[simp] theorem Chip.setPortH_lockWas (c : Chip) (q : Nat) (h : PortH) : (c.setPortH q h).lockWas = c.lockWas := (rfl)
@[simp] theorem Chip.setPortH_hwBits (c : Chip) (q : Nat) (h : PortH) : (c.setPortH q h).hwBits = c.hwBits := (rfl)
@[simp] theorem Chip.setPortH_resp (c : Chip) (q : Nat) (h : PortH) : (c.setPortH q h).resp = c.resp := (rfl)
@[simp] theorem Chip.setPortH_reg (c : Chip) (q : Nat) (h : PortH) (k : Nat) : (c.setPortH q h).reg k = c.reg k := (rfl)
@[simp] theorem Chip.setPortH_f (c : Chip) (q : Nat) (h : PortH) (y : Fld) : (c.setPortH q h).f y = c.f y := (rfl)
@[simp] theorem Chip.setPortH_b (c : Chip) (q : Nat) (h : PortH) (y : Fld) : (c.setPortH q h).b y = c.b y := (rfl)
@[simp] theorem Chip.setPortH_fi (c : Chip) (q : Nat) (h : PortH) (y : Fld) : (c.setPortH q h).fi y = c.fi y := (rfl)
@[simp] theorem Chip.setPortH_rail (c : Chip) (q : Nat) (h : PortH) (i : Nat) : (c.setPortH q h).rail i = c.rail i := (rfl)
@[simp] theorem Chip.setPortH_phase (c : Chip) (q : Nat) (h : PortH) (i : Nat) : (c.setPortH q h).phase i = c.phase i := (rfl)
@[simp] theorem Chip.setPortH_comp (c : Chip) (q : Nat) (h : PortH) (i j : Nat) : (c.setPortH q h).comp i j = c.comp i j := (rfl)
@[simp] theorem Chip.setPortH_tmonH (c : Chip) (q : Nat) (h : PortH) (i : Nat) : (c.setPortH q h).tmonH i = c.tmonH i := (rfl)
@[simp] theorem Chip.setPortH_ni (c : Chip) (q : Nat) (h : PortH) (i : Nat) : (c.setPortH q h).ni i = c.ni i := (rfl)
@[simp] theorem Chip.setPortH_tag (c : Chip) (q : Nat) (h : PortH) (i j : Nat) : (c.setPortH q h).tag i j = c.tag i j := (rfl)
@[simp] theorem Chip.setPortH_tile (c : Chip) (q : Nat) (h : PortH) (i : Nat) : (c.setPortH q h).tile i = c.tile i := (rfl)
@[simp] theorem Chip.setPortH_ten (c : Chip) (q : Nat) (h : PortH) (i : Nat) : (c.setPortH q h).ten i = c.ten i := (rfl)
@[simp] theorem Chip.setPortH_avs (c : Chip) (q : Nat) (h : PortH) (i : Nat) : (c.setPortH q h).avs i = c.avs i := (rfl)
@[simp] theorem Chip.setPortH_inChan (c : Chip) (q : Nat) (h : PortH) (i j : Nat) : (c.setPortH q h).inChan i j = c.inChan i j := (rfl)

/-! ### `Chip.setAvs` -/

@[simp] theorem Chip.setAvs_regs (c : Chip) (p : Nat) (h : AvsH) : (c.setAvs p h).regs = c.regs := (rfl)
@[simp] theorem Chip.setAvs_image (c : Chip) (p : Nat) (h : AvsH) : (c.setAvs p h).image = c.image := (rfl)
@[simp] theorem Chip.setAvs_beat (c : Chip) (p : Nat) (h : AvsH) : (c.setAvs p h).beat = c.beat := (rfl)
@[simp] theorem Chip.setAvs_clock (c : Chip) (p : Nat) (h : AvsH) : (c.setAvs p h).clock = c.clock := (rfl)
@[simp] theorem Chip.setAvs_fresh (c : Chip) (p : Nat) (h : AvsH) : (c.setAvs p h).fresh = c.fresh := (rfl)
@[simp] theorem Chip.setAvs_driveOff (c : Chip) (p : Nat) (h : AvsH) : (c.setAvs p h).driveOff = c.driveOff := (rfl)
@[simp] theorem Chip.setAvs_rl (c : Chip) (p : Nat) (h : AvsH) : (c.setAvs p h).rl = c.rl := (rfl)
@[simp] theorem Chip.setAvs_lat (c : Chip) (p : Nat) (h : AvsH) : (c.setAvs p h).lat = c.lat := (rfl)
@[simp] theorem Chip.setAvs_pl (c : Chip) (p : Nat) (h : AvsH) : (c.setAvs p h).pl = c.pl := (rfl)
@[simp] theorem Chip.setAvs_gl (c : Chip) (p : Nat) (h : AvsH) : (c.setAvs p h).gl = c.gl := (rfl)
@[simp] theorem Chip.setAvs_tl (c : Chip) (p : Nat) (h : AvsH) : (c.setAvs p h).tl = c.tl := (rfl)
@[simp] theorem Chip.setAvs_mem (c : Chip) (p : Nat) (h : AvsH) : (c.setAvs p h).mem = c.mem := (rfl)
@[simp] theorem Chip.setAvs_ecc (c : Chip) (p : Nat) (h : AvsH) : (c.setAvs p h).ecc = c.ecc := (rfl)
@[simp] theorem Chip.setAvs_xmem (c : Chip) (p : Nat) (h : AvsH) : (c.setAvs p h).xmem = c.xmem := (rfl)
@[simp] theorem Chip.setAvs_tw (c : Chip) (p : Nat) (h : AvsH) : (c.setAvs p h).tw = c.tw := (rfl)
@[simp] theorem Chip.setAvs_sw (c : Chip) (p : Nat) (h : AvsH) : (c.setAvs p h).sw = c.sw := (rfl)
@[simp] theorem Chip.setAvs_pw (c : Chip) (p : Nat) (h : AvsH) : (c.setAvs p h).pw = c.pw := (rfl)
@[simp] theorem Chip.setAvs_seq (c : Chip) (p : Nat) (h : AvsH) : (c.setAvs p h).seq = c.seq := (rfl)
@[simp] theorem Chip.setAvs_trc (c : Chip) (p : Nat) (h : AvsH) : (c.setAvs p h).trc = c.trc := (rfl)
@[simp] theorem Chip.setAvs_skb (c : Chip) (p : Nat) (h : AvsH) : (c.setAvs p h).skb = c.skb := (rfl)
@[simp] theorem Chip.setAvs_nvc (c : Chip) (p : Nat) (h : AvsH) : (c.setAvs p h).nvc = c.nvc := (rfl)
@[simp] theorem Chip.setAvs_tap (c : Chip) (p : Nat) (h : AvsH) : (c.setAvs p h).tap = c.tap := (rfl)
@[simp] theorem Chip.setAvs_lockActs (c : Chip) (p : Nat) (h : AvsH) : (c.setAvs p h).lockActs = c.lockActs := (rfl)
@[simp] theorem Chip.setAvs_lockWas (c : Chip) (p : Nat) (h : AvsH) : (c.setAvs p h).lockWas = c.lockWas := (rfl)
@[simp] theorem Chip.setAvs_hwBits (c : Chip) (p : Nat) (h : AvsH) : (c.setAvs p h).hwBits = c.hwBits := (rfl)
@[simp] theorem Chip.setAvs_resp (c : Chip) (p : Nat) (h : AvsH) : (c.setAvs p h).resp = c.resp := (rfl)
@[simp] theorem Chip.setAvs_reg (c : Chip) (p : Nat) (h : AvsH) (k : Nat) : (c.setAvs p h).reg k = c.reg k := (rfl)
@[simp] theorem Chip.setAvs_f (c : Chip) (p : Nat) (h : AvsH) (y : Fld) : (c.setAvs p h).f y = c.f y := (rfl)
@[simp] theorem Chip.setAvs_b (c : Chip) (p : Nat) (h : AvsH) (y : Fld) : (c.setAvs p h).b y = c.b y := (rfl)
@[simp] theorem Chip.setAvs_fi (c : Chip) (p : Nat) (h : AvsH) (y : Fld) : (c.setAvs p h).fi y = c.fi y := (rfl)
@[simp] theorem Chip.setAvs_rail (c : Chip) (p : Nat) (h : AvsH) (i : Nat) : (c.setAvs p h).rail i = c.rail i := (rfl)
@[simp] theorem Chip.setAvs_phase (c : Chip) (p : Nat) (h : AvsH) (i : Nat) : (c.setAvs p h).phase i = c.phase i := (rfl)
@[simp] theorem Chip.setAvs_comp (c : Chip) (p : Nat) (h : AvsH) (i j : Nat) : (c.setAvs p h).comp i j = c.comp i j := (rfl)
@[simp] theorem Chip.setAvs_tmonH (c : Chip) (p : Nat) (h : AvsH) (i : Nat) : (c.setAvs p h).tmonH i = c.tmonH i := (rfl)
@[simp] theorem Chip.setAvs_ni (c : Chip) (p : Nat) (h : AvsH) (i : Nat) : (c.setAvs p h).ni i = c.ni i := (rfl)
@[simp] theorem Chip.setAvs_tag (c : Chip) (p : Nat) (h : AvsH) (i j : Nat) : (c.setAvs p h).tag i j = c.tag i j := (rfl)
@[simp] theorem Chip.setAvs_tile (c : Chip) (p : Nat) (h : AvsH) (i : Nat) : (c.setAvs p h).tile i = c.tile i := (rfl)
@[simp] theorem Chip.setAvs_ten (c : Chip) (p : Nat) (h : AvsH) (i : Nat) : (c.setAvs p h).ten i = c.ten i := (rfl)
@[simp] theorem Chip.setAvs_portH (c : Chip) (p : Nat) (h : AvsH) (i : Nat) : (c.setAvs p h).portH i = c.portH i := (rfl)
@[simp] theorem Chip.setAvs_inChan (c : Chip) (p : Nat) (h : AvsH) (i j : Nat) : (c.setAvs p h).inChan i j = c.inChan i j := (rfl)

/-! ### `Chip.setInChan` -/

@[simp] theorem Chip.setInChan_regs (c : Chip) (n k : Nat) (h : InChan) : (c.setInChan n k h).regs = c.regs := (rfl)
@[simp] theorem Chip.setInChan_image (c : Chip) (n k : Nat) (h : InChan) : (c.setInChan n k h).image = c.image := (rfl)
@[simp] theorem Chip.setInChan_beat (c : Chip) (n k : Nat) (h : InChan) : (c.setInChan n k h).beat = c.beat := (rfl)
@[simp] theorem Chip.setInChan_clock (c : Chip) (n k : Nat) (h : InChan) : (c.setInChan n k h).clock = c.clock := (rfl)
@[simp] theorem Chip.setInChan_fresh (c : Chip) (n k : Nat) (h : InChan) : (c.setInChan n k h).fresh = c.fresh := (rfl)
@[simp] theorem Chip.setInChan_driveOff (c : Chip) (n k : Nat) (h : InChan) : (c.setInChan n k h).driveOff = c.driveOff := (rfl)
@[simp] theorem Chip.setInChan_rl (c : Chip) (n k : Nat) (h : InChan) : (c.setInChan n k h).rl = c.rl := (rfl)
@[simp] theorem Chip.setInChan_lat (c : Chip) (n k : Nat) (h : InChan) : (c.setInChan n k h).lat = c.lat := (rfl)
@[simp] theorem Chip.setInChan_pl (c : Chip) (n k : Nat) (h : InChan) : (c.setInChan n k h).pl = c.pl := (rfl)
@[simp] theorem Chip.setInChan_tl (c : Chip) (n k : Nat) (h : InChan) : (c.setInChan n k h).tl = c.tl := (rfl)
@[simp] theorem Chip.setInChan_mem (c : Chip) (n k : Nat) (h : InChan) : (c.setInChan n k h).mem = c.mem := (rfl)
@[simp] theorem Chip.setInChan_ecc (c : Chip) (n k : Nat) (h : InChan) : (c.setInChan n k h).ecc = c.ecc := (rfl)
@[simp] theorem Chip.setInChan_xmem (c : Chip) (n k : Nat) (h : InChan) : (c.setInChan n k h).xmem = c.xmem := (rfl)
@[simp] theorem Chip.setInChan_hub (c : Chip) (n k : Nat) (h : InChan) : (c.setInChan n k h).hub = c.hub := (rfl)
@[simp] theorem Chip.setInChan_tw (c : Chip) (n k : Nat) (h : InChan) : (c.setInChan n k h).tw = c.tw := (rfl)
@[simp] theorem Chip.setInChan_sw (c : Chip) (n k : Nat) (h : InChan) : (c.setInChan n k h).sw = c.sw := (rfl)
@[simp] theorem Chip.setInChan_pw (c : Chip) (n k : Nat) (h : InChan) : (c.setInChan n k h).pw = c.pw := (rfl)
@[simp] theorem Chip.setInChan_seq (c : Chip) (n k : Nat) (h : InChan) : (c.setInChan n k h).seq = c.seq := (rfl)
@[simp] theorem Chip.setInChan_trc (c : Chip) (n k : Nat) (h : InChan) : (c.setInChan n k h).trc = c.trc := (rfl)
@[simp] theorem Chip.setInChan_skb (c : Chip) (n k : Nat) (h : InChan) : (c.setInChan n k h).skb = c.skb := (rfl)
@[simp] theorem Chip.setInChan_nvc (c : Chip) (n k : Nat) (h : InChan) : (c.setInChan n k h).nvc = c.nvc := (rfl)
@[simp] theorem Chip.setInChan_tap (c : Chip) (n k : Nat) (h : InChan) : (c.setInChan n k h).tap = c.tap := (rfl)
@[simp] theorem Chip.setInChan_lockActs (c : Chip) (n k : Nat) (h : InChan) : (c.setInChan n k h).lockActs = c.lockActs := (rfl)
@[simp] theorem Chip.setInChan_lockWas (c : Chip) (n k : Nat) (h : InChan) : (c.setInChan n k h).lockWas = c.lockWas := (rfl)
@[simp] theorem Chip.setInChan_hwBits (c : Chip) (n k : Nat) (h : InChan) : (c.setInChan n k h).hwBits = c.hwBits := (rfl)
@[simp] theorem Chip.setInChan_resp (c : Chip) (n k : Nat) (h : InChan) : (c.setInChan n k h).resp = c.resp := (rfl)
@[simp] theorem Chip.setInChan_reg (c : Chip) (n j : Nat) (h : InChan) (k : Nat) : (c.setInChan n j h).reg k = c.reg k := (rfl)
@[simp] theorem Chip.setInChan_f (c : Chip) (n j : Nat) (h : InChan) (y : Fld) : (c.setInChan n j h).f y = c.f y := (rfl)
@[simp] theorem Chip.setInChan_b (c : Chip) (n j : Nat) (h : InChan) (y : Fld) : (c.setInChan n j h).b y = c.b y := (rfl)
@[simp] theorem Chip.setInChan_fi (c : Chip) (n j : Nat) (h : InChan) (y : Fld) : (c.setInChan n j h).fi y = c.fi y := (rfl)
@[simp] theorem Chip.setInChan_rail (c : Chip) (n k : Nat) (h : InChan) (i : Nat) : (c.setInChan n k h).rail i = c.rail i := (rfl)
@[simp] theorem Chip.setInChan_phase (c : Chip) (n k : Nat) (h : InChan) (i : Nat) : (c.setInChan n k h).phase i = c.phase i := (rfl)
@[simp] theorem Chip.setInChan_comp (c : Chip) (n k : Nat) (h : InChan) (i j : Nat) : (c.setInChan n k h).comp i j = c.comp i j := (rfl)
@[simp] theorem Chip.setInChan_tmonH (c : Chip) (n k : Nat) (h : InChan) (i : Nat) : (c.setInChan n k h).tmonH i = c.tmonH i := (rfl)
@[simp] theorem Chip.setInChan_ni (c : Chip) (n k : Nat) (h : InChan) (i : Nat) : (c.setInChan n k h).ni i = c.ni i := (rfl)
@[simp] theorem Chip.setInChan_tag (c : Chip) (n k : Nat) (h : InChan) (i j : Nat) : (c.setInChan n k h).tag i j = c.tag i j := (rfl)
@[simp] theorem Chip.setInChan_tile (c : Chip) (n k : Nat) (h : InChan) (i : Nat) : (c.setInChan n k h).tile i = c.tile i := (rfl)
@[simp] theorem Chip.setInChan_ten (c : Chip) (n k : Nat) (h : InChan) (i : Nat) : (c.setInChan n k h).ten i = c.ten i := (rfl)
@[simp] theorem Chip.setInChan_portH (c : Chip) (n k : Nat) (h : InChan) (i : Nat) : (c.setInChan n k h).portH i = c.portH i := (rfl)
@[simp] theorem Chip.setInChan_avs (c : Chip) (n k : Nat) (h : InChan) (i : Nat) : (c.setInChan n k h).avs i = c.avs i := (rfl)

/-! ### `Chip.setQueue` -/

@[simp] theorem Chip.setQueue_regs (c : Chip) (r p vc : Nat) (l : List Flit) : (c.setQueue r p vc l).regs = c.regs := (rfl)
@[simp] theorem Chip.setQueue_image (c : Chip) (r p vc : Nat) (l : List Flit) : (c.setQueue r p vc l).image = c.image := (rfl)
@[simp] theorem Chip.setQueue_beat (c : Chip) (r p vc : Nat) (l : List Flit) : (c.setQueue r p vc l).beat = c.beat := (rfl)
@[simp] theorem Chip.setQueue_clock (c : Chip) (r p vc : Nat) (l : List Flit) : (c.setQueue r p vc l).clock = c.clock := (rfl)
@[simp] theorem Chip.setQueue_fresh (c : Chip) (r p vc : Nat) (l : List Flit) : (c.setQueue r p vc l).fresh = c.fresh := (rfl)
@[simp] theorem Chip.setQueue_driveOff (c : Chip) (r p vc : Nat) (l : List Flit) : (c.setQueue r p vc l).driveOff = c.driveOff := (rfl)
@[simp] theorem Chip.setQueue_rl (c : Chip) (r p vc : Nat) (l : List Flit) : (c.setQueue r p vc l).rl = c.rl := (rfl)
@[simp] theorem Chip.setQueue_pl (c : Chip) (r p vc : Nat) (l : List Flit) : (c.setQueue r p vc l).pl = c.pl := (rfl)
@[simp] theorem Chip.setQueue_gl (c : Chip) (r p vc : Nat) (l : List Flit) : (c.setQueue r p vc l).gl = c.gl := (rfl)
@[simp] theorem Chip.setQueue_tl (c : Chip) (r p vc : Nat) (l : List Flit) : (c.setQueue r p vc l).tl = c.tl := (rfl)
@[simp] theorem Chip.setQueue_mem (c : Chip) (r p vc : Nat) (l : List Flit) : (c.setQueue r p vc l).mem = c.mem := (rfl)
@[simp] theorem Chip.setQueue_ecc (c : Chip) (r p vc : Nat) (l : List Flit) : (c.setQueue r p vc l).ecc = c.ecc := (rfl)
@[simp] theorem Chip.setQueue_xmem (c : Chip) (r p vc : Nat) (l : List Flit) : (c.setQueue r p vc l).xmem = c.xmem := (rfl)
@[simp] theorem Chip.setQueue_hub (c : Chip) (r p vc : Nat) (l : List Flit) : (c.setQueue r p vc l).hub = c.hub := (rfl)
@[simp] theorem Chip.setQueue_tw (c : Chip) (r p vc : Nat) (l : List Flit) : (c.setQueue r p vc l).tw = c.tw := (rfl)
@[simp] theorem Chip.setQueue_sw (c : Chip) (r p vc : Nat) (l : List Flit) : (c.setQueue r p vc l).sw = c.sw := (rfl)
@[simp] theorem Chip.setQueue_pw (c : Chip) (r p vc : Nat) (l : List Flit) : (c.setQueue r p vc l).pw = c.pw := (rfl)
@[simp] theorem Chip.setQueue_seq (c : Chip) (r p vc : Nat) (l : List Flit) : (c.setQueue r p vc l).seq = c.seq := (rfl)
@[simp] theorem Chip.setQueue_trc (c : Chip) (r p vc : Nat) (l : List Flit) : (c.setQueue r p vc l).trc = c.trc := (rfl)
@[simp] theorem Chip.setQueue_skb (c : Chip) (r p vc : Nat) (l : List Flit) : (c.setQueue r p vc l).skb = c.skb := (rfl)
@[simp] theorem Chip.setQueue_nvc (c : Chip) (r p vc : Nat) (l : List Flit) : (c.setQueue r p vc l).nvc = c.nvc := (rfl)
@[simp] theorem Chip.setQueue_tap (c : Chip) (r p vc : Nat) (l : List Flit) : (c.setQueue r p vc l).tap = c.tap := (rfl)
@[simp] theorem Chip.setQueue_lockActs (c : Chip) (r p vc : Nat) (l : List Flit) : (c.setQueue r p vc l).lockActs = c.lockActs := (rfl)
@[simp] theorem Chip.setQueue_lockWas (c : Chip) (r p vc : Nat) (l : List Flit) : (c.setQueue r p vc l).lockWas = c.lockWas := (rfl)
@[simp] theorem Chip.setQueue_hwBits (c : Chip) (r p vc : Nat) (l : List Flit) : (c.setQueue r p vc l).hwBits = c.hwBits := (rfl)
@[simp] theorem Chip.setQueue_resp (c : Chip) (r p vc : Nat) (l : List Flit) : (c.setQueue r p vc l).resp = c.resp := (rfl)
@[simp] theorem Chip.setQueue_reg (c : Chip) (r p vc : Nat) (l : List Flit) (k : Nat) : (c.setQueue r p vc l).reg k = c.reg k := (rfl)
@[simp] theorem Chip.setQueue_f (c : Chip) (r p vc : Nat) (l : List Flit) (y : Fld) : (c.setQueue r p vc l).f y = c.f y := (rfl)
@[simp] theorem Chip.setQueue_b (c : Chip) (r p vc : Nat) (l : List Flit) (y : Fld) : (c.setQueue r p vc l).b y = c.b y := (rfl)
@[simp] theorem Chip.setQueue_fi (c : Chip) (r p vc : Nat) (l : List Flit) (y : Fld) : (c.setQueue r p vc l).fi y = c.fi y := (rfl)
@[simp] theorem Chip.setQueue_rail (c : Chip) (r p vc : Nat) (l : List Flit) (i : Nat) : (c.setQueue r p vc l).rail i = c.rail i := (rfl)
@[simp] theorem Chip.setQueue_phase (c : Chip) (r p vc : Nat) (l : List Flit) (i : Nat) : (c.setQueue r p vc l).phase i = c.phase i := (rfl)
@[simp] theorem Chip.setQueue_comp (c : Chip) (r p vc : Nat) (l : List Flit) (i j : Nat) : (c.setQueue r p vc l).comp i j = c.comp i j := (rfl)
@[simp] theorem Chip.setQueue_tmonH (c : Chip) (r p vc : Nat) (l : List Flit) (i : Nat) : (c.setQueue r p vc l).tmonH i = c.tmonH i := (rfl)
@[simp] theorem Chip.setQueue_ni (c : Chip) (r p vc : Nat) (l : List Flit) (i : Nat) : (c.setQueue r p vc l).ni i = c.ni i := (rfl)
@[simp] theorem Chip.setQueue_tag (c : Chip) (r p vc : Nat) (l : List Flit) (i j : Nat) : (c.setQueue r p vc l).tag i j = c.tag i j := (rfl)
@[simp] theorem Chip.setQueue_tile (c : Chip) (r p vc : Nat) (l : List Flit) (i : Nat) : (c.setQueue r p vc l).tile i = c.tile i := (rfl)
@[simp] theorem Chip.setQueue_ten (c : Chip) (r p vc : Nat) (l : List Flit) (i : Nat) : (c.setQueue r p vc l).ten i = c.ten i := (rfl)
@[simp] theorem Chip.setQueue_portH (c : Chip) (r p vc : Nat) (l : List Flit) (i : Nat) : (c.setQueue r p vc l).portH i = c.portH i := (rfl)
@[simp] theorem Chip.setQueue_avs (c : Chip) (r p vc : Nat) (l : List Flit) (i : Nat) : (c.setQueue r p vc l).avs i = c.avs i := (rfl)
@[simp] theorem Chip.setQueue_inChan (c : Chip) (r p vc : Nat) (l : List Flit) (i j : Nat) : (c.setQueue r p vc l).inChan i j = c.inChan i j := (rfl)

/-! ### `Chip.setOwn` -/

@[simp] theorem Chip.setOwn_regs (c : Chip) (r p vc v : Nat) : (c.setOwn r p vc v).regs = c.regs := (rfl)
@[simp] theorem Chip.setOwn_image (c : Chip) (r p vc v : Nat) : (c.setOwn r p vc v).image = c.image := (rfl)
@[simp] theorem Chip.setOwn_beat (c : Chip) (r p vc v : Nat) : (c.setOwn r p vc v).beat = c.beat := (rfl)
@[simp] theorem Chip.setOwn_clock (c : Chip) (r p vc v : Nat) : (c.setOwn r p vc v).clock = c.clock := (rfl)
@[simp] theorem Chip.setOwn_fresh (c : Chip) (r p vc v : Nat) : (c.setOwn r p vc v).fresh = c.fresh := (rfl)
@[simp] theorem Chip.setOwn_driveOff (c : Chip) (r p vc v : Nat) : (c.setOwn r p vc v).driveOff = c.driveOff := (rfl)
@[simp] theorem Chip.setOwn_rl (c : Chip) (r p vc v : Nat) : (c.setOwn r p vc v).rl = c.rl := (rfl)
@[simp] theorem Chip.setOwn_pl (c : Chip) (r p vc v : Nat) : (c.setOwn r p vc v).pl = c.pl := (rfl)
@[simp] theorem Chip.setOwn_gl (c : Chip) (r p vc v : Nat) : (c.setOwn r p vc v).gl = c.gl := (rfl)
@[simp] theorem Chip.setOwn_tl (c : Chip) (r p vc v : Nat) : (c.setOwn r p vc v).tl = c.tl := (rfl)
@[simp] theorem Chip.setOwn_mem (c : Chip) (r p vc v : Nat) : (c.setOwn r p vc v).mem = c.mem := (rfl)
@[simp] theorem Chip.setOwn_ecc (c : Chip) (r p vc v : Nat) : (c.setOwn r p vc v).ecc = c.ecc := (rfl)
@[simp] theorem Chip.setOwn_xmem (c : Chip) (r p vc v : Nat) : (c.setOwn r p vc v).xmem = c.xmem := (rfl)
@[simp] theorem Chip.setOwn_hub (c : Chip) (r p vc v : Nat) : (c.setOwn r p vc v).hub = c.hub := (rfl)
@[simp] theorem Chip.setOwn_tw (c : Chip) (r p vc v : Nat) : (c.setOwn r p vc v).tw = c.tw := (rfl)
@[simp] theorem Chip.setOwn_sw (c : Chip) (r p vc v : Nat) : (c.setOwn r p vc v).sw = c.sw := (rfl)
@[simp] theorem Chip.setOwn_pw (c : Chip) (r p vc v : Nat) : (c.setOwn r p vc v).pw = c.pw := (rfl)
@[simp] theorem Chip.setOwn_seq (c : Chip) (r p vc v : Nat) : (c.setOwn r p vc v).seq = c.seq := (rfl)
@[simp] theorem Chip.setOwn_trc (c : Chip) (r p vc v : Nat) : (c.setOwn r p vc v).trc = c.trc := (rfl)
@[simp] theorem Chip.setOwn_skb (c : Chip) (r p vc v : Nat) : (c.setOwn r p vc v).skb = c.skb := (rfl)
@[simp] theorem Chip.setOwn_nvc (c : Chip) (r p vc v : Nat) : (c.setOwn r p vc v).nvc = c.nvc := (rfl)
@[simp] theorem Chip.setOwn_tap (c : Chip) (r p vc v : Nat) : (c.setOwn r p vc v).tap = c.tap := (rfl)
@[simp] theorem Chip.setOwn_lockActs (c : Chip) (r p vc v : Nat) : (c.setOwn r p vc v).lockActs = c.lockActs := (rfl)
@[simp] theorem Chip.setOwn_lockWas (c : Chip) (r p vc v : Nat) : (c.setOwn r p vc v).lockWas = c.lockWas := (rfl)
@[simp] theorem Chip.setOwn_hwBits (c : Chip) (r p vc v : Nat) : (c.setOwn r p vc v).hwBits = c.hwBits := (rfl)
@[simp] theorem Chip.setOwn_resp (c : Chip) (r p vc v : Nat) : (c.setOwn r p vc v).resp = c.resp := (rfl)
@[simp] theorem Chip.setOwn_reg (c : Chip) (r p vc v : Nat) (k : Nat) : (c.setOwn r p vc v).reg k = c.reg k := (rfl)
@[simp] theorem Chip.setOwn_f (c : Chip) (r p vc v : Nat) (y : Fld) : (c.setOwn r p vc v).f y = c.f y := (rfl)
@[simp] theorem Chip.setOwn_b (c : Chip) (r p vc v : Nat) (y : Fld) : (c.setOwn r p vc v).b y = c.b y := (rfl)
@[simp] theorem Chip.setOwn_fi (c : Chip) (r p vc v : Nat) (y : Fld) : (c.setOwn r p vc v).fi y = c.fi y := (rfl)
@[simp] theorem Chip.setOwn_rail (c : Chip) (r p vc v : Nat) (i : Nat) : (c.setOwn r p vc v).rail i = c.rail i := (rfl)
@[simp] theorem Chip.setOwn_phase (c : Chip) (r p vc v : Nat) (i : Nat) : (c.setOwn r p vc v).phase i = c.phase i := (rfl)
@[simp] theorem Chip.setOwn_comp (c : Chip) (r p vc v : Nat) (i j : Nat) : (c.setOwn r p vc v).comp i j = c.comp i j := (rfl)
@[simp] theorem Chip.setOwn_tmonH (c : Chip) (r p vc v : Nat) (i : Nat) : (c.setOwn r p vc v).tmonH i = c.tmonH i := (rfl)
@[simp] theorem Chip.setOwn_ni (c : Chip) (r p vc v : Nat) (i : Nat) : (c.setOwn r p vc v).ni i = c.ni i := (rfl)
@[simp] theorem Chip.setOwn_tag (c : Chip) (r p vc v : Nat) (i j : Nat) : (c.setOwn r p vc v).tag i j = c.tag i j := (rfl)
@[simp] theorem Chip.setOwn_tile (c : Chip) (r p vc v : Nat) (i : Nat) : (c.setOwn r p vc v).tile i = c.tile i := (rfl)
@[simp] theorem Chip.setOwn_ten (c : Chip) (r p vc v : Nat) (i : Nat) : (c.setOwn r p vc v).ten i = c.ten i := (rfl)
@[simp] theorem Chip.setOwn_portH (c : Chip) (r p vc v : Nat) (i : Nat) : (c.setOwn r p vc v).portH i = c.portH i := (rfl)
@[simp] theorem Chip.setOwn_avs (c : Chip) (r p vc v : Nat) (i : Nat) : (c.setOwn r p vc v).avs i = c.avs i := (rfl)
@[simp] theorem Chip.setOwn_inChan (c : Chip) (r p vc v : Nat) (i j : Nat) : (c.setOwn r p vc v).inChan i j = c.inChan i j := (rfl)

/-! ### `Chip.setPtr` -/

@[simp] theorem Chip.setPtr_regs (c : Chip) (r p vc v : Nat) : (c.setPtr r p vc v).regs = c.regs := (rfl)
@[simp] theorem Chip.setPtr_image (c : Chip) (r p vc v : Nat) : (c.setPtr r p vc v).image = c.image := (rfl)
@[simp] theorem Chip.setPtr_beat (c : Chip) (r p vc v : Nat) : (c.setPtr r p vc v).beat = c.beat := (rfl)
@[simp] theorem Chip.setPtr_clock (c : Chip) (r p vc v : Nat) : (c.setPtr r p vc v).clock = c.clock := (rfl)
@[simp] theorem Chip.setPtr_fresh (c : Chip) (r p vc v : Nat) : (c.setPtr r p vc v).fresh = c.fresh := (rfl)
@[simp] theorem Chip.setPtr_driveOff (c : Chip) (r p vc v : Nat) : (c.setPtr r p vc v).driveOff = c.driveOff := (rfl)
@[simp] theorem Chip.setPtr_rl (c : Chip) (r p vc v : Nat) : (c.setPtr r p vc v).rl = c.rl := (rfl)
@[simp] theorem Chip.setPtr_pl (c : Chip) (r p vc v : Nat) : (c.setPtr r p vc v).pl = c.pl := (rfl)
@[simp] theorem Chip.setPtr_gl (c : Chip) (r p vc v : Nat) : (c.setPtr r p vc v).gl = c.gl := (rfl)
@[simp] theorem Chip.setPtr_tl (c : Chip) (r p vc v : Nat) : (c.setPtr r p vc v).tl = c.tl := (rfl)
@[simp] theorem Chip.setPtr_mem (c : Chip) (r p vc v : Nat) : (c.setPtr r p vc v).mem = c.mem := (rfl)
@[simp] theorem Chip.setPtr_ecc (c : Chip) (r p vc v : Nat) : (c.setPtr r p vc v).ecc = c.ecc := (rfl)
@[simp] theorem Chip.setPtr_xmem (c : Chip) (r p vc v : Nat) : (c.setPtr r p vc v).xmem = c.xmem := (rfl)
@[simp] theorem Chip.setPtr_hub (c : Chip) (r p vc v : Nat) : (c.setPtr r p vc v).hub = c.hub := (rfl)
@[simp] theorem Chip.setPtr_tw (c : Chip) (r p vc v : Nat) : (c.setPtr r p vc v).tw = c.tw := (rfl)
@[simp] theorem Chip.setPtr_sw (c : Chip) (r p vc v : Nat) : (c.setPtr r p vc v).sw = c.sw := (rfl)
@[simp] theorem Chip.setPtr_pw (c : Chip) (r p vc v : Nat) : (c.setPtr r p vc v).pw = c.pw := (rfl)
@[simp] theorem Chip.setPtr_seq (c : Chip) (r p vc v : Nat) : (c.setPtr r p vc v).seq = c.seq := (rfl)
@[simp] theorem Chip.setPtr_trc (c : Chip) (r p vc v : Nat) : (c.setPtr r p vc v).trc = c.trc := (rfl)
@[simp] theorem Chip.setPtr_skb (c : Chip) (r p vc v : Nat) : (c.setPtr r p vc v).skb = c.skb := (rfl)
@[simp] theorem Chip.setPtr_nvc (c : Chip) (r p vc v : Nat) : (c.setPtr r p vc v).nvc = c.nvc := (rfl)
@[simp] theorem Chip.setPtr_tap (c : Chip) (r p vc v : Nat) : (c.setPtr r p vc v).tap = c.tap := (rfl)
@[simp] theorem Chip.setPtr_lockActs (c : Chip) (r p vc v : Nat) : (c.setPtr r p vc v).lockActs = c.lockActs := (rfl)
@[simp] theorem Chip.setPtr_lockWas (c : Chip) (r p vc v : Nat) : (c.setPtr r p vc v).lockWas = c.lockWas := (rfl)
@[simp] theorem Chip.setPtr_hwBits (c : Chip) (r p vc v : Nat) : (c.setPtr r p vc v).hwBits = c.hwBits := (rfl)
@[simp] theorem Chip.setPtr_resp (c : Chip) (r p vc v : Nat) : (c.setPtr r p vc v).resp = c.resp := (rfl)
@[simp] theorem Chip.setPtr_reg (c : Chip) (r p vc v : Nat) (k : Nat) : (c.setPtr r p vc v).reg k = c.reg k := (rfl)
@[simp] theorem Chip.setPtr_f (c : Chip) (r p vc v : Nat) (y : Fld) : (c.setPtr r p vc v).f y = c.f y := (rfl)
@[simp] theorem Chip.setPtr_b (c : Chip) (r p vc v : Nat) (y : Fld) : (c.setPtr r p vc v).b y = c.b y := (rfl)
@[simp] theorem Chip.setPtr_fi (c : Chip) (r p vc v : Nat) (y : Fld) : (c.setPtr r p vc v).fi y = c.fi y := (rfl)
@[simp] theorem Chip.setPtr_rail (c : Chip) (r p vc v : Nat) (i : Nat) : (c.setPtr r p vc v).rail i = c.rail i := (rfl)
@[simp] theorem Chip.setPtr_phase (c : Chip) (r p vc v : Nat) (i : Nat) : (c.setPtr r p vc v).phase i = c.phase i := (rfl)
@[simp] theorem Chip.setPtr_comp (c : Chip) (r p vc v : Nat) (i j : Nat) : (c.setPtr r p vc v).comp i j = c.comp i j := (rfl)
@[simp] theorem Chip.setPtr_tmonH (c : Chip) (r p vc v : Nat) (i : Nat) : (c.setPtr r p vc v).tmonH i = c.tmonH i := (rfl)
@[simp] theorem Chip.setPtr_ni (c : Chip) (r p vc v : Nat) (i : Nat) : (c.setPtr r p vc v).ni i = c.ni i := (rfl)
@[simp] theorem Chip.setPtr_tag (c : Chip) (r p vc v : Nat) (i j : Nat) : (c.setPtr r p vc v).tag i j = c.tag i j := (rfl)
@[simp] theorem Chip.setPtr_tile (c : Chip) (r p vc v : Nat) (i : Nat) : (c.setPtr r p vc v).tile i = c.tile i := (rfl)
@[simp] theorem Chip.setPtr_ten (c : Chip) (r p vc v : Nat) (i : Nat) : (c.setPtr r p vc v).ten i = c.ten i := (rfl)
@[simp] theorem Chip.setPtr_portH (c : Chip) (r p vc v : Nat) (i : Nat) : (c.setPtr r p vc v).portH i = c.portH i := (rfl)
@[simp] theorem Chip.setPtr_avs (c : Chip) (r p vc v : Nat) (i : Nat) : (c.setPtr r p vc v).avs i = c.avs i := (rfl)
@[simp] theorem Chip.setPtr_inChan (c : Chip) (r p vc v : Nat) (i j : Nat) : (c.setPtr r p vc v).inChan i j = c.inChan i j := (rfl)

/-! ### `Chip.lockAct` -/

@[simp] theorem Chip.lockAct_regs (c : Chip) (a : LockAct) : (c.lockAct a).regs = c.regs := (rfl)
@[simp] theorem Chip.lockAct_image (c : Chip) (a : LockAct) : (c.lockAct a).image = c.image := (rfl)
@[simp] theorem Chip.lockAct_beat (c : Chip) (a : LockAct) : (c.lockAct a).beat = c.beat := (rfl)
@[simp] theorem Chip.lockAct_clock (c : Chip) (a : LockAct) : (c.lockAct a).clock = c.clock := (rfl)
@[simp] theorem Chip.lockAct_fresh (c : Chip) (a : LockAct) : (c.lockAct a).fresh = c.fresh := (rfl)
@[simp] theorem Chip.lockAct_driveOff (c : Chip) (a : LockAct) : (c.lockAct a).driveOff = c.driveOff := (rfl)
@[simp] theorem Chip.lockAct_rl (c : Chip) (a : LockAct) : (c.lockAct a).rl = c.rl := (rfl)
@[simp] theorem Chip.lockAct_lat (c : Chip) (a : LockAct) : (c.lockAct a).lat = c.lat := (rfl)
@[simp] theorem Chip.lockAct_pl (c : Chip) (a : LockAct) : (c.lockAct a).pl = c.pl := (rfl)
@[simp] theorem Chip.lockAct_gl (c : Chip) (a : LockAct) : (c.lockAct a).gl = c.gl := (rfl)
@[simp] theorem Chip.lockAct_tl (c : Chip) (a : LockAct) : (c.lockAct a).tl = c.tl := (rfl)
@[simp] theorem Chip.lockAct_mem (c : Chip) (a : LockAct) : (c.lockAct a).mem = c.mem := (rfl)
@[simp] theorem Chip.lockAct_ecc (c : Chip) (a : LockAct) : (c.lockAct a).ecc = c.ecc := (rfl)
@[simp] theorem Chip.lockAct_xmem (c : Chip) (a : LockAct) : (c.lockAct a).xmem = c.xmem := (rfl)
@[simp] theorem Chip.lockAct_hub (c : Chip) (a : LockAct) : (c.lockAct a).hub = c.hub := (rfl)
@[simp] theorem Chip.lockAct_tw (c : Chip) (a : LockAct) : (c.lockAct a).tw = c.tw := (rfl)
@[simp] theorem Chip.lockAct_sw (c : Chip) (a : LockAct) : (c.lockAct a).sw = c.sw := (rfl)
@[simp] theorem Chip.lockAct_pw (c : Chip) (a : LockAct) : (c.lockAct a).pw = c.pw := (rfl)
@[simp] theorem Chip.lockAct_seq (c : Chip) (a : LockAct) : (c.lockAct a).seq = c.seq := (rfl)
@[simp] theorem Chip.lockAct_trc (c : Chip) (a : LockAct) : (c.lockAct a).trc = c.trc := (rfl)
@[simp] theorem Chip.lockAct_skb (c : Chip) (a : LockAct) : (c.lockAct a).skb = c.skb := (rfl)
@[simp] theorem Chip.lockAct_nvc (c : Chip) (a : LockAct) : (c.lockAct a).nvc = c.nvc := (rfl)
@[simp] theorem Chip.lockAct_tap (c : Chip) (a : LockAct) : (c.lockAct a).tap = c.tap := (rfl)
@[simp] theorem Chip.lockAct_resp (c : Chip) (a : LockAct) : (c.lockAct a).resp = c.resp := (rfl)
@[simp] theorem Chip.lockAct_reg (c : Chip) (a : LockAct) (k : Nat) : (c.lockAct a).reg k = c.reg k := (rfl)
@[simp] theorem Chip.lockAct_f (c : Chip) (a : LockAct) (y : Fld) : (c.lockAct a).f y = c.f y := (rfl)
@[simp] theorem Chip.lockAct_b (c : Chip) (a : LockAct) (y : Fld) : (c.lockAct a).b y = c.b y := (rfl)
@[simp] theorem Chip.lockAct_fi (c : Chip) (a : LockAct) (y : Fld) : (c.lockAct a).fi y = c.fi y := (rfl)
@[simp] theorem Chip.lockAct_rail (c : Chip) (a : LockAct) (i : Nat) : (c.lockAct a).rail i = c.rail i := (rfl)
@[simp] theorem Chip.lockAct_phase (c : Chip) (a : LockAct) (i : Nat) : (c.lockAct a).phase i = c.phase i := (rfl)
@[simp] theorem Chip.lockAct_comp (c : Chip) (a : LockAct) (i j : Nat) : (c.lockAct a).comp i j = c.comp i j := (rfl)
@[simp] theorem Chip.lockAct_tmonH (c : Chip) (a : LockAct) (i : Nat) : (c.lockAct a).tmonH i = c.tmonH i := (rfl)
@[simp] theorem Chip.lockAct_ni (c : Chip) (a : LockAct) (i : Nat) : (c.lockAct a).ni i = c.ni i := (rfl)
@[simp] theorem Chip.lockAct_tag (c : Chip) (a : LockAct) (i j : Nat) : (c.lockAct a).tag i j = c.tag i j := (rfl)
@[simp] theorem Chip.lockAct_tile (c : Chip) (a : LockAct) (i : Nat) : (c.lockAct a).tile i = c.tile i := (rfl)
@[simp] theorem Chip.lockAct_ten (c : Chip) (a : LockAct) (i : Nat) : (c.lockAct a).ten i = c.ten i := (rfl)
@[simp] theorem Chip.lockAct_portH (c : Chip) (a : LockAct) (i : Nat) : (c.lockAct a).portH i = c.portH i := (rfl)
@[simp] theorem Chip.lockAct_avs (c : Chip) (a : LockAct) (i : Nat) : (c.lockAct a).avs i = c.avs i := (rfl)
@[simp] theorem Chip.lockAct_inChan (c : Chip) (a : LockAct) (i j : Nat) : (c.lockAct a).inChan i j = c.inChan i j := (rfl)

/-! ### Records read after they are written -/

@[simp] theorem rail_setRail (c : Chip) (r : Nat) (h : RailH) : (c.setRail r h).rail r = h := by simp [Chip.rail, Chip.setRail]
@[simp] theorem phase_setPhase (c : Chip) (p : Nat) (h : PhaseH) : (c.setPhase p h).phase p = h := by simp [Chip.phase, Chip.setPhase]
@[simp] theorem comp_setComp (c : Chip) (r k : Nat) (h : Comp) : (c.setComp r k h).comp r k = h := by simp [Chip.comp, Chip.setComp]
@[simp] theorem tmonH_setTmonH (c : Chip) (t : Nat) (h : TmonH) : (c.setTmonH t h).tmonH t = h := by simp [Chip.tmonH, Chip.setTmonH]
@[simp] theorem ni_setNi (c : Chip) (n : Nat) (h : Ni) : (c.setNi n h).ni n = h := by simp [Chip.ni, Chip.setNi]
@[simp] theorem tag_setTag (c : Chip) (n t : Nat) (h : Tag) : (c.setTag n t h).tag n t = h := by simp [Chip.tag, Chip.setTag]
@[simp] theorem tile_setTile (c : Chip) (t : Nat) (h : Tile) : (c.setTile t h).tile t = h := by simp [Chip.tile, Chip.setTile]
@[simp] theorem ten_setTen (c : Chip) (t : Nat) (h : TenH) : (c.setTen t h).ten t = h := by simp [Chip.ten, Chip.setTen]
@[simp] theorem portH_setPortH (c : Chip) (q : Nat) (h : PortH) : (c.setPortH q h).portH q = h := by simp [Chip.portH, Chip.setPortH]
@[simp] theorem avs_setAvs (c : Chip) (p : Nat) (h : AvsH) : (c.setAvs p h).avs p = h := by simp [Chip.avs, Chip.setAvs]
@[simp] theorem inChan_setInChan (c : Chip) (n k : Nat) (h : InChan) : (c.setInChan n k h).inChan n k = h := by
  simp [Chip.inChan, Chip.setInChan]

theorem rail_setRail_ne (c : Chip) {r q : Nat} (h : RailH) (hq : q ≠ r) : (c.setRail r h).rail q = c.rail q := by
  simp [Chip.rail, Chip.setRail, mget_mset_ne _ _ _ _ _ hq]
theorem phase_setPhase_ne (c : Chip) {p q : Nat} (h : PhaseH) (hq : q ≠ p) : (c.setPhase p h).phase q = c.phase q := by
  simp [Chip.phase, Chip.setPhase, mget_mset_ne _ _ _ _ _ hq]
theorem ni_setNi_ne (c : Chip) {n m : Nat} (h : Ni) (hm : m ≠ n) : (c.setNi n h).ni m = c.ni m := by
  simp [Chip.ni, Chip.setNi, mget_mset_ne _ _ _ _ _ hm]
theorem tile_setTile_ne (c : Chip) {t u : Nat} (h : Tile) (hu : u ≠ t) : (c.setTile t h).tile u = c.tile u := by
  simp [Chip.tile, Chip.setTile, mget_mset_ne _ _ _ _ _ hu]
theorem ten_setTen_ne (c : Chip) {t u : Nat} (h : TenH) (hu : u ≠ t) : (c.setTen t h).ten u = c.ten u := by
  simp [Chip.ten, Chip.setTen, mget_mset_ne _ _ _ _ _ hu]

/-! ### How a command runs -/

/-- A command answers a next state: its effect, then what it asked of LOCK; the queue stays. -/
theorem run_next (s : State) (f : LockUnit → Chip → Chip) :
    s.run f = .next { s with
      lock := (drainLock s.lock { f s.lock s.chip with lockActs := [] } (f s.lock s.chip).lockActs).1,
      chip := (drainLock s.lock { f s.lock s.chip with lockActs := [] } (f s.lock s.chip).lockActs).2 } := rfl

/-- A command that asks nothing of LOCK leaves it as it is. -/
theorem run_quiet (s : State) (f : LockUnit → Chip → Chip) (h : (f s.lock s.chip).lockActs = []) :
    s.run f = .next { s with chip := f s.lock s.chip } := by
  have e : { f s.lock s.chip with lockActs := [] } = f s.lock s.chip := by
    cases hc : f s.lock s.chip; simp_all
  rw [run_next, e, h]; rfl

theorem runC_quiet (s : State) (f : Chip → Chip) (h : (f s.chip).lockActs = []) : s.runC f = .next { s with chip := f s.chip } :=
  run_quiet s (fun _ c => f c) h

end Sys2Proof.Machine
end

