-- ==== Sys2Proof/Laws/Reports.lean ====
section
/-! SUPPORT. What the shared operations that report can change: `Chip.Reports A c d` says that `d` is `c` but for registers at
addresses in `A`, the Lattice, SEQ's own events, the hosts' latched status, and free values taken. -/

namespace Sys2Proof.Machine

/-- `d` is `c` but for registers in `A`, the Lattice, SEQ's local events, the HUB's records and the free-value counter. -/
structure Chip.Reports (A : Nat → Prop) (c d : Chip) : Prop where
  reg : ∀ a, ¬ A a → d.reg a = c.reg a
  rest : d = { c with regs := d.regs, hwBits := d.hwBits, lat := d.lat, seq := d.seq, hub := d.hub, fresh := d.fresh }

namespace Chip.Reports

variable {A B : Nat → Prop} {c d e : Chip}

theorem refl (A : Nat → Prop) (c : Chip) : Reports A c c := ⟨fun _ _ => rfl, rfl⟩

theorem trans (h : Reports A c d) (g : Reports A d e) : Reports A c e :=
  ⟨fun a ha => (g.reg a ha).trans (h.reg a ha), by rw [g.rest, h.rest]⟩

theorem mono (h : Reports A c d) (hs : ∀ a, A a → B a) : Reports B c d := ⟨fun a ha => h.reg a (fun x => ha (hs a x)), h.rest⟩

theorem f (h : Reports A c d) (x : Fld) (hx : ¬ A x.addr) : d.f x = c.f x := by simp [Chip.f, h.reg _ hx]
theorem b (h : Reports A c d) (x : Fld) (hx : ¬ A x.addr) : d.b x = c.b x := by simp [Chip.b, h.f x hx]
theorem fi (h : Reports A c d) (x : Fld) (hx : ¬ A x.addr) : d.fi x = c.fi x := by simp [Chip.fi, h.f x hx]

theorem beat (h : Reports A c d) : d.beat = c.beat := by rw [h.rest]
theorem clock (h : Reports A c d) : d.clock = c.clock := by rw [h.rest]
theorem image (h : Reports A c d) : d.image = c.image := by rw [h.rest]
theorem driveOff (h : Reports A c d) : d.driveOff = c.driveOff := by rw [h.rest]
theorem rl (h : Reports A c d) : d.rl = c.rl := by rw [h.rest]
theorem pl (h : Reports A c d) : d.pl = c.pl := by rw [h.rest]
theorem gl (h : Reports A c d) : d.gl = c.gl := by rw [h.rest]
theorem tl (h : Reports A c d) : d.tl = c.tl := by rw [h.rest]
theorem mem (h : Reports A c d) : d.mem = c.mem := by rw [h.rest]
theorem ecc (h : Reports A c d) : d.ecc = c.ecc := by rw [h.rest]
theorem xmem (h : Reports A c d) : d.xmem = c.xmem := by rw [h.rest]
theorem tw (h : Reports A c d) : d.tw = c.tw := by rw [h.rest]
theorem sw (h : Reports A c d) : d.sw = c.sw := by rw [h.rest]
theorem pw (h : Reports A c d) : d.pw = c.pw := by rw [h.rest]
theorem trc (h : Reports A c d) : d.trc = c.trc := by rw [h.rest]
theorem skb (h : Reports A c d) : d.skb = c.skb := by rw [h.rest]
theorem nvc (h : Reports A c d) : d.nvc = c.nvc := by rw [h.rest]
theorem tap (h : Reports A c d) : d.tap = c.tap := by rw [h.rest]
theorem lockActs (h : Reports A c d) : d.lockActs = c.lockActs := by rw [h.rest]
theorem resp (h : Reports A c d) : d.resp = c.resp := by rw [h.rest]

theorem rail (h : Reports A c d) (r : Nat) : d.rail r = c.rail r := by simp [Chip.rail, h.rl]
theorem phase (h : Reports A c d) (p : Nat) : d.phase p = c.phase p := by simp [Chip.phase, h.rl]
theorem tile (h : Reports A c d) (t : Nat) : d.tile t = c.tile t := by simp [Chip.tile, h.tl]

theorem forN {n : Nat} {g : Nat → Chip → Chip} (hg : ∀ i c, i < n → Reports A c (g i c)) (c : Chip) : Reports A c (forN n g c) :=
  forN_keeps (Reports A c) n g (fun i d hi hd => hd.trans (hg i d hi)) c (refl A c)

theorem forL {α : Type} {l : List α} {g : α → Chip → Chip} (hg : ∀ i c, i ∈ l → Reports A c (g i c)) (c : Chip) : Reports A c (forL l g c) :=
  forL_keeps (Reports A c) l g (fun i d hi hd => hd.trans (hg i d hi)) c (refl A c)

end Chip.Reports

open Chip (Reports)

theorem reports_put {A : Nat → Prop} (c : Chip) (x : Fld) (v : Nat) (hx : A x.addr) : Reports A c (c.put x v) :=
  ⟨fun _ ha => reg_put_ne c x v (fun e => ha (e ▸ hx)), rfl⟩
theorem reports_putB {A : Nat → Prop} (c : Chip) (x : Fld) (v : Bool) (hx : A x.addr) : Reports A c (c.putB x v) := reports_put c x _ hx
theorem reports_inc {A : Nat → Prop} (c : Chip) (x : Fld) (hx : A x.addr) : Reports A c (c.inc x) := reports_put c x _ hx
theorem reports_setReg {A : Nat → Prop} (c : Chip) (a : Nat) (w : Word) (hx : A a) : Reports A c (c.setReg a w) :=
  ⟨fun _ hb => reg_setReg_ne c w (fun e => hb (e ▸ hx)), rfl⟩
theorem reports_setNi (A : Nat → Prop) (c : Chip) (n : Nat) (h : Ni) : Reports A c (c.setNi n h) := ⟨fun _ _ => rfl, rfl⟩
theorem reports_setTag (A : Nat → Prop) (c : Chip) (n t : Nat) (h : Tag) : Reports A c (c.setTag n t h) := ⟨fun _ _ => rfl, rfl⟩
theorem reports_setLatched (A : Nat → Prop) (c : Chip) (q p v : Nat) : Reports A c (c.setLatched q p v) := ⟨fun _ _ => rfl, rfl⟩
theorem reports_setTen (A : Nat → Prop) (c : Chip) (t : Nat) (h : TenH) : Reports A c (c.setTen t h) := ⟨fun _ _ => rfl, rfl⟩
theorem reports_setPortH (A : Nat → Prop) (c : Chip) (t : Nat) (h : PortH) : Reports A c (c.setPortH t h) := ⟨fun _ _ => rfl, rfl⟩
theorem reports_setAvs (A : Nat → Prop) (c : Chip) (t : Nat) (h : AvsH) : Reports A c (c.setAvs t h) := ⟨fun _ _ => rfl, rfl⟩
theorem reports_freeWord (A : Nat → Prop) (c : Chip) : Reports A c c.freeWord.2 := ⟨fun _ _ => rfl, rfl⟩
theorem reports_freeBit (A : Nat → Prop) (c : Chip) : Reports A c c.freeBit.2 := ⟨fun _ _ => rfl, rfl⟩

/-! ### Events -/

/-- The error registers of an NI block (R289). -/
def niErrRegs (n a : Nat) : Prop := niBase n + 0x10 ≤ a ∧ a < niBase n + 0x50

theorem reports_hwOr {A : Nat → Prop} (c : Chip) (x : Fld) (v : Nat) (hx : A x.addr) : Reports A c (c.hwOr x v) := by
  refine ⟨fun a ha => ?_, rfl⟩
  exact reg_put_ne c x _ (fun e => ha (e ▸ hx))

theorem reports_errRec (c : Chip) (n k : Nat) (h : Hdr) (peer : Nat) : Reports (niErrRegs n) c (c.errRec n k h peer) := by
  unfold Chip.errRec
  refine Chip.Reports.trans ?_ (reports_put _ _ _ (by simp [niErrRegs, Reg.Ni.LAST_ERR_BEAT_HI, Reg.Ni.base]))
  refine Chip.Reports.trans ?_ (reports_put _ _ _ (by simp [niErrRegs, Reg.Ni.LAST_ERR_BEAT_LO, Reg.Ni.base]))
  refine Chip.Reports.trans ?_ (reports_put _ _ _ (by simp [niErrRegs, Reg.Ni.LAST_ERR_OFFSET, Reg.Ni.base]))
  refine Chip.Reports.trans ?_ (reports_put _ _ _ (by simp [niErrRegs, Reg.Ni.LAST_ERR_STATUS, Reg.Ni.base]))
  refine Chip.Reports.trans ?_ (reports_put _ _ _ (by simp [niErrRegs, Reg.Ni.LAST_ERR_TENANT, Reg.Ni.base]))
  refine Chip.Reports.trans ?_ (reports_put _ _ _ (by simp [niErrRegs, Reg.Ni.LAST_ERR_PEER, Reg.Ni.base]))
  refine Chip.Reports.trans ?_ (reports_put _ _ _ (by simp [niErrRegs, Reg.Ni.LAST_ERR_GEN, Reg.Ni.base]))
  refine Chip.Reports.trans ?_ (reports_put _ _ _ (by simp [niErrRegs, Reg.Ni.LAST_ERR_TAG, Reg.Ni.base]))
  refine Chip.Reports.trans ?_ (reports_put _ _ _ (by simp [niErrRegs, Reg.Ni.LAST_ERR_KIND, Reg.Ni.base]))
  exact reports_hwOr _ _ _ (by simp [niErrRegs])

theorem reports_dropRec (c : Chip) (n : Nat) (h : Hdr) (peer : Nat) : Reports (niErrRegs n) c (c.dropRec n h peer) :=
  (reports_inc c _ (by simp [niErrRegs, Reg.Ni.DROP_CNT, Reg.Ni.base])).trans (reports_errRec _ _ _ _ _)

theorem reports_send3Rec (c : Chip) (n : Nat) (p : Pkt) : Reports (niErrRegs n) c (c.send3Rec n p) := by
  unfold Chip.send3Rec
  split
  · exact reports_dropRec _ _ _ _
  · exact reports_setNi _ _ _ _

theorem reports_postBy {A : Nat → Prop} (c : Chip) (send : Chip → Pkt → Chip) (hs : ∀ d p, Reports A d (send d p)) (n t k : Nat)
    (p : List Word) : Reports A c (c.postBy send n t k p) := by
  unfold Chip.postBy
  split
  · exact ⟨fun _ _ => rfl, rfl⟩
  · exact (reports_setNi A c n _).trans (hs _ _)

theorem reports_latticeErr (c : Chip) (n k : Nat) : Reports (niErrRegs n) c (c.latticeErr n k) := by
  unfold Chip.latticeErr
  simp only []
  cases (c.ni n).errPost <;> simp only [] <;> split
  all_goals first
    | exact (reports_setNi _ c n _).trans (reports_postBy _ (fun c p => c.send3Rec n p) (fun d p => reports_send3Rec d n p) _ _ _ _)
    | exact Chip.Reports.refl _ _

theorem reports_niErr (c : Chip) (n k : Nat) (h : Hdr) (peer : Nat) : Reports (niErrRegs n) c (c.niErr n k h peer) :=
  (reports_errRec _ _ _ _ _).trans (reports_latticeErr _ _ _)

theorem reports_dropErr (c : Chip) (n : Nat) (h : Hdr) (peer : Nat) : Reports (niErrRegs n) c (c.dropErr n h peer) :=
  (reports_dropRec _ _ _ _).trans (reports_latticeErr _ _ _)

theorem reports_send3 (c : Chip) (n : Nat) (p : Pkt) : Reports (niErrRegs n) c (c.send3 n p) := by
  unfold Chip.send3
  split
  · exact reports_dropErr _ _ _ _
  · exact reports_send3Rec _ _ _

theorem reports_postWords (c : Chip) (n t k : Nat) (p : List Word) : Reports (niErrRegs n) c (c.postWords n t k p) :=
  reports_postBy _ _ (fun d q => reports_send3 d n q) _ _ _ _

theorem reports_post (c : Chip) (n cls idx : Nat) (fs : List (Nat × Nat)) : Reports (niErrRegs n) c (c.post n cls idx fs) :=
  reports_postWords _ _ _ _ _

theorem reports_ceilClamp (c : Chip) (n i t : Nat) : Reports (niErrRegs n) c (c.ceilClamp n i t) :=
  (reports_freeWord _ c).trans (reports_post _ _ _ _ _)

theorem reports_note (A : Nat → Prop) (c : Chip) (r m : Nat) : Reports A c (c.note r m) :=
  (reports_setLatched A c _ _ _).trans (reports_setLatched A _ _ _ _)

theorem reports_respond (A : Nat → Prop) (c : Chip) (n : Nat) (p : Pkt) : Reports A c (c.respond n p) := reports_setNi _ _ _ _
theorem reports_ask (A : Nat → Prop) (c : Chip) (n : Nat) (p : Pkt) (o : Owner) : Reports A c (c.ask n p o) := reports_setNi _ _ _ _

/-- The AVSBus blocks (R625). -/
def avsRegs (a : Nat) : Prop := 0x1000400 ≤ a ∧ a < 0x1000480

theorem reports_avsLatch (c : Chip) (r : Nat) : Reports avsRegs c (c.avsLatch r) := by
  unfold Chip.avsLatch
  refine Chip.Reports.forN (fun i d hi => ?_) c
  split
  · exact reports_putB _ _ _ (by simp [avsRegs, Reg.Avs.ALERT, Reg.Avs.base]; omega)
  · exact Chip.Reports.refl _ _

/-! ### Rails -/

/-- The status words of the phases. -/
def phaseStat (a : Nat) : Prop := ∃ p < 96, a = (Reg.Phase.LEVEL p).addr

theorem reports_level (c : Chip) (p l : Nat) (hp : p < 96) : Reports phaseStat c (c.level p l) := reports_put _ _ _ ⟨p, hp, rfl⟩

theorem mem_mapped (c : Chip) (r p : Nat) (h : p ∈ c.mapped r) : p < 96 := by
  simp [Chip.mapped] at h; exact h.1

theorem reports_railLevel (c : Chip) (r l : Nat) : Reports phaseStat c (c.railLevel r l) := by
  unfold Chip.railLevel
  refine Chip.Reports.forL (fun p d hp => ?_) c
  split
  · exact Chip.Reports.refl _ _
  · exact reports_level _ _ _ (mem_mapped c r p hp)

/-- The words of CLAMP and STATUS of the rails. -/
def clampRegs (a : Nat) : Prop := ∃ r < 16, a = (Reg.Rail.CLAMP r).addr ∨ a = (Reg.Rail.CLAMPED r).addr

theorem reports_setClamp (c : Chip) (r v : Nat) (hr : r < 16) : Reports clampRegs c (c.setClamp r v) :=
  (reports_put _ _ _ ⟨r, hr, Or.inl rfl⟩).trans (reports_putB _ _ _ ⟨r, hr, Or.inr rfl⟩)

theorem reports_allocate (c : Chip) : Reports clampRegs c c.allocate := by
  unfold Chip.allocate
  refine Chip.Reports.forN (fun r d hr => ?_) c
  simp only []
  split <;> exact reports_setClamp _ _ _ hr

theorem reports_realloc (c : Chip) : Reports clampRegs c c.realloc := by
  unfold Chip.realloc
  split
  · exact reports_allocate c
  · exact Chip.Reports.refl _ _

end Sys2Proof.Machine
end

