-- ==== Sys2Proof/Laws/Rails.lean ====
section
/-! SUPPORT. What the operations of the rails can change: `Chip.Moves A c d` says that `d` is `c` but for registers at addresses in
`A`, the rails' records, droop episodes, and what `Chip.Reports` allows. -/

namespace Sys2Proof.Machine

/-- `d` is `c` but for registers in `A`, the rails' and SKB's records, and what an operation that reports may change. -/
structure Chip.Moves (A : Nat → Prop) (c d : Chip) : Prop where
  reg : ∀ a, ¬ A a → d.reg a = c.reg a
  rest : d = { c with regs := d.regs, hwBits := d.hwBits, lat := d.lat, seq := d.seq, hub := d.hub, fresh := d.fresh, rl := d.rl, skb := d.skb }

theorem Chip.Reports.moves {A : Nat → Prop} {c d : Chip} (h : Chip.Reports A c d) : Chip.Moves A c d := ⟨h.reg, by rw [h.rest]⟩

namespace Chip.Moves

variable {A B : Nat → Prop} {c d e : Chip}

theorem refl (A : Nat → Prop) (c : Chip) : Moves A c c := ⟨fun _ _ => rfl, rfl⟩
theorem trans (h : Moves A c d) (g : Moves A d e) : Moves A c e :=
  ⟨fun a ha => (g.reg a ha).trans (h.reg a ha), by rw [g.rest, h.rest]⟩
theorem mono (h : Moves A c d) (hs : ∀ a, A a → B a) : Moves B c d := ⟨fun a ha => h.reg a (fun x => ha (hs a x)), h.rest⟩

theorem f (h : Moves A c d) (x : Fld) (hx : ¬ A x.addr) : d.f x = c.f x := by simp [Chip.f, h.reg _ hx]
theorem b (h : Moves A c d) (x : Fld) (hx : ¬ A x.addr) : d.b x = c.b x := by simp [Chip.b, h.f x hx]
theorem fi (h : Moves A c d) (x : Fld) (hx : ¬ A x.addr) : d.fi x = c.fi x := by simp [Chip.fi, h.f x hx]

theorem beat (h : Moves A c d) : d.beat = c.beat := by rw [h.rest]
theorem clock (h : Moves A c d) : d.clock = c.clock := by rw [h.rest]
theorem image (h : Moves A c d) : d.image = c.image := by rw [h.rest]
theorem driveOff (h : Moves A c d) : d.driveOff = c.driveOff := by rw [h.rest]
theorem pl (h : Moves A c d) : d.pl = c.pl := by rw [h.rest]
theorem gl (h : Moves A c d) : d.gl = c.gl := by rw [h.rest]
theorem tl (h : Moves A c d) : d.tl = c.tl := by rw [h.rest]
theorem mem (h : Moves A c d) : d.mem = c.mem := by rw [h.rest]
theorem xmem (h : Moves A c d) : d.xmem = c.xmem := by rw [h.rest]
theorem tw (h : Moves A c d) : d.tw = c.tw := by rw [h.rest]
theorem sw (h : Moves A c d) : d.sw = c.sw := by rw [h.rest]
theorem pw (h : Moves A c d) : d.pw = c.pw := by rw [h.rest]
theorem trc (h : Moves A c d) : d.trc = c.trc := by rw [h.rest]
theorem nvc (h : Moves A c d) : d.nvc = c.nvc := by rw [h.rest]
theorem tap (h : Moves A c d) : d.tap = c.tap := by rw [h.rest]
theorem lockActs (h : Moves A c d) : d.lockActs = c.lockActs := by rw [h.rest]
theorem resp (h : Moves A c d) : d.resp = c.resp := by rw [h.rest]

theorem forN {n : Nat} {g : Nat → Chip → Chip} (hg : ∀ i c, i < n → Moves A c (g i c)) (c : Chip) : Moves A c (forN n g c) :=
  forN_keeps (Moves A c) n g (fun i d hi hd => hd.trans (hg i d hi)) c (refl A c)
theorem forL {α : Type} {l : List α} {g : α → Chip → Chip} (hg : ∀ i c, i ∈ l → Moves A c (g i c)) (c : Chip) : Moves A c (forL l g c) :=
  forL_keeps (Moves A c) l g (fun i d hi hd => hd.trans (hg i d hi)) c (refl A c)

end Chip.Moves

theorem moves_put {A : Nat → Prop} (c : Chip) (x : Fld) (v : Nat) (hx : A x.addr) : Chip.Moves A c (c.put x v) := (reports_put c x v hx).moves
theorem moves_putB {A : Nat → Prop} (c : Chip) (x : Fld) (v : Bool) (hx : A x.addr) : Chip.Moves A c (c.putB x v) := moves_put c x _ hx
theorem moves_putI {A : Nat → Prop} (c : Chip) (x : Fld) (v : Int) (hx : A x.addr) : Chip.Moves A c (c.putI x v) := moves_put c x _ hx
theorem moves_inc {A : Nat → Prop} (c : Chip) (x : Fld) (hx : A x.addr) : Chip.Moves A c (c.inc x) := moves_put c x _ hx
theorem moves_setRail (A : Nat → Prop) (c : Chip) (r : Nat) (h : RailH) : Chip.Moves A c (c.setRail r h) := ⟨fun _ _ => rfl, rfl⟩
theorem moves_setPhase (A : Nat → Prop) (c : Chip) (p : Nat) (h : PhaseH) : Chip.Moves A c (c.setPhase p h) := ⟨fun _ _ => rfl, rfl⟩
theorem moves_setComp (A : Nat → Prop) (c : Chip) (r k : Nat) (h : Comp) : Chip.Moves A c (c.setComp r k h) := ⟨fun _ _ => rfl, rfl⟩
theorem moves_setTmonH (A : Nat → Prop) (c : Chip) (t : Nat) (h : TmonH) : Chip.Moves A c (c.setTmonH t h) := ⟨fun _ _ => rfl, rfl⟩
theorem moves_note (A : Nat → Prop) (c : Chip) (r m : Nat) : Chip.Moves A c (c.note r m) := (reports_note A c r m).moves

/-- The words of VNOW, CLAMP and STATUS of the rails, the phases' status words, the AVSBus blocks and the NI error
registers of B1: what a protection can change. -/
def protRegs (a : Nat) : Prop :=
  (∃ r < 16, a = (Reg.Rail.VNOW r).addr ∨ a = (Reg.Rail.CLAMP r).addr ∨ a = (Reg.Rail.CLAMPED r).addr) ∨ phaseStat a ∨ avsRegs a ∨ niErrRegs 18 a

/-- Every field of STATUS is one of them. -/
theorem protRegs_status {r a : Nat} (hr : r < 16) (ha : a = (Reg.Rail.CLAMPED r).addr) : protRegs a := Or.inl ⟨r, hr, Or.inr (Or.inr ha)⟩
theorem protRegs_vnow {r : Nat} (hr : r < 16) : protRegs (Reg.Rail.VNOW r).addr := Or.inl ⟨r, hr, Or.inl rfl⟩
theorem protRegs_clamp {a : Nat} (h : clampRegs a) : protRegs a := by
  obtain ⟨r, hr, h⟩ := h; exact Or.inl ⟨r, hr, Or.inr h⟩
theorem protRegs_ni {a : Nat} (h : niErrRegs 18 a) : protRegs a := Or.inr (Or.inr (Or.inr h))
theorem protRegs_avs {a : Nat} (h : avsRegs a) : protRegs a := Or.inr (Or.inr (Or.inl h))
theorem protRegs_phase {a : Nat} (h : phaseStat a) : protRegs a := Or.inr (Or.inl h)

theorem moves_realloc (c : Chip) : Chip.Moves protRegs c c.realloc := ((reports_realloc c).mono fun _ => protRegs_clamp).moves
theorem moves_post18 (c : Chip) (cls idx : Nat) (fs : List (Nat × Nat)) : Chip.Moves protRegs c (c.post 18 cls idx fs) :=
  ((reports_post c 18 cls idx fs).mono fun _ => protRegs_ni).moves
theorem moves_railLevel (c : Chip) (r l : Nat) : Chip.Moves protRegs c (c.railLevel r l) := ((reports_railLevel c r l).mono fun _ => protRegs_phase).moves
theorem moves_avsLatch (c : Chip) (r : Nat) : Chip.Moves protRegs c (c.avsLatch r) := ((reports_avsLatch c r).mono fun _ => protRegs_avs).moves
theorem moves_level (c : Chip) (p l : Nat) (hp : p < 96) : Chip.Moves protRegs c (c.level p l) := ((reports_level c p l hp).mono fun _ => protRegs_phase).moves

theorem moves_putB18 (c : Chip) (x : Fld) (v : Bool) (p : Nat) (hp : p < 96) (hx : x.addr = (Reg.Phase.LEVEL p).addr) :
    Chip.Moves protRegs c (c.putB x v) := moves_putB c x v (protRegs_phase ⟨p, hp, hx⟩)

theorem moves_rest (c : Chip) (p : Nat) (hp : p < 96) : Chip.Moves protRegs c (c.rest p) :=
  (moves_setPhase _ _ _ _).trans (moves_level _ _ _ hp)

theorem moves_railRest (c : Chip) (r : Nat) : Chip.Moves protRegs c (c.railRest r) :=
  Chip.Moves.forL (fun p d hp => moves_rest d p (mem_mapped c r p hp)) c

theorem moves_syncForced (c : Chip) (p : Nat) (hp : p < 96) : Chip.Moves protRegs c (c.syncForced p) := moves_putB18 _ _ _ p hp rfl

theorem moves_syncRail (c : Chip) (r : Nat) : Chip.Moves protRegs c (c.syncRail r) := by
  refine Chip.Moves.forN (fun p d hp => ?_) c
  split
  · exact moves_syncForced _ _ hp
  · exact Chip.Moves.refl _ _

theorem moves_episodeEnd (A : Nat → Prop) (c : Chip) (r : Nat) : Chip.Moves A c (c.episodeEnd r) := by
  unfold Chip.episodeEnd; simp only []
  split <;> exact ⟨fun _ _ => rfl, rfl⟩

theorem moves_setDroop (c : Chip) (r k : Nat) (v : Bool) (hr : r < 16) : Chip.Moves protRegs c (c.setDroop r k v) :=
  moves_put _ (Reg.Rail.DROOP r) _ (protRegs_status hr rfl)

theorem moves_updDroop (c : Chip) (r : Nat) (hr : r < 16) : Chip.Moves protRegs c (c.updDroop r) := by
  unfold Chip.updDroop
  refine Chip.Moves.forN (fun k d _ => ?_) c
  unfold Chip.updComp; simp only []
  generalize (if d.polOver r k = true then decide (1023 < d.thrRaw r k) else decide (d.thrRaw r k ≤ 0)) = q
  split
  · exact (moves_setComp _ _ _ _ _).trans ((moves_setDroop _ _ _ _ hr).trans (moves_episodeEnd _ _ _))
  · exact moves_setComp _ _ _ _ _

theorem moves_prebiasEnd (A : Nat → Prop) (c : Chip) (r : Nat) : Chip.Moves A c (c.prebiasEnd r) := by
  unfold Chip.prebiasEnd; simp only []
  split
  · exact moves_setRail _ _ _ _
  · exact Chip.Moves.refl _ _

theorem moves_latchRail (c : Chip) (r cause : Nat) (hr : r < 16) : Chip.Moves protRegs c (c.latchRail r cause) := by
  unfold Chip.latchRail; simp only []
  split
  · exact moves_setRail _ _ _ _
  · split
    · split
      · exact (moves_put _ (Reg.Rail.OFF_CAUSE r) _ (protRegs_status hr rfl)).trans (moves_note _ _ _ _)
      · exact Chip.Moves.refl _ _
    · refine Chip.Moves.trans ?_ (moves_post18 _ _ _ _)
      refine Chip.Moves.trans ?_ (moves_syncRail _ _)
      refine Chip.Moves.trans ?_ (moves_realloc _)
      refine Chip.Moves.trans ?_ (moves_railRest _ _)
      refine Chip.Moves.trans ?_ (moves_setRail _ _ _ _)
      refine Chip.Moves.trans ?_ (moves_put _ (Reg.Rail.OFF_CAUSE r) _ (protRegs_status hr rfl))
      refine Chip.Moves.trans ?_ (moves_putB _ (Reg.Rail.OFF_LATCHED r) _ (protRegs_status hr rfl))
      exact (moves_note _ _ _ _).trans (moves_avsLatch _ _)

theorem moves_ovStep (c : Chip) (r v : Nat) (hr : r < 16) : Chip.Moves protRegs c (c.ovStep r v) := by
  unfold Chip.ovStep; simp only []
  split
  · split
    · split
      · exact moves_setRail _ _ _ _
      · generalize hd : (c.putB (Reg.Rail.OV_ACTIVE r) false).setRail r _ = d
        have hm : Chip.Moves protRegs c d := hd ▸ (moves_putB c (Reg.Rail.OV_ACTIVE r) _ (protRegs_status hr rfl)).trans (moves_setRail _ _ _ _)
        refine hm.trans ?_
        split
        · exact moves_latchRail _ _ _ hr
        · split
          · exact moves_latchRail _ _ _ hr
          · split
            · exact (moves_railRest _ _).trans (moves_syncRail _ _)
            · exact (moves_setRail _ _ _ _).trans (moves_syncRail _ _)
    · exact moves_setRail _ _ _ _
  · split
    · split
      · split
        · exact moves_setRail _ _ _ _
        · refine Chip.Moves.trans ?_ (moves_post18 _ _ _ _)
          refine Chip.Moves.trans ?_ (moves_syncRail _ _)
          refine Chip.Moves.trans ?_ (moves_railRest _ _)
          refine Chip.Moves.trans ?_ (moves_put _ (Reg.Rail.OV_COUNT r) _ (protRegs_status hr rfl))
          refine Chip.Moves.trans ?_ (moves_putB _ (Reg.Rail.OV_ACTIVE r) _ (protRegs_status hr rfl))
          exact (moves_note _ _ _ _).trans (moves_setRail _ _ _ _)
      · exact moves_setRail _ _ _ _
    · exact moves_setRail _ _ _ _

theorem moves_slewStep (c : Chip) (r n : Nat) (hr : r < 16) : Chip.Moves protRegs c (c.slewStep r n) := by
  unfold Chip.slewStep; simp only []
  refine Chip.Moves.trans ?_ (moves_prebiasEnd _ _ _)
  refine Chip.Moves.trans ?_ (moves_updDroop _ _ hr)
  exact (moves_put _ _ _ (protRegs_vnow hr)).trans (moves_setRail _ _ _ _)

theorem moves_slewStart (c : Chip) (r : Nat) (hr : r < 16) : Chip.Moves protRegs c (c.slewStart r) := by
  unfold Chip.slewStart; simp only []
  split
  · exact (moves_setRail _ _ _ _).trans (moves_slewStep _ _ _ hr)
  · exact moves_setRail _ _ _ _

theorem moves_railMid (c : Chip) (r : Nat) (hr : r < 16) : Chip.Moves protRegs c (c.railMid r) := by
  unfold Chip.railMid
  refine Chip.Moves.trans ?_ (moves_post18 _ _ _ _)
  refine Chip.Moves.trans ?_ (moves_put _ (Reg.Rail.OFF_CAUSE r) _ (protRegs_status hr rfl))
  exact (moves_setRail _ _ _ _).trans (moves_railRest _ _)

end Sys2Proof.Machine
end

