-- ==== Sys2Proof/Laws/Slots.lean ====
section
/-! SUPPORT. The slot tables: they reset to 0, an empty schedule leaves them so, and passes every load check but that of its map. -/

namespace Sys2Proof.Machine

open Reg

/-- The rows of the map that may touch a slot table have Reset 0 or image. -/
theorem rows_of_slots : ∀ b ∈ regBlocks, b.base + b.stride * b.count ≤ 0x1F00400 ∨ 0x1F00600 ≤ b.base ∨ (b.base = 0x1F00000 ∧ b.stride = 2048
    ∧ ∀ r ∈ b.rows, (r.rst = .num 0 ∨ r.rst = .image) ∨ r.off + r.stride * r.count + 4 ≤ 0x400 ∧ r.off < 0x400 ∨ 0x600 ≤ r.off) := by decide +kernel

theorem setBits_zero (hi lo : Nat) : setBits 0 hi lo 0 = 0 := by simp [setBits]

theorem regDefault_slot (a : Nat) (h1 : 0x1F00400 ≤ a % 0x2000000) (h2 : a % 0x2000000 < 0x1F00600) : regDefault a = 0 := by
  have hi : imageBase a = 0 := by
    unfold imageBase
    rw [if_neg]
    simp only [List.mem_cons, List.not_mem_nil, or_false]
    omega
  have hr : ∀ r ∈ fieldsAt a, r.reset (a / 0x2000000) (imageBase a).toNat = 0 := by
    intro r hr
    simp only [fieldsAt, List.mem_flatMap] at hr
    obtain ⟨b, hb, hr⟩ := hr
    unfold RegBlock.inside at hr
    split at hr
    · rename_i o ho
      split at ho
      · rename_i hc
        simp only [Bool.and_eq_true, decide_eq_true_eq] at hc
        simp only [Option.some.injEq] at ho
        obtain ⟨hm, ha⟩ := List.mem_filter.mp hr
        rcases rows_of_slots b hb with h | h | ⟨hb1, hb2, h⟩
        · omega
        · omega
        · rw [hb1, hb2] at ho
          have hoo : o = a % 0x2000000 - 0x1F00000 := by omega
          rcases h r hm with h | h
          · rcases h with h | h <;> simp [FieldRow.reset, h, hi, bits]
          · unfold FieldRow.at at ha
            split at ha
            · simp at ha; omega
            · simp at ha; omega
      · simp at ho
    · simp at hr
  have : ∀ (l : List FieldRow), (∀ r ∈ l, r.reset (a / 0x2000000) (imageBase a).toNat = 0) →
      l.foldl (fun n r => setBits n r.hi r.lo (r.reset (a / 0x2000000) (imageBase a).toNat)) 0 = 0 := by
    intro l
    induction l with
    | nil => intro _; rfl
    | cons r l ih => intro h; rw [List.foldl_cons, h r (by simp), setBits_zero]; exact ih fun x hx => h x (by simp [hx])
  simp [regDefault, this _ hr]

theorem mdel_unlisted {α : Type} (k : Nat) (m : Map α) (h : ∀ e ∈ m, e.1 ≠ k) : mdel k m = m := by
  induction m with
  | nil => rfl
  | cons e m ih =>
    obtain ⟨n, v⟩ := e
    simp only [mdel, if_neg (h (n, v) (by simp))]
    rw [ih fun e he => h e (by simp [he])]

theorem mget_unlisted {α : Type} (d : α) (k : Nat) (m : Map α) (h : ∀ e ∈ m, e.1 ≠ k) : mget d m k = d := by
  induction m with
  | nil => rfl
  | cons e m ih =>
    obtain ⟨n, v⟩ := e
    simp only [mget, if_neg (h (n, v) (by simp))]
    exact ih fun e he => h e (by simp [he])

/-- No slot-table word is listed. -/
def NoSlots (m : Map Word) : Prop := ∀ e ∈ m, e.1 % 0x2000000 < 0x1F00400 ∨ 0x1F00600 ≤ e.1 % 0x2000000

theorem slotWord_range (n i k : Nat) (hi : i < 64) (hk : k < 2) :
    0x1F00400 ≤ ((Slot.BEAT n i).addr + 4 * k) % 0x2000000 ∧ ((Slot.BEAT n i).addr + 4 * k) % 0x2000000 < 0x1F00600 := by
  simp only [Slot.BEAT, Slot.base, niBase, nodeBase]
  omega

theorem putSlots_empty (c d : Chip) (hr : NoSlots c.regs) (hi : NoSlots c.image) : c.putSlots { chip := d } false = c := by
  have hw : ∀ n i k, ({ chip := d } : Load).slotWord n i k = 0 := fun n i k => by simp [Load.slotWord, mget, ofBytes, List.range, List.range.loop]
  refine forN_keeps (· = c) _ _ (fun n s hn hs => ?_) c rfl
  refine forN_keeps (· = c) _ _ (fun i s hb hs => ?_) s hs
  refine forN_keeps (· = c) _ _ (fun k s hk hs => ?_) s hs
  obtain ⟨h1, h2⟩ := slotWord_range n i k hb hk
  have e : ∀ m : Map Word, NoSlots m → mdel ((Slot.BEAT n i).addr + 4 * k) m = m := fun m hm => mdel_unlisted _ m fun x hx => by
    have := hm x hx
    intro hk
    rw [hk] at this
    omega
  subst hs
  simp [hw, Chip.setReg, mset, regDefault_slot _ h1 h2, e _ hr, e _ hi]

theorem kind_unlisted (c : Chip) (hr : NoSlots c.regs) (n i : Nat) (hi : i < 64) : c.f (Slot.KIND n i) = 0 := by
  obtain ⟨h1, h2⟩ := slotWord_range n i 0 hi (by omega)
  have ha : (Slot.KIND n i).addr = (Slot.BEAT n i).addr + 4 * 0 := rfl
  rw [Chip.f, Chip.reg, ha, mget_unlisted, regDefault_slot _ h1 h2]
  · simp [bits]
  · intro x hx hk
    have := hr x hx
    rw [hk] at this
    omega

theorem loadCheck_unused (c : Chip) (d : List Byte) (hv : vmapBad d = none) (h : ∀ n i, n < 49 → i < 64 → c.f (Slot.KIND n i) = 0) :
    c.loadCheck d = none := by
  have e : ∀ bad : Nat → Nat → Bool, (∀ n i, n < 49 → i < 64 → bad n i = false) → firstEntry bad = none := fun bad hb => by
    simp only [firstEntry, List.find?_eq_none, List.mem_flatMap, List.mem_map, List.mem_range]
    rintro _ ⟨n, hn, i, hi, rfl⟩
    simp [hb n i hn hi]
  simp only [Chip.loadCheck, hv, List.findSome?]
  rw [e c.badRange fun n i hn hi => by simp [Chip.badRange, Chip.used, h n i hn hi], e c.badOrder fun n i hn hi => by simp [Chip.badOrder, Chip.used, h n i hn hi],
    e c.badRoute fun n i hn hi => by simp [Chip.badRoute, Chip.isTx, h n i hn hi], e c.badPair fun n i hn hi => by simp [Chip.badPair, Chip.isTx, Chip.isRx, h n i hn hi],
    e c.badLink fun n i hn hi => by simp [Chip.badLink, Chip.isTx, h n i hn hi], e c.badChan fun n i hn hi => by simp [Chip.badChan, Chip.isRx, h n i hn hi]]
  rfl

/-- A schedule with no chunk and no relocation loads over unlisted slot tables. -/
theorem loadSched_empty (c : Chip) (u : LockUnit) (b : List Byte) (n : Nat) (locked : Bool)
    (h1 : schedChunks (secBytes b ((imgSec b 2 n).getD {})) = []) (h2 : relocs (secBytes b ((imgSec b 8 n).getD {})) = [])
    (hv : vmapBad (secBytes b ((imgSec b 2 n).getD {})) = none) (hr : NoSlots c.regs) (hi : NoSlots c.image) :
    (c.loadSched u b n locked false).1 = none := by
  simp only [Chip.loadSched, h1, h2, List.zipIdx_nil, forL, List.foldl_nil, Bool.false_and, putSlots_empty c c hr hi]
  exact loadCheck_unused c _ hv fun n i _ hb => kind_unlisted c hr n i hb

end Sys2Proof.Machine
end

