-- ==== Sys2Proof/Tests/Slice0.lean ====
section
/-! SUPPORT. Tests: worked examples of the spec, ill-formed commands, and for each statement of the certificate states and operands that
meet its hypotheses (`witness_…`: one conjunct per clause that has hypotheses of its own). -/

-- one kernel check at a time: each blocked check would hold a thread and its stack
set_option Elab.async false

namespace Sys2Proof.Tests

open Sys2Proof Sys2Proof.Machine Sys2Proof.Machine.Reg Sys2Proof.Slice0

/-- A Primary in RUN. -/
def run0 : Chip := ({ State.reset.chip with pw.mode := .run, pw.vddh := true } : Chip).put Dip.ROLE 2

/-- A Primary in RUN with a change. -/
def st (f : Chip → Chip) : State := { State.reset with chip := f run0 }

/-- P0's PRIV sender of tenant 0. -/
def p0 : Sender := { src := 1, tenant := 0, priv := true }

/-- A sender without PRIV, of tenant 1. -/
def t1 : Sender := { src := 1, tenant := 1, priv := false }

/-- The command answers, and `p` holds of the state it leaves. -/
def answers (i : Instr) (s : State) (p : State → Bool) : Bool :=
  match exec i s with
  | .next t => p t
  | _ => false

/-- Write `w` area bits of row `r` of a Glaze column, from bit `lo`. -/
def fset (col r lo w v : Nat) (c : Chip) : Chip :=
  (List.range w).foldl (fun c i =>
    let b := lo + i
    let k := 48 * (128 * col + 8 * r + b / 1536) + b % 1536 / 32
    { c with gl.frames := mset 0 c.gl.frames k (BitVec.ofNat 32 (setBits (mget 0 c.gl.frames k).toNat (b % 32) (b % 32) (v / 2 ^ i % 2))) }) c

/-- No update by the hardware stands, so none stands at any word. -/
theorem noUpdate_of_nil {s : State} (h : s.chip.hwBits = []) : NoUpdate s := fun a => by rw [h]; rfl

/-- LOCK has performed no act yet, so none in this beat. -/
theorem lockQuiet_of_none {s : State} (h : s.chip.lockWas = none) : LockQuiet s := fun w hw => by rw [h] at hw; cases hw

/-! ### Hypotheses of the statements -/

theorem witness_StepRunsTheFrontCommand : State.reset.pending = [] := by decide

theorem witness_LockStaysSound :
    let s := { st id with pending := [.lockAcquire p0 0 3 1] };
    Safety.lockSound s ∧ Between s ∧ (match step s with | .next _ => true | _ => false) = true := by unfold Safety.lockSound; decide +kernel

theorem witness_FastPathComparatorsAndLinesAct :
    (let s := st fun c => c.setComp 15 3 { dac := 100 };
      Between s ∧ (s.chip.comp 15 3).held = false ∧ s.chip.droopBit 15 3 = false ∧ s.chip.polOver 15 3 = false ∧ 799 < 8 * (s.chip.comp 15 3).dac)
    ∧ (let s := st fun c => (c.setComp 0 0 { dac := 100 }).put ⟨(Rail.OFS0 0).addr, 7, 7⟩ 1;
      (s.chip.comp 0 0).held = false ∧ s.chip.droopBit 0 0 = false ∧ s.chip.polOver 0 0 = true ∧ 8 * (s.chip.comp 0 0).dac < 801)
    ∧ (let s := st fun c => (c.setComp 0 0 { dac := 100 }).setDroop 0 0 true;
      s.chip.droopBit 0 0 = true ∧ s.chip.polOver 0 0 = false ∧ 8 * (s.chip.comp 0 0).dac + s.chip.droopHyst 0 ≤ 8191)
    ∧ (let s := st fun c => ((c.setComp 0 0 { dac := 100 }).put ⟨(Rail.OFS0 0).addr, 7, 7⟩ 1).setDroop 0 0 true;
      s.chip.droopBit 0 0 = true ∧ s.chip.polOver 0 0 = true ∧ 0 + s.chip.droopHyst 0 ≤ 8 * (s.chip.comp 0 0).dac)
    ∧ (let s := st fun c => { fset 18 0 (16 * 95) 16 0x8FBF ((c.put (Phase.STATE 95) 1).put (Rail.EN 0) 1) with gl.rel := true, gl.line := [(95, some true)] };
      s.chip.shadow = false ∧ s.chip.f Power.STATE ≠ 1 ∧ s.chip.outLine 95 = true ∧ (s.chip.phase 95).force = false ∧ s.chip.f (Phase.STATE 95) ≠ 0
        ∧ (s.chip.phase 95).leave = 0 ∧ s.chip.f (Phase.OC_LATCHED 95) = 0 ∧ s.chip.enabled (s.chip.f (Phase.RAIL 95)) = true
        ∧ s.chip.f (Rail.OFF_LATCHED (s.chip.f (Phase.RAIL 95))) = 0 ∧ s.chip.f (Rail.OV_ACTIVE (s.chip.f (Phase.RAIL 95))) = 0)
    ∧ (let s := st fun c => c.setPhase 0 { force := true };
      s.chip.lineAt 0 = false ∧ (s.chip.phase 0).force = true) := by decide +kernel

theorem witness_PhaseEdgesDriveTheLevels :
    (let s := st fun c => (((((c.put (Phase.STATE 3) 2).put (Rail.EN 0) 1).put Dip.OWN_OUT 1).put (Rail.IOUT_MAX 0) 100).put (Rail.ICEIL 0) 100 |>.put
        (Rail.CLAMP 0) 100).setPhase 3 { ton := 50 } |>.setRail 0 { par := { per := 9000 } };
      Between s ∧ s.chip.f (Phase.STATE 3) = 2 ∧ (s.chip.phase 3).replaced = false ∧ (s.chip.phase 3).force = false ∧ (s.chip.phase 3).duty = []
        ∧ s.chip.mayTurnOn 3 = true ∧ s.chip.f (Rail.FALLBACK (s.chip.f (Phase.RAIL 3))) = 0
        ∧ s.chip.inForce 3 = false ∧ tonOf (s.chip.rail (s.chip.f (Phase.RAIL 3))).par (s.chip.phase 3).ton ≠ 0)
    ∧ (let s := st fun c => (((((c.put (Phase.STATE 3) 2).put (Rail.EN 0) 1).put Dip.OWN_OUT 1).put (Rail.IOUT_MAX 0) 100).put (Rail.ICEIL 0) 100 |>.put
        (Rail.CLAMP 0) 100).setPhase 3 { force := true } |>.setRail 0 { par := { per := 9000, forceTon := 60 } };
      (s.chip.phase 3).replaced = false ∧ (s.chip.phase 3).duty = [] ∧ s.chip.mayTurnOn 3 = true ∧ s.chip.inForce 3 = true ∧ s.chip.forcedTon 3 ≠ 0)
    ∧ (let s := st fun c => (c.put (Phase.LEVEL 3) 1).put (Sense.IGAIN 3) 16384;
      s.chip.f (Phase.LEVEL 3) = 1 ∧ (s.chip.phase 3).tripped = false ∧ s.chip.tripCode 3 < 4095) := by decide +kernel

theorem witness_RailWatchesAndPeriodBoundariesAct :
    (let s := st fun c => ((c.setRail 0 { slewing := true, latchPend := 0 }).put (Rail.EN 0) 1).put (Rail.VSET 0) 4095;
      (s.chip.rail 0).slewing = true ∧ s.chip.f (Rail.VNOW 0) < s.chip.slewTo 0)
    ∧ (let s := st fun c => (c.setRail 15 { slewing := true }).put (Rail.VNOW 15) 8000;
      (s.chip.rail 15).slewing = true ∧ s.chip.slewTo 15 ≤ s.chip.f (Rail.VNOW 15))
    ∧ (let s := st fun c => c.setRail 1 { ramping := true };
      (s.chip.rail 1).slewing = false ∧ (s.chip.rail 1).ramping = true)
    ∧ (let s := st fun c => ((c.setRail 1 { uvBelow := true }).put (Rail.EN 1) 1).put (Phase.RAIL 0) 1 |>.put (Phase.STATE 0) 2;
      (s.chip.rail 1).uvBelow = true ∧ (s.chip.rail 1).uvBlank = false ∧ s.chip.mapped 1 ≠ [] ∧ s.chip.live 1 = true ∧ s.chip.f (Rail.OFF_LATCHED 1) = 0 ∧ s.chip.f (Rail.OV_ACTIVE 1) = 0
        ∧ (s.chip.rail 1).latchPend = 0)
    ∧ (let s := st fun c => { c.put Board.CLAMPED 1 with rl.overCnt := 125 };
      s.chip.f Board.CLAMPED = 1 ∧ 125 ≤ s.chip.rl.overCnt ∧ s.chip.rl.overrun = false)
    ∧ (let s := st fun c => c.setRail 1 { fbDue := true };
      (s.chip.rail 1).fbDue = true ∧ s.chip.f (Rail.FALLBACK 1) = 0)
    ∧ (let s := st fun c => (c.put (Plane.HOLD_LIMg 0) 1).put (Rail.HOLD 1) 1;
      s.chip.f (Plane.HOLD_LIMg 0) ≠ 0 ∧ s.chip.group 1 = 0 ∧ s.chip.f (Rail.HOLD 1) = 1 ∧ s.chip.f (Rail.FALLBACK 1) = 0) := by decide +kernel

theorem witness_WritesAreRefusedInOrder :
    (let s := st fun c => c.put (Ni.FENCED 18) 1;
      Between s ∧ s.chip.fenced 18 = true)
    ∧ (st id).chip.fenced 18 = false ∧ blkOf 18 0x1E00000 = none ∧ blkOf 31 0x1FFFFFC = none ∧ (blkOf 31 0x1003000).any (fun x => privOnly x.1) = true
    ∧ (blkOf 18 ((Rail.EN 0).addr % 0x2000000)).any (defaultOnly t1) = true ∧ t1.priv = false ∧ t1.tenant ≠ 0 := by decide +kernel

theorem witness_WrittenFieldsFollowTheirAccessCodes :
    May (st id) 18 p0 ∧ MayPriv (st id) 18 p0 ∧ (st id).chip.hwBits = [] ∧ (st id).chip.b Power.SEALED = false
    ∧ (st fun c => c.put Power.SEALED 1).chip.b Power.SEALED = true ∧ bits (6 : Word).toNat 4 1 = 3
    ∧ bits (1 : Word).toNat 11 0 ≠ (st id).chip.f (Rail.VOUT_MAX 0)
    ∧ (let s := st fun c => { c with hwBits := [((Ni.ERR_TMO 18).addr, 2 ^ (Ni.ERR_TMO 18).lo)] };
      (mkeys s.chip.hwBits).all (fun a => a == (Ni.ERR_TMO 18).addr) = true ∧ bit (mget 0 s.chip.hwBits (Ni.ERR_TMO 18).addr) (Ni.ERR_TMO 18).lo = true) := by decide +kernel

theorem witness_MemoryWritesStoreTheirBytes :
    May (st id) 17 p0 ∧ memKind 17 0x3C = some .sram ∧ memKind 2 0x100000 = none ∧ memKind (tileNode 0) 0x100000 = some .dmem
    ∧ 0x3C % 64 + 4 * [(5 : Word)].length ≤ 64 ∧ (seenAt (st id) 17 0x3C).eccAt (gAddr 17 0x3C) = 0 ∧ Safety.memSound (st id) := by
  unfold Safety.memSound; decide +kernel

theorem witness_MemoryReadsAnswerTheirWords :
    May (st id) 17 p0 ∧ memKind 17 0x3C = some .sram ∧ (∀ i : Fin 1, (seenAt (st id) 17 0x3C).eccAt (gAddr 17 0x3C + 4 * i.val) = 0)
    ∧ memKind (tileNode 0) 0x100000 = some .dmem
    ∧ (seenAt (st fun c => c.setEcc (gAddr (tileNode 0) 0x100000) 1) ⟨tileNode 0, by decide⟩ 0x100000).eccAt (gAddr (tileNode 0) 0x100000) = 1
    ∧ (seenAt (st fun c => c.setEcc (gAddr (tileNode 0) 0x100000) 2) ⟨tileNode 0, by decide⟩ 0x100000).eccAt (gAddr (tileNode 0) 0x100000) = 2 := by decide +kernel

theorem witness_WritesActOnRailsAndPhases :
    NoUpdate (st id) ∧ (∀ r : Fin 16, (mget {} (st id).chip.rl.vset r.val).beat ≠ (st id).chip.clock + 1)
    ∧ May (st id) (clusterNode 5) p0 ∧ bits (0x20 : Word).toNat 5 4 ≠ 3 ∧ (st id).chip.shadow = false
    ∧ (st fun c => c.put (Phase.OC_LATCHED 95) 1).chip.f (Phase.OC_LATCHED 95) = 1
    ∧ (st id).chip.f (Rail.SP_OWNER 15) = 0 ∧ p0.tenant = 0 ∧ MayPriv (st id) 18 { t1 with priv := true } ∧ forAvs t1 = false ∧ t1.tenant ≠ 0
    ∧ (let q : Sender := { src := 0, tenant := 6, priv := false };
      let s := st fun c => c.put (Rail.SP_OWNER 15) 15;
      forAvs q = true ∧ 8 ≤ s.chip.f (Rail.SP_OWNER 15) ∧ (s.chip.f (Rail.SP_OWNER 15) - 8) / 2 + 3 = q.tenant.val ∧ s.chip.fenced 18 = false)
    ∧ (st fun c => c.put (Rail.SP_OWNER 15) 15).chip.f (Rail.SP_OWNER 15) = 8 + 7
    ∧ (let s := st fun c => c.put Power.SEALED 1;
      s.chip.f (Rail.EN 0) = 0 ∧ s.chip.b Power.SEALED = true ∧ s.chip.f Power.STATE = 0)
    ∧ (let s := st fun c => c.put (Rail.EN 0) 1;
      s.chip.f (Rail.EN 0) = 1 ∧ (s.chip.rail 0).off = false ∧ s.chip.f (Rail.OFF_LATCHED 0) = 0)
    ∧ (st fun c => c.put (Rail.OFF_LATCHED 0) 1).chip.causeHeld 0 = false
    ∧ (let s := st fun c => { c.put (Rail.EN 15) 1 with rl.busLow := 2 };
      s.chip.rl.busLow = 2 ∧ s.chip.f (Rail.EN 15) = 1 ∧ s.chip.f Power.STATE = 0 ∧ (s.chip.rail 15).off = false ∧ s.chip.f (Rail.OV_ACTIVE 15) = 0) := by
  refine ⟨noUpdate_of_nil rfl, ?_⟩; decide +kernel

/-- E0 at an issue beat of a running plane, with a change of the tile. -/
def inE (f : Tile → Tile) (g : Chip → Chip := id) : State :=
  st fun c => g (((c.put (Tile.STATE (tileNode 0)) 1).put Plane.STATE 1).setTile 0 (f {}))

/-- P0 running in SUPER mode, with a change of the tile. -/
def inP (f : Tile → Tile) (g : Chip → Chip := id) : State :=
  st fun c => g ((c.put (Tile.STATE (tileNode 24)) 1).setTile 24 (f {}))

theorem witness_AluResults : Ready (inE id) 0 ∧ Ready (inP id) 24 ∧ Ready (inP (Tile.setReg · 1 0x80000000)) 24 ∧ gReg (inP (Tile.setReg · 1 0x80000000)) 24 1 = 0x80000000 := by
  decide +kernel

theorem witness_MultiplyAndAccumulatorResults : Ready (inP (Tile.setReg · 35 (2 ^ 64 - 1))) 24 ∧ aReg (inP (Tile.setReg · 35 (2 ^ 64 - 1))) 24 3 = BitVec.ofNat 64 (2 ^ 64 - 1) := by
  decide +kernel

theorem witness_LoadsAndStoresMoveBytes :
    (let s := inE (Tile.setReg · 1 32764);
      Ready s 0 ∧ loadAddr s 0 1 0 = 32764 ∧ Readable s 0 32764 4 ∧ Readable s 0 32764 2 ∧ Writable s 0 32764 4 ∧ Writable s 0 32764 2)
    ∧ (let s := inP (Tile.setReg · 1 131071);
      Ready s 24 ∧ loadAddr s 24 1 0 = 131071 ∧ Readable s 24 131071 1 ∧ Writable s 24 131071 1) := by decide +kernel

theorem witness_TableInterpolates :
    (let s := inE (fun x => (x.setReg 1 65535).setReg 2 64); Ready s 0 ∧ Readable s 0 66 2 ∧ Readable s 0 68 2) := by decide +kernel

theorem witness_BranchesJumpsAndLoopsMoveThePc :
    (let s := inP (fun x => { x.setReg 1 (65532) with pc := 4 });
      Ready s 24 ∧ Target 24 ((s.chip.tile 24).pc + 4 * (-1 : BitVec 16).toInt) ∧ gReg s 24 0 = gReg s 24 2 ∧ gReg s 24 1 ≠ gReg s 24 2
        ∧ Target 24 (loadAddr s 24 1 0) ∧ (s.chip.tile 24).pc + 4 * (1 : BitVec 16).toNat < imemSize 24 ∧ (s.chip.tile 24).ldepth = 0
        ∧ (gReg s 24 1).toNat ≠ 0)
    ∧ (let s := inE (fun x => { x with pc := 4, ldepth := 1, le0 := 4, lc0 := 2 });
      Ready s 0 ∧ gReg s 0 1 = 0 ∧ (s.chip.tile 0).ldepth = 1 ∧ (s.chip.tile 0).pc = (s.chip.tile 0).le0 ∧ 1 < (s.chip.tile 0).lc0)
    ∧ (let s := inE (fun x => { x with pc := 4, ldepth := 1, le0 := 4, lc0 := 1 });
      Ready s 0 ∧ (s.chip.tile 0).pc = (s.chip.tile 0).le0 ∧ (s.chip.tile 0).lc0 = 1) := by decide +kernel

/-- Entry 0 of E0 is a TX entry of a selector at plane beat 1. -/
def tx0 (sel len2 : Nat) (c : Chip) : Chip :=
  ((((c.put Plane.ROUND_LEN 16).put (Slot.KIND (tileNode 0) 0) 1).put (Slot.BEAT (tileNode 0) 0) 1).put (Slot.SEL (tileNode 0) 0) sel).put
    (Slot.LEN2 (tileNode 0) 0) len2

theorem witness_SlotAndQueueInstructionsExchangeData :
    (let s := inE id (tx0 0 0); Ready s 0 ∧ isE 0 ∧ NextEntry s 0 0 0 ∧ s.chip.f (Slot.LEN2 (tileNode 0) 0) = 0)
    ∧ (let s := inE id (tx0 0 1); NextEntry s 0 0 0 ∧ s.chip.f (Slot.LEN2 (tileNode 0) 0) = 1)
    ∧ (let s := inE id (tx0 1 0); Ready s 0 ∧ NextEntry s 0 1 0)
    ∧ (let s := inE id (tx0 2 0); Ready s 0 ∧ NextEntry s 0 2 0)
    ∧ (let s := inE id; (s.chip.dq 0).out.length < 16 ∧ (s.chip.dq 0).inq = [] ∧ (∀ j : Fin 64, s.chip.isRx (tileNode 0) j = false))
    ∧ (let s := inE id (fun c => c.setDq 0 { out := List.replicate 16 0, inq := [7], newAt := 5 });
      16 ≤ (s.chip.dq 0).out.length ∧ (s.chip.dq 0).inq = [7] ∧ (s.chip.dq 0).newAt ≠ s.chip.clock ∧ (30 : BitVec 5).toNat % 2 = 0)
    ∧ (255 : BitVec 8) ≠ 0 ∧ (16 : BitVec 5).toNat ≤ 16 := by decide +kernel

theorem witness_TicketsCarryBestEffortRequests :
    (let s := inP (Tile.setReg · 1 (17 * 2 ^ 25 + 64));
      Ready s 24 ∧ ((s.chip.tile 24).ticket 7).busy = false ∧ noNode (loadAddr s 24 1 0 / 2 ^ 25 % 128) = false
        ∧ s.chip.prot 24 2 (loadAddr s 24 1 0) 0 = true ∧ noNode ((gReg s 24 1).toNat / 2 ^ 25 % 128) = false
        ∧ s.chip.prot 24 2 (gReg s 24 1).toNat 1 = true)
    ∧ (let s := inE (Tile.setReg · 1 (17 * 2 ^ 25 + 60)) fun c => ((((c.put (Tile.ALLOWa_EN (tileNode 0) 3) 1).put (Tile.ALLOWa_R (tileNode 0) 3) 1).put
        (Tile.ALLOWa_W (tileNode 0) 3) 1).put (Tile.ALLOWa_NODE (tileNode 0) 3) 17).put (Tile.ALLOWa_LOG (tileNode 0) 3) 6;
      Ready s 0 ∧ isE 0 ∧ ((s.chip.tile 0).ticket 0).busy = false ∧ noNode (loadAddr s 0 1 0 / 2 ^ 25 % 128) = false
        ∧ s.chip.allowed 0 (loadAddr s 0 1 0) false = true ∧ s.chip.allowed 0 (gReg s 0 1).toNat true = true)
    ∧ (let s := inP (fun x => { x with wait := .ltissue true 0 64 5 });
      Between s ∧ (s.chip.tile 24).wait = .ltissue true 0 64 5 ∧ ((s.chip.tile 24).ticket 0).busy = false ∧ s.chip.fenced (tileNode 24) = false
        ∧ noNode (64 / 2 ^ 25 % 128) = false)
    ∧ (let s := inP (fun x => { x with tk := [(7, { busy := true, res := some (0, 9) })], wait := .ltwait 3 7 });
      (s.chip.tile 24).pend = [] ∧ ((s.chip.tile 24).ticket 7).res = some (0, 9) ∧ (s.chip.tile 24).wait = .ltwait (3 : BitVec 5).toNat 7)
    ∧ (let s := inP (fun x => { x.setReg 1 7 with tk := [(7, { done := true })] });
      Ready s 24 ∧ 7 = (gReg s 24 1).toNat % 8 ∧ ((s.chip.tile 24).ticket 7).busy = false ∧ ((s.chip.tile 24).ticket 7).done = true
        ∧ ((s.chip.tile 24).ticket 6).done = false)
    ∧ (let s := inP (fun x => { x.setReg 1 7 with tk := [(7, { busy := true })] }); Ready s 24 ∧ ((s.chip.tile 24).ticket 7).busy = true)
    ∧ (let s := inP (fun x => { x with tk := [(7, { done := true })], wait := .ltwait 3 7 });
      (s.chip.tile 24).wait = .ltwait 3 7 ∧ ((s.chip.tile 24).ticket 7).busy = false ∧ ((s.chip.tile 24).ticket 7).done = true) := by decide +kernel

theorem witness_EventAndLockInstructionsSendRequests :
    (let s := inP id (fun c => c.put (Bank.BANK_FREEZE (tileNode 24)) 1);
      Ready s 24 ∧ s.chip.b (Bank.BANK_FREEZE (tileNode 24)) = true ∧ s.chip.protRw 24 0x3C000000 = []
        ∧ (s.chip.ni (tileNode 24)).send3.length < 8 ∧ s.chip.shadow = false
        ∧ s.chip.protRw 24 (lockGranule ((gReg s 24 1).toNat % 256)) = [] ∧ (s.chip.tile 24).lkOut = none)
    ∧ (let s := inP (fun x => { x with wait := .lkacq 3 false, lkRsp := some (0, 0x200) });
      Between s ∧ (s.chip.tile 24).pend = [] ∧ (s.chip.tile 24).wait = .lkacq (3 : BitVec 5).toNat false ∧ (s.chip.tile 24).lkRsp = some (0, 0x200)) := by
  decide +kernel

theorem witness_SystemInstructionsAct :
    Ready (inP id) 24 ∧ inSuper (inP id) 24 ∧ Ready (inE id) 0 ∧ isE 0 ∧ ((inP id).chip.tile 24).epc < 65536 ∧ ((inP id).chip.tile 24).ienab = 0
    ∧ (let s := st fun c => (c.setEcc (dmemAddr 0 32764) 1).setEcc (imemAddr 24 65532) 1;
      Between s ∧ (32764 : BitVec 17).toNat < dmemSize 0 ∧ s.chip.eccAt (dmemAddr 0 32764) = 1 ∧ (65532 : BitVec 17).toNat < imemSize 24
        ∧ s.chip.eccAt (imemAddr 24 65532) = 1) := by decide +kernel

theorem witness_ExceptionsAndInterruptsEnterAndReturn :
    (Ready (inP id) 24 ∧ isP 24 = true ∧ ((inP id).chip.tile 24).exl = false ∧ ((inP id).chip.tile 24).user = false)
    ∧ (let s := inP (fun x => { x with ie := true, ienab := 2 ^ 31, ipend := 2 ^ 31 });
      s.chip.f (Tile.STATE (tileNode 24)) = 1 ∧ s.chip.fenced (tileNode 24) = false ∧ s.chip.gated 24 = false ∧ (s.chip.tile 24).pend = []
        ∧ (s.chip.tile 24).ie = true ∧ s.chip.eligible 24 = some 31)
    ∧ (let s := inP (fun x => { x with tmren := 3, cnt0 := 1, cnt1 := 1 });
      bit (s.chip.tile 24).tmren 0 = true ∧ (s.chip.tile 24).cnt0 ≤ 1 ∧ bit (s.chip.tile 24).tmren 1 = true ∧ (s.chip.tile 24).cnt1 ≤ 1)
    ∧ MayPriv (inP id) (tileNode 24) p0
    ∧ (let s := inP (fun x => { x with ienab := 1, ipend := 1 }) (fun c => c.put (Tile.STATE (tileNode 24)) 2);
      s.chip.f (Tile.STATE (tileNode 24)) = 2 ∧ (s.chip.eligible 24).isSome = true ∧ s.chip.fenced (tileNode 24) = false ∧ s.chip.gated 24 = false)
    ∧ (let s := inP id;
      isP 24 = true ∧ (s.chip.tile 24).pend = []) := by decide +kernel


/-- Macrocell `m` of a block follows its routed input `m`, whose select is `sel`: term 3m on the true rail, term 3m + 1 on the false rail
(both on the true rail's sum where `bad`). -/
def cell (col r m sel : Nat) (bad : Bool) (c : Chip) : Chip :=
  (fset col r (7744 + 8 * m) 8 sel <| fset col r (112 * (3 * m) + 2 * m) 1 1 <| fset col r (112 * (3 * m + 1) + 2 * m + b2n (!bad)) 1 1
    <| fset col r (6272 + 8 * (3 * m)) 6 (32 + m) <| fset col r (6272 + 8 * (3 * m + 1)) 6 (48 + m) c)

/-- A released array with macrocell 15 of block (15, 11) following spine 11 of its column, whose token is `t`. -/
def inG (t : Option Bool) (bad : Bool) (f : Chip → Chip := id) : State :=
  st fun c => f { cell 15 11 15 171 bad c with gl.sr := true, gl.rel := true, gl.wr := true, gl.lvl := [(191, t)] }

/-- Output channel 7 of G3 takes its bit 0 from macrocell 15 of block (15, 11). -/
def outG (mode : Nat) (f : Chip → Chip := id) (c : Chip) : Chip :=
  f ((fset 18 0 (16 * (208 + 511 - 15)) 16 0x8FBF { c with gl.rel := true, gl.mc := [(mcNo 15 11 15, some true)] }).put (Gport.OUT_MODE (gNode 3) 7) mode)

theorem witness_GlazeElementsShakeHands :
    (let s := inG (some true) false;
      Between s ∧ s.chip.running (posOf 15) = true ∧ s.chip.passes 15 11 15 = false ∧ s.chip.chainIn 15 11 15 = false ∧ mget none s.chip.gl.mc (mcNo 15 11 15) = none
        ∧ mget false s.chip.gl.bad (mcNo 15 11 15) = false ∧ s.chip.support 15 11 15 ≠ [] ∧ (∀ x ∈ s.chip.waitsFor 15 11 15, (s.chip.inputTok 15 x.1 x.2.2 true).isSome = true)
        ∧ (∀ a ∈ s.chip.acks (.mc 15 11 15), a = false) ∧ s.chip.countHeld (.mc 15 11 15) = false ∧ s.chip.sumHigh 15 11 15 false ≠ s.chip.sumHigh 15 11 15 true)
    ∧ (let s := inG (some true) true;
      s.chip.sumHigh 15 11 15 false = true ∧ s.chip.sumHigh 15 11 15 true = true)
    ∧ (let s := inG none false fun c => { c with gl.mc := [(mcNo 15 11 15, some true)] };
      mget none s.chip.gl.mc (mcNo 15 11 15) ≠ none ∧ (∀ i ∈ s.chip.support 15 11 15, s.chip.inputTok 15 11 i false = none)
        ∧ (∀ a ∈ s.chip.acks (.mc 15 11 15), a = true))
    ∧ (let s := inG none false;
      s.chip.acks (.spine 15 11) ≠ [] ∧ mget none s.chip.gl.lvl (12 * 15 + 11) = none ∧ (∀ a ∈ s.chip.acks (.spine 15 11), a = false))
    ∧ (let s := inG (some false) false fun c => { c with gl.mc := [(mcNo 15 11 15, some true)] };
      (∀ a ∈ s.chip.acks (.spine 15 11), a = true) ∧ mget none s.chip.gl.lvl (12 * 15 + 11) ≠ none)
    ∧ (let s := st fun c => fset 15 11 (6720 + 59) 1 1 (cell 15 11 0 211 false c);
      s.chip.passes 15 10 15 = true)
    ∧ (let s := st fun c => (fset 18 1 (16 * 95 + 7) 7 69 (cell 15 0 0 117 false { c with gl.sr := true })).put (Garr.GIOn_KIND 95) 1;
      s.chip.f (Garr.GIOn_KIND 95) = 1 ∧ s.chip.running 18 = true ∧ s.chip.acks (.gio 95) = [false] ∧ mget none s.chip.gl.lvl (192 + 95) = none)
    ∧ (let s := st fun c => (fset 18 1 (16 * 95 + 7) 7 69 (cell 15 0 0 117 false { c with
          gl.sr := true, gl.lvl := [(287, some true)], gl.mc := [(mcNo 15 0 0, some true)] })).put (Garr.GIOn_KIND 95) 1;
      s.chip.acks (.gio 95) = [true] ∧ mget none s.chip.gl.lvl (192 + 95) ≠ none) := by decide +kernel

/-- Input channel 7 of G3 drives column track 5 of column 15, which macrocell 0 of block (15, 0) follows. -/
def chanG (mode : Nat) (x : InChan) (f : Chip → Chip := id) : State :=
  st fun c => f (((fset 18 1 (16 * (96 + 511 - 15) + 7) 7 69 (cell 15 0 0 117 false { c with gl.sr := true, gl.rel := true })).put
    (Gport.IN_MODE (gNode 3) 7) mode).setInChan 3 7 x)

theorem witness_GlazeInputChannelsAndPorts :
    (let s := chanG 0 { last := some 5 };
      s.chip.issues = true ∧ inChanRest s.chip 3 7 = false ∧ s.chip.fenced (gNode 3) = false ∧ (s.chip.inChan 3 7).out = none
        ∧ (List.range 16).flatMap (fun b => s.chip.acks (.chan 3 7 b)) = [false] ∧ s.chip.f (Gport.IN_MODE (gNode 3) 7) = 0)
    ∧ (let s := chanG 1 { fifo := [9] };
      (List.range 16).flatMap (fun b => s.chip.acks (.chan 3 7 b)) = [false] ∧ s.chip.f (Gport.IN_MODE (gNode 3) 7) = 1 ∧ (s.chip.inChan 3 7).fifo.head? = some 9)
    ∧ (let s := chanG 1 { fifo := [9], out := some 9 } fun c => { c with gl.mc := [(mcNo 15 0 0, some true)] };
      (s.chip.inChan 3 7).out ≠ none ∧ (List.range 16).flatMap (fun b => s.chip.acks (.chan 3 7 b)) = [true])
    ∧ (let s := st fun c => fset 18 0 (16 * 207) 16 0x8FBF { c with gl.rel := true, gl.mc := [(mcNo 15 11 15, some true)] };
      (s.chip.portSrc 207).bind s.chip.token = some true ∧ s.chip.portLive 207 = true ∧ mget false s.chip.gl.ack 207 = false) := by decide +kernel

/-- Every request wire of Glaze memory 0 comes from row track 3 of row 0, which bit 1 of channel 0 of G0 drives; port B's write bit is bit `w`. -/
def memG (x w : Nat) : State :=
  st fun c => (List.range 34).foldl (fun c i => fset 16 0 (8 * i) 8 (64 + 3 + (if i = 12 then w else 0)) c)
    (fset 18 1 (16 * 97) 7 67 (fset 18 1 (16 * 98) 7 68 { c with gl.sr := true, gl.rel := true, gl.wr := true })) |>.setInChan 0 0 { out := some x }

theorem witness_GlazeMemoriesSupplyAndProbesAct :
    (let s := memG 2 1;
      Between s ∧ s.chip.running (gmemPos 0) = true ∧ (∀ j < 10, ∀ a ∈ s.chip.acks (.gmem 0 j), a = false)
        ∧ (mget {} s.chip.gl.gport 0).a = none ∧ s.chip.memReq 0 0 12 = some 4095
        ∧ (mget {} s.chip.gl.gport 0).b = none ∧ s.chip.memReq 0 12 22 = some (2 ^ 22 - 2) ∧ s.chip.hwBits = [])
    ∧ (let s := memG 6 1;
      s.chip.memReq 0 12 22 = some (2 ^ 22 - 1) ∧ s.chip.gl.wr = true)
    ∧ (let s := st fun c => c.put Garr.GMEM_LEN 0x800000;
      May s 10 p0 ∧ s.chip.posRest (gmemPos 23) = false ∧ bit (s.chip.f Garr.GMEM_LEN) 23 = true ∧ bit (s.chip.f Garr.GMEM_LEN) 22 = false)
    ∧ bits (30 : Word).toNat 4 0 < 31 ∧ bits (0 : Word).toNat 4 0 < (st fun c => c.put Garr.VDDG_MIN 1).chip.f Garr.VDDG_MIN
    ∧ (st id).chip.f Power.STATE ≠ 1 ∧ worstCycle (st id).chip.vddgLimit * 105 < (65535 : BitVec 16).toNat * 100
    ∧ (0 : BitVec 16).toNat * 100 ≤ worstCycle (st id).chip.vddgLimit * 105 ∧ mget 0 (st id).chip.gl.ring 15 ≠ 2 := by decide +kernel

theorem witness_GlazeChannelsCarryWords :
    (May (st id) (gNode 3) p0 ∧ inChanRest (st id).chip 3 7 = false ∧ (st id).chip.f (Gport.IN_MODE (gNode 3) 7) = 0)
    ∧ (let s := st fun c => (c.put (Gport.IN_MODE (gNode 3) 7) 1).setInChan 3 7 { fifo := [1] };
      s.chip.f (Gport.IN_MODE (gNode 3) 7) = 1 ∧ s.chip.f (Gport.OUT_MODE (gNode 3) 7) ≠ 2 ∧ (s.chip.inChan 3 7).fifo.length < 2)
    ∧ (let s := st fun c => (c.put (Gport.IN_MODE (gNode 3) 7) 1).setInChan 3 7 { fifo := [1, 2] };
      s.chip.f (Gport.OUT_MODE (gNode 3) 7) ≠ 2 ∧ (s.chip.inChan 3 7).fifo.length = 2)
    ∧ (let s := st (outG 1);
      s.chip.fenced (gNode 3) = false ∧ s.chip.gl.rel = true ∧ outChanRest s.chip 3 7 = false ∧ s.chip.groupOf 3 7 = none
        ∧ (s.chip.chanSrc 3 7).any Option.isSome = true ∧ (s.chip.chanSrc 3 7).all (fun x => x.all (fun src => (s.chip.token src).isSome)) = true
        ∧ (∀ b : Fin 16, mget false s.chip.gl.ack (chanPort 3 7 + b) = false)
        ∧ s.chip.f (Gport.OUT_MODE (gNode 3) 7) = 1)
    ∧ (let s := st (outG 0 fun c => c.put (Gport.OUT_PEEK_VALID (gNode 3) 7) 1);
      (s.chip.chanSrc 3 7).any Option.isSome = true ∧ s.chip.f (Gport.OUT_MODE (gNode 3) 7) = 0 ∧ s.chip.chValid 3 7 = true)
    ∧ (let s := st fun c => (c.put (Gport.OUT_PEEK_VALID (gNode 3) 7) 1).setNi (gNode 3) { parked := [popRead 3 7 {}] };
      s.chip.fenced (gNode 3) = false ∧ outChanRest s.chip 3 7 = false ∧ s.chip.groupOf 3 7 = none ∧ s.chip.chValid 3 7 = true
        ∧ (s.chip.ni (gNode 3)).parked = [popRead 3 7 {}] ∧ s.chip.rspRoom (gNode 3) (popRead 3 7 {}).hdr = true)
    ∧ ((st id).chip.chValid 3 7 = false ∧ ((st id).chip.ni (gNode 3)).parked.length < parkPlaces ∧ (st id).chip.groupOf 3 7 = none)
    ∧ (let s := st fun c => (c.put (Gport.OUT_MODE (gNode 3) 4) 2).put (Gport.GROUP (gNode 3) 4) 3;
      May s (gNode 3) p0 ∧ outChanRest s.chip 3 4 = false ∧ s.chip.f (Gport.OUT_MODE (gNode 3) 4) = 2 ∧ mget false s.chip.gl.snap (8 * 3 + 4) = false
        ∧ 4 + s.chip.f (Gport.GROUP (gNode 3) 4) < 8 ∧ (∀ j ≤ s.chip.f (Gport.GROUP (gNode 3) 4), s.chip.chValid 3 (4 + j) = false))
    ∧ (let s := st fun c => ((c.put (Gport.OUT_MODE (gNode 3) 4) 2).put (Gport.GROUP (gNode 3) 4) 3).put (Gport.OUT_PEEK_VALID (gNode 3) 7) 1;
      s.chip.f (Gport.OUT_MODE (gNode 3) 4) = 2 ∧ 4 + s.chip.f (Gport.GROUP (gNode 3) 4) < 8 ∧ s.chip.chValid 3 (4 + 3) = true)
    ∧ (let s := st fun c => { c with gl.snap := [(31, true)] };
      mget false s.chip.gl.snap (8 * 3 + 7) = true ∧ 7 + s.chip.f (Gport.GROUP (gNode 3) 7) < 8) := by decide +kernel

/-- Router 48 holds one flit on an input, for output port `p`. -/
def inR (i vc p : Nat) (head tail : Bool) (own : Nat) : State :=
  st fun c => (c.setQueue 48 i vc [{ vc := vc, head := head, tail := tail, hdr := { route := p } }]).setOwn 48 p vc own

/-- Route entry `e` of a node is valid, and its counters are frozen. -/
def routed (n e : Nat) (c : Chip) : Chip := ((c.put (Ni.ROUTEe_LO n e) 4).put (Ni.ROUTEe_VALID n e) 1).put (Bank.BANK_FREEZE n) 1

theorem witness_RoutersSendFlitsOnwards :
    (let s := inR 0 3 1 true true 0;
      let c := fed s 48;
      Between s ∧ c.queue 48 0 3 = [{ vc := 3, head := true, tail := true, hdr := { route := 1 } }] ∧ c.mayUse 48 0 3 1 = true
        ∧ c.credit 48 1 3 = true ∧ (∀ (j : Fin 5) (v : Fin 4), c.wants 48 j v 1 = true → j = 0 ∧ v = 3)
        ∧ neighbour 48 1 = some (41, 3) ∧ mget false c.lat.drop (qKey 41 3 3) = false)
    ∧ (let s := inR 4 2 0 false false 5;
      let c := fed s 48;
      c.queue 48 4 2 = [{ vc := 2, tail := false, hdr := { route := 0 } }] ∧ c.mayUse 48 4 2 0 = true ∧ c.credit 48 0 2 = true
        ∧ (∀ (j : Fin 5) (v : Fin 4), c.wants 48 j v 0 = true → j = 4 ∧ v = 2) ∧ s.chip.fenced 48 = false ∧ (s.chip.ni 48).disc = [])
    ∧ (let s := inR 4 2 0 true false 0; ∀ (j : Fin 5) (v : Fin 4), (fed s 48).wants 48 j v 1 = false) := by decide +kernel

theorem witness_NetworkInterfacesSendPackets :
    (let s := st fun c => (routed 48 3 c).setNi 48 { rsp := [{ hdr := { vc := 1, typ := 6, dst := 3 } }, { hdr := { vc := 1, typ := 6, dst := 4 } }] };
      Between s ∧ (s.chip.ni 48).rsp ≠ [] ∧ s.chip.canInject 48 1 = true ∧ s.chip.route 48 (routeEntry 3) = some 4)
    ∧ (let s := st fun c => c.setNi 48 { rsp := [{ hdr := { vc := 1, typ := 6, dst := 3 } }] };
      s.chip.canInject 48 1 = true ∧ s.chip.route 48 (routeEntry 3) = none)
    ∧ (let a : Ask := { pkt := { hdr := { vc := 2, typ := 1, dst := 3, prio := 3, tenant := 7 } }, owner := .ticket 1 };
      let s := st fun c => (routed 48 3 c).setNi 48 { asks := [a], tags := [(63, { gen := 3 })] };
      s.chip.fenced 48 = false ∧ s.chip.canInject 48 2 = true ∧ s.chip.tagFree 48 63 = true ∧ s.chip.f (Bank.BANK_FREEZE 48) = 1
        ∧ (s.chip.tenantOrder 48).find? (fun y => s.chip.asking 48 y && (refilled s 48).sieveOpen 48 y) = some 7
        ∧ takeFirst (fun b => b.pkt.hdr.tenant == 7) (s.chip.ni 48).asks = some (a, []) ∧ s.chip.route 48 (routeEntry a.pkt.hdr.dst) = some 4
        ∧ a.pkt.words.length ≤ 16)
    ∧ (let s := st fun c => ((routed 48 3 c).put (Ni.SIEVEt_LIMIT 48 7) 1).put (Ni.SIEVEt_TOKENS 48 7) 1024;
      s.chip.f (Ni.SIEVEt_LIMIT 48 7) = 1 ∧ (refilled s 48).hasToken 48 7 = true)
    ∧ (let s := st fun c => c.setNi 0 { ans := [] };
      (s.chip.ni 0).ans = [] ∧ mget 0 (s.chip.ni 0).refilled 7 ≠ s.chip.clock + 1)
    ∧ (let s := st fun c => c.setNi 48 { refilled := [(7, 1)] };
      mget 0 (s.chip.ni 48).refilled 7 = s.chip.clock + 1)
    ∧ (let p : Pkt := { hdr := { vc := 3, typ := 4, dst := 3, prio := 2, tenant := 7 } };
      let s := st fun c => (routed 48 3 c).setNi 48 { send3 := [p] };
      s.chip.canInject 48 3 = true ∧ (s.chip.tenantOrder 48).find? (fun y => s.chip.posting 48 y && (refilled s 48).sieveOpen 48 y) = some 7
        ∧ takeFirst (fun b => b.hdr.tenant == 7) (s.chip.ni 48).send3 = some (p, []) ∧ s.chip.route 48 (routeEntry p.hdr.dst) = some 4) := by decide +kernel

theorem witness_ResponsesTargetsAndTimeouts :
    (let s := st fun c => c.setNi (tileNode 27) { in1 := [{ hdr := { vc := 1, typ := 6, dst := tileNode 27, tag := 63, gen := 3 } }],
                                                  tags := [(63, { busy := true, gen := 3, owner := .ticket 7, timer := true })] };
      Between s ∧ typeVc 6 = some 1 ∧ (s.chip.ni (tileNode 27)).in1 = [{ hdr := { vc := 1, typ := 6, dst := tileNode 27, tag := 63, gen := 3 } }]
        ∧ s.chip.tag (tileNode 27) 63 = { busy := true, gen := 3, owner := .ticket 7, timer := true })
    ∧ (let s := st fun c => c.setNi 48 { in1 := [{ hdr := { vc := 1, typ := 6, dst := 48, tag := 63, gen := 3 } }], tags := [(63, { held := [3, 2], gen := 0 })] };
      (s.chip.tag 48 63).busy = false ∧ (s.chip.tag 48 63).gen ≠ 3 ∧ (s.chip.tag 48 63).held = [3, 2])
    ∧ (let s := st fun c => c.setNi (tileNode 27) { tags := [(63, { busy := true, gen := 3, owner := .ticket 7, timer := true })] };
      s.chip.answered (tileNode 27) 63 = false ∧ s.chip.full3 (tileNode 27) = false)
    ∧ (let s := st fun c => c.setNi 0 { tags := [(63, { busy := true, gen := 3, timer := true })] };
      (s.chip.tag 0 63).owner = .none ∧ (s.chip.ni 0).ans = [] ∧ (s.chip.tag 0 63).timer = true ∧ s.chip.answered 0 63 = false ∧ s.chip.full3 0 = false)
    ∧ (let h : Hdr := { vc := 2, typ := 1, dst := 17, be := 15, offset := 0x3FFC, tenant := 0 };
      let s := st fun c => c.setNi 17 { in2 := [{ hdr := h }] };
      Between s ∧ s.chip.rspRoom 17 h = true ∧ memKind 17 0x3FFC = some .sram ∧ s.chip.fenced 17 = false
        ∧ (seenAt s 17 (BitVec.ofNat 25 h.offset)).eccAt (gAddr 17 0x3FFC) = 0)
    ∧ (let h : Hdr := { vc := 2, typ := 2, dst := tileNode 0, be := 15, offset := 0x100000, priv := true };
      let s := st fun c => c.setNi (tileNode 0) { in2 := [{ hdr := h, words := [7] }] };
      s.chip.rspRoom (tileNode 0) h = true ∧ memKind (tileNode 0) 0x100000 = some .dmem)
    ∧ (let h : Hdr := { vc := 2, typ := 3, dst := 48, be := 15 };
      (st fun c => c.setNi 48 { in2 := [{ hdr := h }] }).chip.rspRoom 48 h = true)
    ∧ (let h : Hdr := { vc := 2, typ := 1, dst := 24, be := 15, offset := 0x4000 };
      let s := st fun c => (c.put (Ni.FENCED 24) 1).setNi 24 { in2 := [{ hdr := h }] };
      s.chip.rspRoom 24 h = true ∧ s.chip.fenced 24 = true) := by decide +kernel

theorem witness_RoutesResetsAndTunnels :
    (MayPriv (st id) 48 p0 ∧ (st id).chip.b Power.SEALED = false)
    ∧ (let s := st fun c => c.put (Ni.ROUTE_STAGE 48) 4; routeCheck 48 47 (s.chip.f (Ni.ROUTE_STAGE 48) + bits (0x80002F00 : Word).toNat 3 0 * 2 ^ 32) (bits (0x80002F00 : Word).toNat 14 8) = none)
    ∧ routeCheck 48 47 (7 + bits (0 : Word).toNat 3 0 * 2 ^ 32) (bits (0 : Word).toNat 14 8) = some 1
    ∧ (let s := st fun c => c.setNi 48 { rstDue := true, tags := [(63, { busy := true })] };
      (s.chip.ni 48).rstDue = true ∧ s.chip.rstAnswering 48 = false ∧ s.chip.fenced 48 = false ∧ s.chip.hasSlots 48 = false)
    ∧ (st fun c => c.put (Ni.FENCED 48) 1).chip.fenced 48 = true
    ∧ (let p : Pkt := { hdr := { vc := 3, typ := 4, dst := 112, src := 6 } };
      let s := st fun c => { routed 6 48 c with tw.rxq := [p] };
      s.chip.tw.rxq = [p] ∧ s.chip.fenced 6 = false ∧ s.chip.canInject 6 p.hdr.vc = true ∧ twinNode p.hdr.dst = true ∧ s.chip.route 6 (p.hdr.dst % 64) = some 4) := by
  decide +kernel

/-- The plane runs at a beat of a round of 256 (its ROUND_LEN is below that, R983), with a change. -/
def inB (beat : Nat) (f : Chip → Chip := id) : State :=
  st fun c => f (((c.put Plane.STATE plRun).put Plane.ROUND_LEN 16).put Plane.PBEAT beat)

/-- A slot entry at a beat. -/
def slot (n i kind sel beat len2 peer chan : Nat) (c : Chip) : Chip :=
  (((((c.put (Slot.KIND n i) kind).put (Slot.SEL n i) sel).put (Slot.BEAT n i) beat).put (Slot.LEN2 n i) len2).put (Slot.PEER n i) peer).put (Slot.CHAN n i) chan

/-- A SCHED section whose slot tables are empty, and an image that holds it at index 1, and a malformed one at index 2. -/
def schedSec (bad : Bool) : List Byte :=
  (List.range 96).map (fun i => if 4 ≤ i ∧ i < 53 then BitVec.ofNat 8 (if bad ∧ i = 5 then 9 else i - 4) else 0)
@[inherit_doc schedSec] def schedImg : List Byte :=
  let ent (t i o l : Nat) : List Byte := toBytes 2 t ++ toBytes 2 i ++ toBytes 4 o ++ toBytes 4 l ++ toBytes 4 0
  List.replicate 24 0 ++ toBytes 2 3 ++ List.replicate 38 0 ++ ent 2 1 128 96 ++ ent 2 2 224 96 ++ ent 2 0 128 96 ++ List.replicate 16 0
    ++ schedSec false ++ schedSec true

theorem witness_PlaneRoundsRestartsAndSwitches :
    (let s := inB 254 fun c => { c with pl.inPend := [(3, 7, 5, 1)] };
      Between s ∧ s.chip.planeGoes = true ∧ s.chip.pw.standby = false ∧ s.chip.f Plane.PBEAT + 1 < s.chip.roundLen
        ∧ s.chip.pl.inPend = [(3, 7, 5, 1)] ∧ inChanRest s.chip 3 7 = false ∧ s.chip.f (Gport.IN_MODE (gNode 3) 7) = 0
        ∧ (s.chip.inChan 3 7).be ≠ some s.chip.clock ∧ 1 ≤ s.chip.pl.abs + 1)
    ∧ (let s := inB 255;
      s.chip.planeGoes = true ∧ s.chip.roundLen ≤ s.chip.f Plane.PBEAT + 1 ∧ s.chip.pl.switchTo = none
        ∧ ∀ x : Fin 24, s.chip.f (Tile.STATE (tileNode x)) = 1 → (s.chip.tile x).halted = true)
    ∧ (let s := inB 255 fun c => { c with pl.switchTo := some 3 }; s.chip.pl.switchTo = some 3)
    ∧ (let s := inB 255 fun c => (c.put (Tile.STATE (tileNode 23)) 1).setTile 23 { halted := false };
      (s.chip.f (Tile.STATE (tileNode 23)) = 1 ∧ (s.chip.tile 23).halted = false)
        ∧ ∀ y : Fin 24, y ≠ 23 → s.chip.f (Tile.STATE (tileNode y)) ≠ 1 ∨ (s.chip.tile y).halted = true)
    ∧ (let s := inB 0; s.chip.planeGoes = true ∧ s.chip.f Plane.PBEAT = 0 ∧ s.chip.pl.started = false ∧ s.chip.fenced (tileNode 23) = false)
    ∧ (let s := st fun c => { c.put Plane.STATE plFaulted with pl.restart := true, pw.img := schedImg };
      MayPriv s 31 p0 ∧ s.chip.f Plane.STATE = plFaulted ∧ s.chip.pl.restart = true ∧ schedHeld s.chip.pw.img 1 = true ∧ schedHeld s.chip.pw.img 3 = false)
    ∧ (let s := st fun c => { c.put Plane.STATE plSwitching with pl.switchTo := some 2, pw.img := schedImg };
      (({ s.chip with pl.switchTo := none } : Chip).loadSched s.lock s.chip.pw.img 2 (s.chip.b Power.SEALED) false).1.isSome = true) := by decide +kernel

theorem witness_PlaneBeatsBringWhatIsDue :
    (let s := inB 254 fun c => { c with pl.second := [(48, some (1, { tail := true }))] };
      s.chip.f Plane.PBEAT + 1 < s.chip.roundLen ∧ s.chip.pl.second = [(48, some (1, { tail := true }))] ∧ 1 ≤ s.chip.pl.abs + 1)
    ∧ (let s := inB 0 fun c => { c with pl.inPend := [(3, 7, 5, 2)] };
      s.chip.pl.inPend = [(3, 7, 5, 2)] ∧ s.chip.pl.abs + 1 < 2) := by decide +kernel

/-- The part is between rounds with SWITCH to schedule 1 accepted. -/
def switching1 : State := st fun c => { c.put Plane.STATE plSwitching with pl.switchTo := some 1, pw.img := schedImg }

theorem witness_PlaneSwitchLoads :
    switching1.chip.f Plane.STATE = plSwitching ∧ switching1.chip.pl.switchTo = some 1
    ∧ (({ switching1.chip with pl.switchTo := none } : Chip).loadSched switching1.lock switching1.chip.pw.img 1 (switching1.chip.b Power.SEALED) false).1 = none := by
  have hi : switching1.chip.pw.img = schedImg := rfl
  refine ⟨by decide +kernel, rfl, hi ▸ loadSched_empty _ _ _ _ _ (by decide +kernel) (by decide +kernel) (by decide +kernel) ?_ ?_⟩
    <;> unfold NoSlots <;> decide +kernel

/-- A flit of channel 63 from node 7, for node `n`. -/
def fl7 (n : Nat) (ws : List Word) : Flit := { head := true, tail := true, hdr := { src := 7, dst := n, tag := 63 }, words := ws }

theorem witness_ScheduledPacketsFollowTheirSlots :
    (let s := inB 0 fun c => (slot 18 63 1 3 6 0 7 0 c).put (Slot.LINK 18 63) 7;
      Between s ∧ PlaneGoes s 18 ∧ s.chip.f (Slot.KIND 18 63) = 1 ∧ s.chip.f (Slot.SEL 18 63) = 3 ∧ s.chip.beatsTo (s.chip.f (Slot.BEAT 18 63)) = 6
        ∧ s.chip.f (Slot.LINK 18 63) < 8)
    ∧ (let n := tileNode 23; let s := inB 5 fun c => (routed n 0 (slot n 63 1 2 5 1 7 0 c)).setTile 23 { stage := [(63, 9)] };
      PlaneGoes s n ∧ s.chip.f (Slot.KIND n 63) = 1 ∧ s.chip.f (Slot.BEAT n 63) = s.chip.f Plane.PBEAT ∧ s.chip.f (Bank.BANK_FREEZE n) = 1
        ∧ s.chip.route n (s.chip.f (Slot.RTE n 63)) = some 4 ∧ s.chip.f (Slot.SEL n 63) ≤ 2 ∧ mget 0 (s.chip.tile 23).stage 63 ≠ 0)
    ∧ (let n := tileNode 23; let s := inB 5 fun c => routed n 0 (slot n 63 1 2 5 1 7 0 c);
      s.chip.f (Slot.SEL n 63) ≤ 2 ∧ mget 0 (s.chip.tile 23).stage 63 = 0)
    ∧ (let s := inB 5 fun c => { routed 18 0 (slot 18 63 1 3 5 0 7 0 c) with pl.capture := [(64 * 18 + 63, 1)] };
      PlaneGoes s 18 ∧ s.chip.f (Slot.SEL 18 63) = 3 ∧ mget 0 s.chip.pl.capture (64 * 18 + 63) ≠ 0 ∧ s.chip.route 18 (s.chip.f (Slot.RTE 18 63)) = some 4)
    ∧ (let n := gNode 3; let s := inB 5 fun c => { routed n 0 (slot n 63 1 4 5 0 7 0 c) with pl.reply := [(64 * n + 63, 1)] };
      PlaneGoes s n ∧ s.chip.f (Slot.SEL n 63) = 4 ∧ mget 0 s.chip.pl.reply (64 * n + 63) ≠ 0 ∧ s.chip.route n (s.chip.f (Slot.RTE n 63)) = some 4)
    ∧ (let n := tileNode 0; let s := inB 5 fun c => (slot n 63 2 0 5 0 7 63 c).setNi n { in0 := [fl7 n []] };
      s.chip.f Plane.STATE = plRun ∧ (s.chip.ni n).in0 = [fl7 n []] ∧ (s.chip.ejectBuf n).length < 16 ∧ s.chip.rxEntry n 7 63 = some 63
        ∧ (fl7 n []).hdr.typ = 0 ∧ (fl7 n []).poison = false ∧ (fl7 n []).hdr.dst = n
        ∧ s.chip.beatsTo (s.chip.beatPlus (s.chip.f (Slot.BEAT n 63)) (s.chip.f (Slot.LEN2 n 63)))
          ≤ 4 + 3 * s.chip.f (Slot.HOPS n 63) + s.chip.f (Slot.LEN2 n 63))
    ∧ (let n := tileNode 0; let s := inB 0 fun c => (slot n 63 2 0 255 1 7 63 (c.put (Slot.HOPS n 63) 0)).setNi n { in0 := [fl7 n []] };
      s.chip.rxEntry n 7 63 = some 63 ∧ s.chip.beatsTo (s.chip.beatPlus (s.chip.f (Slot.BEAT n 63)) (s.chip.f (Slot.LEN2 n 63)))
          ≤ 4 + 3 * s.chip.f (Slot.HOPS n 63) + s.chip.f (Slot.LEN2 n 63))
    ∧ (let n := tileNode 0; let s := inB 5 fun c => c.setNi n { in0 := [fl7 n []] }; s.chip.rxEntry n 7 63 = none ∧ (st id).chip.f Plane.STATE ≠ plRun)
    ∧ (let n := tileNode 0; let s := inB 5 fun c => c.setNi n { in0 := [{ fl7 n [] with hdr.typ := 1 }] };
      (s.chip.ni n).in0 = [{ fl7 n [] with hdr.typ := 1 }] ∧ s.chip.f Plane.STATE = plRun) := by decide +kernel

theorem witness_ReceiveSlotsDeliver :
    (let n := tileNode 0; let s := inB 5 fun c => (slot n 63 2 0 4 1 7 62 c).setEject n [{ fl7 n [1, 2] with hdr.tag := 62 }, { fl7 n [1, 2, 3, 4] with hdr.tag := 62 }];
      PlaneGoes s n ∧ s.chip.f (Slot.KIND n 63) = 2 ∧ s.chip.beatsTo (s.chip.beatPlus (s.chip.f (Slot.BEAT n 63)) (s.chip.f (Slot.LEN2 n 63))) = 0
        ∧ (takeFlits (s.chip.f (Slot.PEER n 63)) (s.chip.f (Slot.CHAN n 63)) (1 + s.chip.f (Slot.LEN2 n 63)) (s.chip.ejectBuf n)).1.length = 1 + s.chip.f (Slot.LEN2 n 63)
        ∧ s.chip.f (Slot.SEL n 63) = 0)
    ∧ (let n := tileNode 0; let s := inB 5 fun c => ((slot n 63 2 1 5 0 7 63 c).setEject n [fl7 n [1, 2]]).setTile 0 { glz := [(31, 5)] };
      (takeFlits (s.chip.f (Slot.PEER n 63)) (s.chip.f (Slot.CHAN n 63)) (1 + s.chip.f (Slot.LEN2 n 63)) (s.chip.ejectBuf n)).1.length = 1 + s.chip.f (Slot.LEN2 n 63)
        ∧ s.chip.f (Slot.SEL n 63) = 1 ∧ (s.chip.tile 0).pend = [] ∧ (s.chip.tile 0).glz = [(31, 5)])
    ∧ (let s := inB 5 fun c => (slot (gNode 3) 63 2 2 5 0 7 63 c).setEject (gNode 3) [fl7 (gNode 3) [1, 2]];
      PlaneGoes s (gNode 3) ∧ s.chip.f (Slot.SEL (gNode 3) 63) = 2 ∧ (st fun c => c.put (Slot.SEL (gNode 3) 63) 3).chip.f (Slot.SEL (gNode 3) 63) = 3)
    ∧ (let n := clusterNode 5; let s := inB 5 fun c => (slot n 63 2 4 4 1 7 63 c).setEject n [fl7 n [0x9F, 2], fl7 n [1, 2, 3, 4]];
      PlaneGoes s n ∧ (takeFlits (s.chip.f (Slot.PEER n 63)) (s.chip.f (Slot.CHAN n 63)) (1 + s.chip.f (Slot.LEN2 n 63)) (s.chip.ejectBuf n)).1.length = 1 + s.chip.f (Slot.LEN2 n 63)
        ∧ s.chip.f (Slot.SEL n 63) = 4 ∧ s.chip.shadow = false ∧ bits 0x9F 7 4 < 10)
    ∧ (let n := tileNode 0; let s := inB 5 (slot n 63 2 0 5 0 7 63);
      (takeFlits (s.chip.f (Slot.PEER n 63)) (s.chip.f (Slot.CHAN n 63)) (1 + s.chip.f (Slot.LEN2 n 63)) (s.chip.ejectBuf n)).1.length < 1 + s.chip.f (Slot.LEN2 n 63)) := by
  decide +kernel

theorem witness_PlaneCommandsHaveTheirEffects :
    (let s := inB 254; Between s ∧ s.chip.planeGoes = true ∧ s.chip.f Plane.PBEAT + 1 < s.chip.roundLen)
    ∧ (let s := inB 0; s.chip.planeGoes = true ∧ s.chip.f Plane.PBEAT = 0 ∧ s.chip.pl.started = false)
    ∧ (let s := inB 250 fun c => (slot 16 0 1 3 0 0 7 0 c).put (Slot.LINK 16 0) 31;
      PlaneGoes s 16 ∧ s.chip.f (Slot.KIND 16 0) = 1 ∧ s.chip.f (Slot.SEL 16 0) = 3 ∧ s.chip.beatsTo (s.chip.f (Slot.BEAT 16 0)) = 6)
    ∧ (let s := inB 255 fun c => { slot 18 63 1 3 255 1 7 0 c with pl.capture := [(64 * 18 + 63, 1)] };
      PlaneGoes s 18 ∧ s.chip.f (Slot.SEL 18 63) = 3 ∧ s.chip.f (Slot.BEAT 18 63) = s.chip.f Plane.PBEAT ∧ mget 0 s.chip.pl.capture (64 * 18 + 63) ≠ 0)
    ∧ (let n := tileNode 0; let s := inB 252 fun c => (slot n 63 2 0 0 0 7 63 c).setNi n { in0 := [fl7 n []] };
      (s.chip.ni n).in0 = [fl7 n []] ∧ s.chip.f Plane.STATE = plRun ∧ s.chip.ejectBuf n = [] ∧ s.chip.rxEntry n 7 63 = some 63
        ∧ s.chip.f (Slot.LEN2 n 63) = 0 ∧ s.chip.beatsTo (s.chip.f (Slot.BEAT n 63)) ≤ 4)
    ∧ (let s := inB 5 fun c => (slot (gNode 3) 63 2 2 5 0 7 63 c).setEject (gNode 3) [fl7 (gNode 3) [1, 2]];
      PlaneGoes s (gNode 3) ∧ s.chip.f (Slot.LEN2 (gNode 3) 63) = 0 ∧ s.chip.beatsTo (s.chip.f (Slot.BEAT (gNode 3) 63)) = 0
        ∧ s.chip.ejectBuf (gNode 3) = [fl7 (gNode 3) [1, 2]] ∧ s.chip.f (Slot.SEL (gNode 3) 63) = 2)
    ∧ (let n := clusterNode 5; let s := inB 5 fun c => (slot n 63 2 4 5 0 7 63 c).setEject n [fl7 n [0x10F, 2]];
      s.chip.ejectBuf n = [fl7 n [0x10F, 2]] ∧ s.chip.f (Slot.SEL n 63) = 4 ∧ s.chip.shadow = false ∧ bits (ofWords [0x10F, 2]) 7 4 = 0)
    ∧ (let s := st fun c => { c.put Plane.STATE plFaulted with pl.restart := true };
      MayPriv s 31 p0 ∧ s.chip.f Plane.STATE = plFaulted ∧ s.chip.pl.restart = true)
    ∧ (let s := inB 0 fun c => { c with pw.img := schedImg }; schedHeld s.chip.pw.img 1 = true ∧ s.chip.f Plane.STATE = plRun) := by decide +kernel

/-- A REPLY entry of G3 at the next beat, linked to RX entry 62, which has received request data `d`. -/
def inReply (d : Nat) (f : Chip → Chip := id) : State :=
  inB 5 fun c => f { (slot (gNode 3) 63 1 4 6 0 7 0 c).put (Slot.LINK (gNode 3) 63) 62 with pl.req := [(64 * gNode 3 + 62, d + 1)] }

theorem witness_GlazeRepliesHoldThePlane :
    (let s := inReply 7 fun c => c.put (Gport.OUT_PEEK_VALID (gNode 3) 7) 1;
      s.chip.f Plane.STATE = plRun ∧ s.chip.fenced (gNode 3) = false ∧ s.chip.f (Slot.KIND (gNode 3) 63) = 1 ∧ s.chip.f (Slot.SEL (gNode 3) 63) = 4
        ∧ s.chip.beatsTo (s.chip.f (Slot.BEAT (gNode 3) 63)) = 1 ∧ mget none s.chip.pl.holds 3 = none
        ∧ mget 0 s.chip.pl.req (64 * gNode 3 + s.chip.f (Slot.LINK (gNode 3) 63)) ≠ 0 ∧ s.chip.replyRest 3 7 = false ∧ s.chip.replyValue 3 7 = some 0)
    ∧ (let s := inReply 0xF; s.chip.replyRest 3 0xF = false ∧ s.chip.replyValue 3 0xF = none)
    ∧ (let s := inReply 7 fun c => fset 18 0 (16 * (208 + 511 - 15)) 16 0x8FBF (((c.put (Gcfg.REGIONr_EN 7) 1).put (Gcfg.REGIONr_STATE 7) 2).put
        (Gcfg.REGIONr_FIRST 7) 16 |>.put (Gcfg.REGIONr_LAST 7) 16);
      s.chip.replyRest 3 7 = true)
    ∧ (let s := inReply 7 fun c => { c with pl.holds := [(3, some { entry := 63 })] };
      mget none s.chip.pl.holds 3 = some { entry := 63 } ∧ mget 0 s.chip.pl.req (64 * gNode 3 + s.chip.f (Slot.LINK (gNode 3) 63)) ≠ 0
        ∧ s.chip.stallMax = 1 ∧ s.chip.replyValue 3 7 = none ∧ (s.chip.put (Gport.OUT_PEEK_VALID (gNode 3) 7) 1).replyValue 3 7 = some 0)
    ∧ (let s := inReply 7 fun c => { c.put Plane.STALL_MAX 2 with pl.holds := [(3, some { entry := 63, beats := 2, late := true })] };
      mget none s.chip.pl.holds 3 = some { entry := 63, beats := 2, late := true }
        ∧ mget 0 s.chip.pl.req (64 * gNode 3 + s.chip.f (Slot.LINK (gNode 3) 63)) ≠ 0) := by decide +kernel

/-- It is E23's turn at DQX: its outbound queue holds an entry and seven further ones; its window is the 64 bytes from 0. -/
def inDq (c0 : Nat) (rdata : List Nat := []) : State :=
  st fun c => { (c.setDq 23 { out := c0 :: List.replicate 7 5, rdata := rdata }).put (Dqx.WINLOG 23) 6 with pl.dqCmd := 23, pl.dqDat := 23 }

theorem witness_DqxMovesDoublewords :
    (let s := inDq (2 * 2 ^ 62 + 6 * 2 ^ 56 + 8);
      Between s ∧ s.chip.fenced 48 = false ∧ s.chip.f (Dqx.WINBASE 23) = 0 ∧ 8 + 8 * 7 ≤ 0 + 2 ^ clampN 3 31 (s.chip.f (Dqx.WINLOG 23))
        ∧ s.chip.dqTurn s.chip.pl.dqCmd DqH.works = some 23 ∧ (s.chip.dq 23).taken.buf = (2 * 2 ^ 62 + 6 * 2 ^ 56 + 8) :: List.replicate 7 5
        ∧ (s.chip.dq 23).taken.rdata = []
        ∧ bits (2 * 2 ^ 62 + 6 * 2 ^ 56 + 8) 63 62 = 2 ∧ bits (2 * 2 ^ 62 + 6 * 2 ^ 56 + 8) 58 56 + 1 = 7 ∧ bits (2 * 2 ^ 62 + 6 * 2 ^ 56 + 8) 31 0 = 8)
    ∧ bits (3 * 2 ^ 62 + 6 * 2 ^ 56) 63 62 = 3 ∧ bits (3 * 2 ^ 62 + 6 * 2 ^ 56) 58 56 + 1 ≤ 7 ∧ bits (3 * 2 ^ 62 + 4) 31 0 % 8 ≠ 0
    ∧ (let s := inDq (3 * 2 ^ 62 + 6 * 2 ^ 56); s.chip.dqTurn s.chip.pl.dqCmd DqH.works = some 23)
    ∧ (let s := inDq (3 * 2 ^ 62 + 6 * 2 ^ 56 + 4); s.chip.dqTurn s.chip.pl.dqCmd DqH.works = some 23)
    ∧ (let s := inDq (2 ^ 62); s.chip.dqTurn s.chip.pl.dqCmd DqH.works = some 23 ∧ bits (2 ^ 62) 63 62 < 2)
    ∧ (let s := inDq 0 [7, 8];
      s.chip.dqTurn s.chip.pl.dqCmd DqH.works = some 23 ∧ (s.chip.dq 23).taken.due = false
        ∧ s.chip.dqTurn s.chip.pl.dqDat DqH.places = some 23 ∧ (s.chip.dq 23).rdata = [7, 8]) := by decide +kernel

/-- LOCK's group 15 admits T0 and T1; its unit stands as `u`. -/
def inL (u : LockUnit) (f : Chip → Chip := id) : State := { st (fun c => f (c.put (Lgrp.MASK 15) 3)) with lock := u }

/-- The unit after operations at an empty one: (kind, requester, lock, PRIO); kind 0 ACQUIRE, 1 TRY, 2 RELEASE. -/
def lockRun (l : List (Nat × Nat × Nat × Nat)) : LockUnit :=
  l.foldl (fun u x => (lockApply u 8 (.request { vc := 2, typ := 3, src := x.2.1 % 128, tenant := x.2.1 / 128 } x.2.1 x.1 x.2.2.1 x.2.2.2 false)).u) {}

theorem witness_LockAcquireAndRelease :
    (let s := inL {};
      Between s ∧ s.chip.lockWas = none ∧ LkJudges s p0 1 255 ∧ Safety.lockSound s ∧ (s.lock.lockRec 255).holder = none)
    ∧ (let s := inL (lockRun [(0, 129, 255, 15)]) fun c => c.put (Lgrp.HOLD_TMO 15) 1;
      LkJudges s p0 1 255 ∧ s.chip.f (Lgrp.HOLD_TMO 15) ≠ 0 ∧ s.chip.f (Lgrp.FORCE_TMO 15) = 0 ∧ (s.lock.lockRec 255).holder = some 129
        ∧ (s.lock.lockRec 255).timer = true ∧ s.lock.queue 255 = [] ∧ (s.chip.ni 24).send3.length < 7)
    ∧ (let s := inL (lockRun [(0, 129, 255, 15)]);
      LkJudges s p0 1 255 ∧ Safety.lockSound s ∧ (s.lock.lockRec 255).holder = some 129 ∧ s.lock.queue 255 = [])
    ∧ (let s := inL (lockRun [(0, 43, 255, 3), (0, 129, 255, 5)]);
      LkJudges s p0 1 255 ∧ Safety.lockSound s ∧ (s.lock.lockRec 255).holder = some 43 ∧ s.lock.waitOf 129 = some ⟨129, 255, 5⟩
        ∧ LkJudges s { src := 43, tenant := 0, priv := false } 0 255 ∧ s.lock.queue 255 = [⟨129, 255, 5⟩])
    ∧ (let s := inL (lockRun [(0, 43, 255, 3), (0, 47, 254, 3), (0, 129, 254, 5)]);
      Safety.lockSound s ∧ (s.lock.lockRec 255).holder = some 43 ∧ s.lock.waitOf 129 = some ⟨129, 254, 5⟩
        ∧ (s.lock.waitOf 129).all (fun w => w.lock != 255) = true) := by
  unfold Safety.lockSound; decide +kernel

/-- LOCK has performed nothing in this beat; an act of an earlier beat does not count. -/
theorem witness_LockQuiet : LockQuiet (inL {}) := lockQuiet_of_none rfl

theorem witness_LockAcquireQueues :
    (let s := inL (lockRun [(0, 43, 255, 3), (0, 129, 254, 3), (0, 43, 254, 0)]);
      Safety.lockSound s ∧ (s.lock.lockRec 255).holder = some 43 ∧ s.lock.waitOf 129 = none ∧ closesCycle s 129 43 = true)
    ∧ (let s := inL (lockRun [(0, 43, 255, 3), (0, 47, 255, 2)]);
      Safety.lockSound s ∧ LkJudges s p0 1 255 ∧ (s.lock.lockRec 255).holder = some 43 ∧ s.lock.waitOf 129 = none ∧ closesCycle s 129 43 = false
        ∧ s.lock.waits.length < 512 ∧ s.lock.holds 129 = [] ∧ s.lock.waitOf 43 = none ∧ (∀ w ∈ s.lock.queue 255, 2 ≤ s.lock.epOf w.req)
        ∧ (∀ w ∈ s.lock.queue 255, s.lock.epOf w.req < 3))
    ∧ (let s := inL {} fun c => c.put (Lgrp.MASK 15) 2; s.chip.fenced 24 = false ∧ bit (s.chip.f (Lgrp.MASK (255 / 16))) p0.tenant = false)
    ∧ (let s := inL {} fun c => c.put Dip.ROLE 3;
      bit (s.chip.f (Lgrp.MASK (255 / 16))) p0.tenant = true ∧ bit (s.chip.f (Lgrp.MASK (255 / 16))) 1 = true ∧ s.chip.f Dip.ROLE = 3)
    ∧ (let s := inL { quar := [(1, some 1)] }; s.chip.f Dip.ROLE ≠ 3 ∧ s.lock.quarantined 129 = true) := by
  unfold Safety.lockSound; decide +kernel

theorem witness_LockQueuesFull :
    (let s := inL { lockRun [(0, 43, 255, 3)] with waits := (List.range 512).map fun i => ⟨2000 + i, 255, 2⟩ };
      (s.lock.lockRec 255).holder = some 43 ∧ s.lock.waits.length = 512 ∧ s.lock.waitOf 129 = none ∧ closesCycle s 129 43 = false) := by decide +kernel

theorem witness_LockForcesNoticesAndQuarantines :
    (let s := inL (lockRun [(0, 129, 255, 15)]) fun c => c.put (Lgrp.HOLD_TMO 15) 1;
      (s.lock.lockRec 255).holder ≠ none ∧ s.chip.f (Lgrp.HOLD_TMO 15) ≠ 0 ∧ (s.lock.lockRec 255).timer = true ∧ s.chip.f (Lgrp.FORCE_TMO 15) = 0
        ∧ s.lock.queue 255 = [] ∧ s.chip.fenced 24 = false ∧ t1.tenant.val ≠ s.chip.f (Lgrp.ADMIN 15) ∧ t1.priv = false ∧ s.chip.f Dip.ROLE ≠ 3)
    ∧ (let s := inL (lockRun [(0, 43, 255, 3), (0, 129, 255, 5)]) fun c => (c.put (Lgrp.HOLD_TMO 15) 1).put (Lgrp.FORCE_TMO 15) 1;
      (s.lock.lockRec 255).holder ≠ none ∧ s.chip.f (Lgrp.FORCE_TMO 15) = 1 ∧ s.lock.queue 255 = [⟨129, 255, 5⟩])
    ∧ (inL (lockRun [(0, 129, 255, 15)]) fun c => c.put (Lgrp.FORCE_TMO 15) 1).chip.f (Lgrp.FORCE_TMO 15) = 1
    ∧ ((inL {}).lock.lockRec 255).holder = none ∧ (inL {} fun c => c.put Dip.ROLE 3).chip.f Dip.ROLE = 3
    ∧ (let s := st fun c => c.setNi (natAt pNodes 3) { in3 := [{ hdr := { typ := 9 }, words := [0x114, 0x1FFFF] }] };
      (s.chip.ni (natAt pNodes 3)).in3 = [{ hdr := { typ := 9 }, words := [0x114, 0x1FFFF] }]) := by decide +kernel

/-- A host of port B on PMBus, with a correct PEC, whose tenant has every right; the page is rail 15. -/
def inH (f : Chip → Chip := id) : State :=
  st fun c => f (((c.put (Tenant.PORT 2) 1).put (Tenant.RIGHTS 2) 255).put (PortQ.PAGE 1) 15)

/-- Its transactions. -/
def hx (pec : Option Bool := some true) : HostTx := { port := 1, pec := pec }

theorem witness_HostReadsAndStatusReturnTheirFields :
    (let s := inH; Between s ∧ Serves s (hx) ∧ s.chip.hasRight 2 0 = true ∧ s.chip.hasRight 2 1 = true ∧ s.chip.hasRight 2 3 = true
        ∧ PecGood s (hx) ∧ s.chip.shadow = false ∧ (s.chip.ten 2).notices = []
        ∧ (∀ j : Fin 32, s.chip.f (Tmon.EN j) = 1 → s.chip.f (Tmon.RAIL j) ≠ 15))
    ∧ (let s := inH fun c => (((c.put (Tmon.EN 31) 1).put (Tmon.RAIL 31) 15).put (Tmon.TEMP 31) 700).setTen 2 { notices := [(1, 2)] };
      s.chip.f (Tmon.EN 31) = 1 ∧ s.chip.f (Tmon.RAIL 31) = 15
        ∧ (∀ j : Fin 32, s.chip.f (Tmon.EN j) = 1 → s.chip.f (Tmon.RAIL j) = 15 → s.chip.fi (Tmon.TEMP j) ≤ s.chip.fi (Tmon.TEMP 31))
        ∧ (s.chip.ten 2).notices = [(1, 2)] ∧ (s.chip.ten 2).lost = none)
    ∧ (let s := inH fun c => c.setTen 2 { notices := [(1, 2)], lost := some { count := 1, notice := some (3, 4) } };
      Serves s (hx) ∧ (s.chip.ten 2).lost = some { count := 1, notice := some (3, 4) } ∧ 0 = s.chip.clock)
    ∧ (0 < 1 ∧ (15 ≤ 15) ∧ (-1023 * 2 ^ 15 : Int).natAbs ≤ 1023 * 2 ^ 15 * 1) := by decide +kernel

theorem witness_HostWritesActOnTheirRail :
    (let s := inH; Between s ∧ s.chip.shadow = false ∧ Serves s (hx) ∧ PecGood s (hx) ∧ s.chip.hasRight 2 0 = true ∧ s.chip.hasRight 2 1 = true
        ∧ s.chip.hasRight 2 2 = true ∧ s.chip.fenced 0 = false ∧ (s.chip.ni 0).ans = [] ∧ (15 : BitVec 8).toNat < 16 ∧ 16 ≤ (16 : BitVec 8).toNat
        ∧ (rneDiv ((8387 : BitVec 16).toNat * 2000) 4096).toNat < 4096 ∧ s.chip.f (Rail.VOUT_MAX 15) ≠ 4095)
    ∧ Serves (inH) { port := 1, pec := none, ended := false }
    ∧ (let s := inH fun c => c.put (Tenant.RIGHTS 2) 0; Serves s (hx) ∧ s.chip.hasRight 2 1 = false ∧ s.chip.hasRight 2 2 = false)
    ∧ Serves (inH) (hx (some false)) := by decide +kernel

/-- A retry-cache entry whose command is done. -/
def doneEnt (code : Nat) : RetryEntry := { code := code, page := 15, seq := some 255, done := true, bytes := [1, 2] }

theorem witness_HostCommandsReachTheLattice :
    (let s := inH; Between s ∧ Serves s hx ∧ PecGood s hx ∧ s.chip.fenced 0 = false ∧ (s.chip.ni 0).ans = [] ∧ s.chip.shadow = false
      ∧ s.chip.hasRight 2 3 = true ∧ s.chip.hasRight 2 7 = true ∧ s.chip.hasRight 2 5 = true ∧ s.chip.hasRight 2 6 = true ∧ (s.chip.ten 2).cache = none
      ∧ (48 : BitVec 8).toNat < 49 ∧ (3 : BitVec 8).toNat < 4 ∧ (0x61FFFFFC : BitVec 32).toNat / 2 ^ 25 < 49)
    ∧ (let s := inH fun c => c.setTen 2 { cache := some (doneEnt 0xD0) };
      Serves s hx ∧ (s.chip.ten 2).cache = some (doneEnt 0xD0) ∧ (doneEnt 0xD0).page = s.chip.f (PortQ.PAGE 1) ∧ (255 : BitVec 8) = BitVec.ofNat 8 ((doneEnt 0xD6).seq.getD 256)
        ∧ (doneEnt 0xD6).seq = some (255 : BitVec 8).toNat)
    ∧ (let o : HostOp := { id := 7, code := 0xD5 };
      let k : Pkt := { hdr := { vc := 1, typ := 6, tag := 63, gen := 1 }, words := [9] };
      let s := inH fun c => (c.setTen 2 { ops := [o], await := some 7 }).setNi 0 { in1 := [k], tags := [(63, { busy := true, gen := 1, owner := .host (8 * 7 + 2) })] };
      Serves s hx ∧ (s.chip.ni 0).in1 = [k] ∧ k.hdr.dst = 0 ∧ o.left ≤ 1 ∧ o.status = stOk ∧ (s.chip.tag 0 63).busy = true ∧ (s.chip.tag 0 63).gen = 1 ∧ (s.chip.ten 2).ops = [o]
        ∧ (s.chip.tag 0 63).owner = .host (8 * o.id + 2) ∧ o.fwd = none ∧ (s.chip.ten 2).await = some o.id) := by decide +kernel

theorem witness_ResponseIsNotOwner :
    (let o : HostOp := { id := 7, code := 0x21, page := 15 };
      let k : Pkt := { hdr := { vc := 1, typ := 7, tag := 63, gen := 1, status := stNotOwner } };
      let s := inH fun c => (c.setTen 2 { ops := [o] }).setNi 0 { in1 := [k], tags := [(63, { busy := true, gen := 1, owner := .host (8 * 7 + 2) })] };
      (s.chip.ten 2).ops = [o] ∧ (s.chip.ni 0).in1 = [k] ∧ k.hdr.status = stNotOwner ∧ o.left ≤ 1 ∧ o.status = stOk) := by decide +kernel

theorem witness_FramesMessagesAndNoticesQueue :
    (let s := inH fun c => ((c.put (Tenant.EN 2) 1).put (Tenant.HEAD 2) 254).put (Tenant.TAIL 2) 252;
      Serves s hx ∧ PecGood s hx ∧ s.chip.shadow = false ∧ (s.chip.ten 2).cache = none ∧ s.chip.hasRight 2 4 = true
        ∧ (List.replicate 254 (0 : Byte)).length ≤ 254 ∧ s.chip.f (Tenant.EN 2) = 1 ∧ max 1 ((254 + 59) / 60) ≤ ringRoom s 2)
    ∧ (let s := inH fun c => ((c.put (Tenant.EN 2) 1).put (Tenant.HEAD 2) 7).put (Tenant.TAIL 2) 255; ringRoom s 2 < max 1 ((0 + 59) / 60))
    ∧ (inH.chip.ten 2).outbox = [] ∧ Serves inH { port := 1, ended := false }
    ∧ (let s := inH fun c => c.setTen 2 { outbox := [[1, 2]] }; Serves s hx ∧ (s.chip.ten 2).outbox = [[1, 2]])
    ∧ (let s := st fun c => { c.put (Tenant.HEAD 7) 3 with clock := 1 };
      May s 0 p0 ∧ (s.chip.ten 7).lost = none ∧ (s.chip.ten 7).pub.1 ≠ s.chip.clock ∧ (s.chip.f (Tenant.HEAD 7) + 256 - bits (0xFB00 : Word).toNat 15 8) % 256 ≤ max 8 (min 128 (s.chip.f (Tenant.NBUF 7)))
        ∧ max 8 (min 128 (s.chip.f (Tenant.NBUF 7))) < (s.chip.f (Tenant.HEAD 7) + 256 - bits (0xFA00 : Word).toNat 15 8) % 256)
    ∧ (let s := st fun c => (c.setNi 0 { in3 := [{ hdr := { typ := 5, offset := 7 } }] }).setTen 7 { outbox := [[], [], []] };
      (s.chip.ni 0).in3 = [{ hdr := { typ := 5, offset := 7 } }] ∧ (s.chip.ten 7).outbox.length < 4)
    ∧ (let s := st fun c => (c.setNi 0 { in3 := [{ hdr := { typ := 5, offset := 1 } }] }).setTen 1 { outbox := [[], [], [], []] };
      4 ≤ (s.chip.ten 1).outbox.length)
    ∧ (let n := natAt pNodes 3; let s := st fun c => ((c.put (Inbox.HEAD n) 255).put (Inbox.TAIL n) 248).setNi n { in3 := [{ hdr := { typ := 5 }, words := [1] }] };
      (s.chip.ni n).in3 = [{ hdr := { typ := 5 }, words := [1] }] ∧ (s.chip.f (Inbox.HEAD n) + 256 - s.chip.f (Inbox.TAIL n)) % 256 ≠ 8)
    ∧ (let n := natAt pNodes 3; let s := st fun c => (c.put (Inbox.HEAD n) 7).put (Inbox.TAIL n) 255;
      (s.chip.f (Inbox.HEAD n) + 256 - s.chip.f (Inbox.TAIL n)) % 256 = 8)
    ∧ (let k : Pkt := { hdr := { typ := 9, tenant := 2 }, words := [1, 2] };
      let s := st fun c => (c.setNi 0 { in3 := [k] }).setTen 2 { notices := List.replicate 15 (0, 0) };
      (s.chip.ni 0).in3 = [k] ∧ (s.chip.ten 2).notices.length < 16)
    ∧ (let s := st fun c => c.setTen 2 { notices := List.replicate 16 (0, 0) }; 16 ≤ (s.chip.ten 2).notices.length) := by decide +kernel

/-- A WR of tenant `x`'s forwarding slot: command `code`, the last record. -/
def slotWr (x code : Nat) (ten src : Nat) (more : Bool) : Pkt :=
  { hdr := { vc := 2, typ := 2, len := 15, be := 15, offset := 0x1000800 + 64 * x, tenant := ten, src := src },
    words := [BitVec.ofNat 32 (x + b2n (!more) * 2 ^ 12 + code * 2 ^ 16)] }

theorem witness_TenantResetsAndForwarding :
    (MayPriv (st id) 0 p0 ∧ (st id).chip.shadow = false)
    ∧ (st fun c => c.put (Tenant.RESETTING 7) 1).chip.f (Tenant.RESETTING 7) = 1
    ∧ (let s := inH fun c => c.put Dip.ROLE 3;
      Serves s hx ∧ PecGood s hx ∧ s.chip.shadow = true ∧ s.chip.fenced 0 = false ∧ (s.chip.ni 0).ans = [] ∧ (s.chip.ten 2).cache = none
        ∧ s.chip.hasRight 2 2 = true ∧ s.chip.hasRight 2 4 = true)
    ∧ (SlotWrite (slotWr 7 0x88 6 64 false) ∧ SlotWrite (slotWr 0 0x88 7 64 true) ∧ bit (wordAt (slotWr 0 0x88 7 64 true).words 0) 12 = false)
    ∧ (let s := inH fun c => c.setNi 0 { in2 := [slotWr 2 0x88 7 64 false] };
      (s.chip.ni 0).in2 = [slotWr 2 0x88 7 64 false] ∧ s.chip.fenced 0 = false ∧ bit (wordAt (slotWr 2 0x88 7 64 false).words 0) 12 = true
        ∧ s.chip.f (Tenant.RESETTING 2) = 0 ∧ (s.chip.ten 2).ops.length < 8 ∧ bits (wordAt (slotWr 2 0x88 7 64 false).words 0) 23 16 = 0x88
        ∧ (s.chip.ten 2).fwdBytes ++ (toBytes 60 (ofWords ((slotWr 2 0x88 7 64 false).words.drop 1))).take (min 60 (wordAt (slotWr 2 0x88 7 64 false).words 0 / 2 ^ 24)) = []
        ∧ s.chip.hasRight 2 0 = true)
    ∧ (inH fun c => c.put (Tenant.RIGHTS 2) 0).chip.hasRight 2 0 = false
    ∧ (let s := inH fun c => c.setTen 2 { outbox := [[2, 3]] };
      s.chip.hasRight 2 4 = true ∧ (s.chip.ten 2).outbox = [[2, 3]] ∧ bits (wordAt (slotWr 2 0xD3 7 64 false).words 0) 23 16 = 0xD3) := by
  unfold SlotWrite; decide +kernel

/-- Port B is on I3C, with a dynamic address or none. -/
def inI (h : PortH) : State := st fun c => (c.put (Tenant.PORT 2) 2).setPortH 1 h

/-- AVSBus port 7 selects rail 15 at select 0 and owns it. -/
def inAvs (f : Chip → Chip := id) : State :=
  st fun c => f ((((c.put (Avs.SEL_EN 7) 1).put (Avs.SEL0 7) 15).put (Rail.SP_OWNER 15) 15).put (Rail.SLEW_MAX 15) 255)

theorem witness_PortsI3cAndAvsFollowTheirCommands :
    (let s := inH fun c => c.setTen 2 { await := some 0 }; Between s ∧ (s.chip.ten 2).await ≠ none ∧ s.chip.portServes 1 false = true)
    ∧ (let s := inI { alert := true }; (s.chip.portH 1).alert = true) ∧ (let s := inI { answered := true }; (s.chip.portH 1).answered = true)
    ∧ (let s := inI { ibi := some 3, ibiEn := true };
      (s.chip.portH 1).ibi = some 3 ∧ (s.chip.portH 1).ibiEn = true ∧ (s.chip.portH 1).hdr = false ∧ s.chip.portServes 1 true = true
        ∧ (s.chip.portH 1).dyn = none ∧ (0x38 : BitVec 7).toNat = 0x30 + 8 * 1 + s.chip.f (PortQ.PMADDR 1))
    ∧ (let s := inI { dyn := some 127 }; (s.chip.portH 1).dyn ≠ none ∧ s.chip.portServes 1 true = true)
    ∧ (let s := inAvs;
      s.chip.hubRuns = true ∧ s.chip.f (Tenant.RESETTING (3 + 7 / 2)) = 0 ∧ (s.chip.ten (3 + 7 / 2)).ops.length < 8 ∧ s.chip.fenced 0 = false ∧ (s.chip.ni 0).ans = []
        ∧ s.chip.avsSel 7 0 = some 15 ∧ s.chip.shadow = false ∧ s.chip.f (Rail.SP_OWNER 15) = 8 + 7 ∧ (s.chip.avs 7).held = []
        ∧ s.chip.hasRight (3 + 7 / 2) 0 = false ∧ (∀ j : Fin 32, s.chip.f (Tmon.EN j) = 1 → s.chip.f (Tmon.RAIL j) ≠ 15)
        ∧ bit (s.chip.f (Avs.SEL_EN 7)) 14 = false)
    ∧ (inAvs fun c => c.put (Rail.SP_OWNER 15) 0).chip.f (Rail.SP_OWNER 15) ≠ 8 + 7
    ∧ (let s := inAvs fun c => c.put (Tenant.RIGHTS 6) 1; s.chip.avsSel 7 0 = some 15 ∧ s.chip.hasRight (3 + 7 / 2) 0 = true)
    ∧ (let s := inAvs fun c => ((c.put (Tmon.EN 0) 1).put (Tmon.RAIL 0) 15).put (Tmon.TEMP 0) 1;
      s.chip.f (Tmon.EN 0) = 1 ∧ s.chip.f (Tmon.RAIL 0) = 15
        ∧ (∀ i : Fin 32, s.chip.f (Tmon.EN i) = 1 → s.chip.f (Tmon.RAIL i) = 15 → s.chip.fi (Tmon.TEMP i) ≤ s.chip.fi (Tmon.TEMP 0)))
    ∧ ((400 : BitVec 16).toNat ≤ 400 ∧ 400 < (401 : BitVec 16).toNat ∧ ((st id).chip.ni 0).send3.length < 8) := by decide +kernel

/-- The twin section with a role, a link state and a change. -/
def inT (role link : Nat) (tw : TwinH) (f : Chip → Chip := id) : State :=
  st fun c => f { (c.put Dip.ROLE role).put Dip.LINK link with tw := tw }

/-- A LATTICE frame of a read, its lanes, and the lanes with a bit of its header wrong. -/
def frameOf (fseq : Nat) : Frame := Pkt.toFrame { hdr := { vc := 2, typ := 1, dst := 65, be := 15 } } fseq 0
@[inherit_doc frameOf] def lanesOf (fseq : Nat) : Lanes := stripe (frameOf fseq).toBlocks
@[inherit_doc frameOf] def lanesBad : Lanes :=
  { lanesOf 3 with lane0 := (lanesOf 3).lane0.map fun b => if b.sync = 2 then { b with data := b.data ^^^ (1 <<< 63) } else b }

theorem witness_TwinLinkCarriesFrames :
    (let s := inT 2 1 {}; Between s ∧ s.chip.f Dip.LINK ≠ 0 ∧ s.chip.f Dip.LINK = 1 ∧ bit (0x400 : BitVec 64).toNat 10 = true ∧ bit (0 : BitVec 64).toNat 10 = false
      ∧ s.chip.tw.txL = [] ∧ s.chip.tw.txS = [])
    ∧ (let s := inT 2 0 {} fun c => c.put Dip.PREF 3;
      s.chip.f Dip.LINK = 0 ∧ s.chip.pw.linkHold = false ∧ s.chip.f Dip.PREF ≠ 0 ∧ s.chip.f Dip.CTL_LINK_HOLD = 0)
    ∧ (inT 2 0 {}).chip.f Dip.PREF = 0
    ∧ (let s := inT 2 2 { expect := 3, held := [{ fseq := 255, replays := 2 }] };
      s.chip.f Dip.LINK = 2 ∧ MayPriv s 6 p0 ∧ s.chip.tw.held ≠ []
        ∧ (lanesOf 3).frame = some (frameOf 3) ∧ (frameOf 3).ftype = 2 ∧ (frameOf 3).good = true ∧ (frameOf 3).fseq = s.chip.tw.expect
        ∧ (lanesOf 195).frame = some (frameOf 195) ∧ (s.chip.tw.expect + 256 - (frameOf 195).fseq) % 256 = 64
        ∧ lanesBad.frame = some { frameOf 3 with good := false } ∧ 64 < ({ lanesOf 3 with skew := 65 } : Lanes).skew.toNat
        ∧ s.chip.tw.nak = none ∧ s.chip.tw.txL = [] ∧ s.chip.tw.txS = [] ∧ (s.chip.tw.held[0]?).map Held.fseq = some (255 : BitVec 8).toNat
        ∧ (s.chip.tw.held.take 0).all (fun h => h.fseq != (255 : BitVec 8).toNat) = true ∧ (s.chip.tw.held.drop 0).all (fun h => decide (h.replays < 3)) = true)
    ∧ (let s := inT 2 2 { expect := 3, nak := some (4, 0) } fun c => c.put Dip.ACK_TMO 1; s.chip.tw.nak = some (s.chip.tw.expect + 1, 0) ∧ s.chip.clock - 0 < max 64 (s.chip.f Dip.ACK_TMO))
    ∧ (let s := inT 2 2 { held := [{ replays := 3 }] }; s.chip.tw.held = [{ replays := 3 }] ∧ 3 ≤ 3) := by decide +kernel

theorem witness_EpochsAndHandOver :
    (let s := inT 2 2 {}; Between s ∧ s.chip.f Dip.ROLE = 2 ∧ s.chip.f Dip.LINK = 2 ∧ s.chip.tw.sending = false ∧ MayPriv s 6 p0 ∧ s.chip.tw.ho = 0)
    ∧ (inT 2 2 { sending := true }).chip.tw.sending = true
    ∧ (let s := inT 2 2 { ho := 1, hoEpoch := 65535 };
      s.chip.tw.ho = 1 ∧ bits (0xFFFF0003 : BitVec 64).toNat 3 0 = 3 ∧ bits (0xFFFF0003 : BitVec 64).toNat 31 16 = s.chip.tw.hoEpoch)
    ∧ (inT 2 2 { ho := 2 }).chip.tw.ho = 2
    ∧ (let s := inT 3 2 {}; Watches s ∧ s.chip.f Dip.LINK = 2 ∧ (0 : BitVec 8).toNat = s.chip.tw.expect ∧ s.chip.tw.f = none)
    ∧ (let s := inT 3 2 { f := some { epoch := 9, words := [1, 2] } };
      s.chip.tw.f = some { epoch := 9, words := [1, 2] } ∧ (9 : BitVec 16).toNat = 9 ∧ (2 : BitVec 12).toNat = [1, 2].length ∧ (9 : Nat) ≠ (8 : BitVec 16).toNat
        ∧ [1, 2].length = (BitVec.ofNat 12 ([1, 2].length - 1)).toNat + 1 ∧ s.chip.tw.applying = false
        ∧ (0 : BitVec 32) ≠ BitVec.ofNat 32 (crc32 (epochBytes [1, 2])))
    ∧ (let s := inT 3 2 { applying := true, f := some { fin := some {} } };
      s.chip.tw.applying = true ∧ Watches s ∧ s.chip.tw.f = some { fin := some {} } ∧ (inT 3 2 { applying := true }).chip.tw.f = none) := by decide +kernel

theorem witness_TakeoverFollowsTheInterlock :
    (let s := inT 3 1 {} fun c => c.put Dip.PREF 3; Watches s ∧ s.chip.f Dip.PREF ≠ 0 ∧ s.chip.tw.ho ≠ 2)
    ∧ (let s := inT 2 1 {} fun c => c.put Dip.PREF 1; s.chip.f Dip.ROLE = 2 ∧ s.chip.f Dip.PREF ≠ 0 ∧ s.chip.tw.ho ≠ 2 ∧ s.chip.tw.ignoreTake = false)
    ∧ (let s := inT 0 1 {}; s.chip.f Dip.ROLE ≠ 2 ∧ s.chip.f Dip.ROLE ≠ 3)
    ∧ (let s := inT 3 1 { take := 1, seedList := [{ addr := 0x28100000, rail := 0, fmt := 2 }] };
      s.chip.f Dip.ROLE = 3 ∧ s.chip.tw.take = 1 ∧ s.chip.f Dip.LINK ≠ 0 ∧ bits (2 : BitVec 64).toNat 3 0 = 2 ∧ s.chip.tw.negotiating = false
        ∧ bits (2 : BitVec 64).toNat 63 32 = s.chip.f Dip.CEIL_CRC ∧ s.chip.tw.seedList = [{ addr := 0x28100000, rail := 0, fmt := 2 }]
        ∧ s.chip.tw.blocked = false)
    ∧ (let s := inT 3 0 { take := 2 }; s.chip.f Dip.ROLE = 3 ∧ s.chip.tw.take = 2 ∧ s.chip.f Dip.OWN_OUT = 0 ∧ s.chip.tw.backoff = false ∧ s.chip.f Dip.OWN_IN = 0)
    ∧ (let s := inT 3 0 { take := 2 } fun c => c.put Dip.OWN_IN 1; s.chip.f Dip.OWN_IN = 1 ∧ s.chip.lowerRank = true)
    ∧ (let s := inT 3 2 { take := 2, lastHb := some 0, hbWord := 0x200 } fun c => (c.put Dip.OWN_IN 1).put Dip.PREF 1; s.chip.f Dip.OWN_IN = 1 ∧ s.chip.lowerRank = false)
    ∧ (inT 3 0 { backoff := true }).chip.tw.backoff = true
    ∧ (let s := inT 2 0 {} fun c => c.put Dip.OWN_OUT 1;
      s.chip.f Dip.OWN_OUT = 1 ∧ s.chip.driveOff = false ∧ s.chip.tw.negotiating = false ∧ s.chip.tw.sample = false)
    ∧ (let s := inT 3 1 { take := 1 } fun c => c.put Dip.PREF 1; s.chip.f Dip.ROLE = 3 ∧ s.chip.tw.take = 1 ∧ s.chip.f Dip.PREF ≠ 0 ∧ s.chip.tw.ho ≠ 2)
    ∧ (let s := inT 2 0 { sample := true } fun c => { c with driveOff := true };
      s.chip.tw.sample = true ∧ s.chip.tw.negotiating = false ∧ s.chip.driveOff = true)
    ∧ (let s := inT 3 0 { take := 2, sample := true } fun c => c.put Dip.OWN_OUT 1; s.chip.lowerRank = true ∧ s.chip.tw.take ≠ 1 ∧ s.chip.tw.sample = true ∧ s.chip.f Dip.OWN_OUT = 1)
    ∧ (let s := inT 2 0 { sample := true } fun c => c.put Dip.OWN_OUT 1; s.chip.tw.take = 0 ∧ s.chip.tw.sample = true ∧ s.chip.f Dip.OWN_OUT = 1) := by decide +kernel

theorem witness_OwnershipChanges :
    (let s := inT 2 0 {}; s.chip.f Dip.OWN_OUT = 0 ∧ s.chip.f Dip.ROLE = 2 ∧ s.chip.tw.paused = false)
    ∧ (let s := inT 2 0 { paused := true } fun c => c.put Dip.OWN_OUT 1; s.chip.tw.paused = true ∧ s.chip.f Dip.OWN_OUT = 1 ∧ s.chip.tw.take = 0)
    ∧ (let s := inT 3 0 { paused := true, take := 2 } fun c => c.put Dip.OWN_OUT 1; s.chip.tw.paused = true ∧ s.chip.f Dip.OWN_OUT = 1 ∧ s.chip.tw.take = 2)
    ∧ (let s := inT 3 0 { negotiating := true } fun c => { c.put Dip.PREF 1 with pw.mode := .wake, pw.step := 9 };
      s.chip.tw.negotiating = true ∧ s.chip.f Dip.LINK ≠ 2 ∧ s.chip.f Dip.OWN_IN = 0 ∧ s.chip.f Dip.PREF = 1 ∧ s.chip.pw.mode = .wake ∧ s.chip.pw.step = 9)
    ∧ (let s := inT 3 0 { negotiating := true } fun c => c.put Dip.PREF 3; s.chip.f Dip.PREF ≠ 1 ∧ s.chip.tw.negs = 0) := by decide +kernel

/-- Channel 15 with a change; its mode is ON and the bus is there. -/
def inSw (f : Chip → Chip := id) : State :=
  st fun c => f ((((c.put (Lsw.WMASK 15) 2).put (Lsw.MODE 15) 1).put (Lsw.BUS_OFF 15) 0).put (Lsw.CONDUCT 15) 1)

theorem witness_SwitchCommandsAndProtections :
    (let s := inSw fun c => c.put Power.SEALED 1;
      Between s ∧ s.chip.hwBits = [] ∧ LswMay s 15 t1 ∧ s.chip.shadow = false ∧ (2 : BitVec 2) ≠ 3 ∧ s.chip.b Power.SEALED = true ∧ bits (0x2200 : Word).toNat 13 8 ≤ 34)
    ∧ (let s := st fun c => c.put (Lsw.WMASK 15) 0; s.chip.fenced 18 = false ∧ t1.priv = false ∧ bit (s.chip.f (Lsw.WMASK 15)) t1.tenant = false)
    ∧ (let s := inSw fun c => c.put Dip.ROLE 3;
      LswMay s 15 t1 ∧ s.chip.shadow = true ∧ (2 : BitVec 2) ≠ 3 ∧ (2 : BitVec 2).toNat ≠ s.chip.f (Lsw.MODE 15))
    ∧ (let q : Sender := { src := 82, tenant := 7, priv := true }; q.src = 82 ∧ q.tenant = 7 ∧ bits (0x10 : Word).toNat 4 4 = 1 ∧ bits (2 : Word).toNat 1 0 ≠ 3)
    ∧ (let s := inSw; s.chip.primary = true ∧ p0.priv = true ∧ s.chip.f (Lsw.CONDUCT 15) = 1 ∧ s.chip.f (Lsw.START 15) = 0 ∧ s.chip.f (Lsw.THERM 15) = 0)
    ∧ ((st id).chip.f (Lsw.CONDUCT 15) = 0 ∧ ((st id).chip.lsw 15).off ≠ some (st id).chip.clock)
    ∧ (let s := st fun c => c.setLsw 15 { off := some 0, offOut := true };
      s.chip.f (Lsw.CONDUCT 15) = 0 ∧ (s.chip.lsw 15).off = some s.chip.clock ∧ (s.chip.lsw 15).offOut = true
        ∧ (s.chip.lsw 15).tripAt ≠ some s.chip.clock)
    ∧ (let s := st fun c => c.put (Lsw.BUS_OFF 15) 0; s.chip.f (Lsw.BUS_OFF 15) = 0)
    ∧ (let s := inSw fun c => c.put (Lsw.RETRY_N 15) 4; min 15 (s.chip.f (Lsw.TRIPS 15) + 1) < max 1 (s.chip.f (Lsw.RETRY_N 15)))
    ∧ (let s := inSw fun c => (c.put (Lsw.RETRY_N 15) 4).put (Lsw.TRIPS 15) 3; max 1 (s.chip.f (Lsw.RETRY_N 15)) ≤ min 15 (s.chip.f (Lsw.TRIPS 15) + 1))
    ∧ (inSw fun c => c.put (Lsw.PAUSE 15) 1).chip.f (Lsw.PAUSE 15) = 1
    ∧ (let s := inSw fun c => c.put (Lsw.DT_LIM 15) 3;
      40 + 10 * s.chip.f (Lsw.DT_LIM 15) < (71 : BitVec 8).toNat ∧ (70 : BitVec 8).toNat ≤ 40 + 10 * s.chip.f (Lsw.DT_LIM 15) ∧ (175 : Int) < 176)
    ∧ (let s := inSw fun c => c.put (Lsw.THERM 15) 1;
      s.chip.f (Lsw.THERM 15) = 1 ∧ (20 : BitVec 8).toNat + 20 ≤ 40 + 10 * s.chip.f (Lsw.DT_LIM 15) ∧ 40 + 10 * s.chip.f (Lsw.DT_LIM 15) < (255 : BitVec 8).toNat + 20) := by
  decide +kernel

theorem witness_SwitchBusFollowAndWatchdog :
    (true ≠ (st id).chip.b (Lsw.IN 15) ∧ ((st id).chip.lsw 15).barOpp = false ∧ ((st id).chip.lsw 15).barRise = false)
    ∧ (let s := st fun c => c.setLsw 15 { raw := true, barOpp := true }; (s.chip.lsw 15).barOpp = true ∧ (s.chip.lsw 15).raw ≠ s.chip.b (Lsw.IN 15)
      ∧ (s.chip.lsw 15).barRise = false)
    ∧ ((st id).chip.lsw 15).raw = (st id).chip.b (Lsw.IN 15)
    ∧ ((st id).chip.fenced 18 = false ∧ p0.priv = true ∧ t1.priv = false ∧ (0xA55B : Word) ≠ 0xA55A)
    ∧ (let s := st fun c => c.put Sw.WDT_PER 1; s.chip.pw.mode = .run ∧ s.chip.pw.vddh = true ∧ s.chip.f Sw.WDT_PER ≠ 0 ∧ s.chip.shadow = false
        ∧ s.chip.sw.kick ≠ s.chip.clock + 1 ∧ MayPriv s 18 p0)
    ∧ ((st id).chip.f Sw.WDT_PER = 0 ∧ (st fun c => { c with sw.kick := 1 }).chip.sw.kick = (st id).chip.clock + 1)
    ∧ (let s := st fun c => { (c.put (Lsw.MODE 15) 1).put (Lsw.MODE 3) 1 with sw.back := false };
      s.chip.sw.back = false ∧ lswFree s 3 = true ∧ ∀ m : Fin 16, lswFree s m = true → m = 3 ∨ rankBefore s 3 m = true)
    ∧ (let s := st fun c => { c with sw.back := false }; s.chip.sw.back = false ∧ ∀ n : Fin 16, lswFree s n = false)
    ∧ (let s := st fun c => { c with sw.order := [15, 0] }; s.chip.sw.order = [15, 0] ∧ ([0] : List Nat).all (fun m => m != 15) = true) := by decide +kernel

/-- SEQ holds one event of its own, of class 31 and 12 words, and ring 3, of 16 slots, takes it with `used` records in it. -/
def inRing (used : Nat) : State :=
  st fun c => (((({ c with seq.local_ := [(0xFFFF, List.replicate 12 0)], clock := 1 } : Chip).put (Seq.EVRr_EN 3) 1).put (Seq.EVRr_CLASSMASK 3) 0xFFFFFFFF).put (Seq.EVRr_LOG 3) 4).put
    (Seq.EVRr_HEAD 3) 65535 |>.put (Seq.EVRr_TAIL 3) (65535 - used)

theorem witness_EventsAreStampedAndCounted :
    (let s := inRing 15;
      Between s ∧ s.chip.seq.local_ = [(0xFFFF, List.replicate 12 0)] ∧ s.chip.seq.buf.length < 64 ∧ s.chip.seq.buf = []
        ∧ s.chip.seq.lost = 0 ∧ s.chip.seq.locAt ≠ s.chip.clock + 1 ∧ s.chip.seq.missAt ≠ s.chip.clock ∧ s.chip.evrTook 3 = 0
        ∧ (∀ k : Fin 4, s.chip.f (Seq.EVRr_EN k) = b2n (k == 3)) ∧ bit (s.chip.f (Seq.EVRr_CLASSMASK 3)) (0xFFFF / 2048) = true
        ∧ 4 ≤ s.chip.f (Seq.EVRr_LOG 3) ∧ s.chip.f (Seq.EVRr_LOG 3) ≤ 10
        ∧ (s.chip.f (Seq.EVRr_HEAD 3) + 65536 - s.chip.f (Seq.EVRr_TAIL 3)) % 65536 < 2 ^ s.chip.f (Seq.EVRr_LOG 3)
        ∧ MayPriv s 30 p0 ∧ (s.chip.f (Seq.EVRr_HEAD 3) + 65536 - bits (0xFFEF0000 : Word).toNat 31 16) % 65536 ≤ 2 ^ s.chip.f (Seq.EVRr_LOG 3)
        ∧ 2 ^ s.chip.f (Seq.EVRr_LOG 3) < (s.chip.f (Seq.EVRr_HEAD 3) + 65536 - bits (0xFFEE0000 : Word).toNat 31 16) % 65536)
    ∧ (let s := inRing 16; 2 ^ s.chip.f (Seq.EVRr_LOG 3) ≤ (s.chip.f (Seq.EVRr_HEAD 3) + 65536 - s.chip.f (Seq.EVRr_TAIL 3)) % 65536
        ∧ s.chip.seq.missAt ≠ s.chip.clock ∧ s.chip.evrTook 3 = 0
        ∧ (s.chip.f (Seq.EVRr_HEAD 3) + 65536 - bits (0xFFF00000 : Word).toNat 31 16) % 65536 < 2 ^ s.chip.f (Seq.EVRr_LOG 3))
    ∧ (let s := st fun c => { c with seq.locAt := 1 }; s.chip.seq.locAt = s.chip.clock + 1)
    ∧ (let s := st fun c => { c with seq.local_ := [(0, [])], seq.buf := List.replicate 64 {} }; s.chip.seq.local_ = [(0, [])] ∧ 64 ≤ s.chip.seq.buf.length)
    ∧ (let p : Pkt := { hdr := { typ := 4, src := 127, tenant := 7, len := 12 }, words := 0xFFFF0801 :: List.replicate 12 1 };
      let s := st fun c => (c.setNi 30 { in3 := [p] });
      (s.chip.ni 30).in3 = [p] ∧ p.hdr.offset < 64 ∧ p.words.length = p.hdr.len + 1 ∧ s.chip.seq.buf.length < 63 ∧ s.chip.seq.lost = 0
        ∧ s.chip.seq.latAt ≠ s.chip.clock + 1 ∧ s.chip.seq.local_ = [] ∧ mget 0 s.chip.seq.expect 127 = 0)
    ∧ (let s := st fun c => { c with seq.expect := [(127, 1)] };
      mget 0 s.chip.seq.expect 127 = 1 ∧ (0xFFFF0801 / 65536 + 65537 - 1) % 65536 ≠ 0)
    ∧ (let s := st fun c => { c with seq.lost := 1 }; s.chip.seq.lost ≠ 0 ∧ s.chip.seq.buf = [])
    ∧ (let s := st fun c => (c.put (Bank.CFGk_EN 48 3) 1).put (Bank.CFGk_SEL 48 3) 1;
      s.chip.f (Bank.BANK_FREEZE 48) = 0 ∧ s.chip.f (Bank.CFGk_EN 48 3) = 1 ∧ s.chip.f (Bank.CFGk_SEL 48 3) = 1 ∧ MayPriv s 48 p0
        ∧ (s.chip.ni 48).clr ≠ s.chip.clock + 1 ∧ s.chip.hwBits = [])
    ∧ (let s := st fun c => c.put (Seq.CCj_MODE 31) 3; s.chip.f (Seq.CCj_MODE 31) = 3 ∧ s.chip.f Seq.CC_FREEZE = 0 ∧ s.chip.f Dip.ROLE ≠ 3
        ∧ s.chip.seq.clr ≠ s.chip.clock + 1) := by decide +kernel

/-- Trace channel 7 is enabled and holds `h`. -/
def inTr (h : TraceH) (f : Chip → Chip := id) : State := st fun c => f ((c.put (Trc.EN 7) 1).setTrace 7 h)

theorem witness_TraceChannelsWritePages :
    (Between (st id) ∧ May (st id) 48 p0 ∧ ((st id).chip.trace 7).flushAt ≠ (st id).chip.clock + 1 ∧ (st id).chip.f (Trc.EN 7) = 0 ∧ ((st id).chip.trace 7).samples = [] ∧ ((st id).chip.trace 7).blocks = [] ∧ ((st id).chip.trace 7).pages = [])
    ∧ (let s := inTr { pages := [1, 2] }; s.chip.f (Trc.EN 7) = 1 ∧ 2 ≤ (s.chip.trace 7).pages.length)
    ∧ (let s := inTr { samples := [-2048], pages := [1] };
      s.chip.f (Trc.FULL 7) = 0 ∧ (s.chip.trace 7).pages.length < 2 ∧ (s.chip.trace 7).samples.length < 6 ∧ (s.chip.trace 7).samples ≠ []
        ∧ (s.chip.trace 7).blocks.length < 7 ∧ (s.chip.trace 7).blocks.all (fun b => decide (b < 2 ^ 68)) = true)
    ∧ (let s := inTr { blocks := List.replicate 7 5 }; (s.chip.trace 7).samples = [] ∧ (s.chip.trace 7).blocks ≠ [] ∧ (s.chip.trace 7).blocks.length < 8)
    ∧ (let s := inTr { samples := List.replicate 7 2047, blocks := [5] }; (s.chip.trace 7).samples.length = 7 ∧ (s.chip.trace 7).blocks.length < 6)
    ∧ (let s := inTr { samples := List.replicate 7 2047, blocks := List.replicate 6 5 }; (s.chip.trace 7).samples.length = 7 ∧ (s.chip.trace 7).blocks.length = 6
        ∧ bits (0x7FFFFFFF : Word).toNat 31 31 = 0)
    ∧ (let s := inTr { pages := [9] } fun c => (c.put (Trc.LOG 7) 12).put (Trc.PSEQ 7) 63;
      (s.chip.trace 7).pages = [9] ∧ 12 ≤ s.chip.f (Trc.LOG 7)
        ∧ s.chip.f (Trc.BASE 7) / (64 * 64) * (64 * 64) + 64 * (s.chip.f (Trc.PSEQ 7) % 2 ^ (s.chip.f (Trc.LOG 7) - 6)) < 2 ^ 32 - 64
        ∧ s.chip.f (Trc.STOP 7) = 0 ∧ s.chip.f (Trc.PSEQ 7) % 64 = 63) := by decide +kernel

theorem witness_SketchbookAndCells :
    (let s := st fun c => { ((c.put (Rail.EN 15) 1).put (Rail.IRAIL 15) 32767).put (Rail.EN 14) 1 |>.put (Rail.IRAIL 14) 65535 with skb.counting := true, skb.done := [(15, 1)] };
      Between s ∧ s.chip.pw.vddh = true ∧ s.chip.skb.counting = true ∧ (-320 + 40 * 31 : Int) ≤ 920 ∧ s.chip.f (Rail.EN 15) = 1
        ∧ (2 ^ 14 + b2n true * 2 ^ 14 / 2 : Int) ≤ s.chip.fi (Rail.IRAIL 15) ∧ s.chip.fi (Rail.IRAIL 15) < 2 ^ 14 + (b2n true + 1) * 2 ^ 14 / 2
        ∧ s.chip.fi (Rail.IRAIL 14) < 0 ∧ s.chip.fi (Rail.IRAIL 13) = 0 ∧ s.chip.f (Rail.EN 13) = 0 ∧ mget 0 s.chip.skb.done 15 = 0 + 1
        ∧ s.chip.skb.page = none ∧ MayPriv s 32 p0)
    ∧ (let s := st fun c => { c with skb.page := some 12 }; s.chip.skb.page = some 12 ∧ s.chip.skb.waiting = false ∧ s.chip.nvc.queue.length < 4)
    ∧ (let s := st fun c => c.put Nvc.USER_WR 2;
      s.chip.fenced 42 = false ∧ NvMay s t1 (bits (0x10002240 : Word).toNat 13 0) ∧ NvMay s p0 (bits (0x100020FF : Word).toNat 13 0)
        ∧ s.chip.f Nvc.BUSY = 0 ∧ s.chip.nvc.queue.length < 4 ∧ bits (0x10002240 : Word).toNat 31 28 = 1 ∧ bits (0x20002240 : Word).toNat 31 28 ≠ 1
        ∧ 0x2100 ≤ bits (0x1000223F : Word).toNat 13 0 ∧ bits (0x1000223F : Word).toNat 13 0 < 0x2240)
    ∧ (st fun c => c.put Nvc.BUSY 1).chip.f Nvc.BUSY = 1 := by decide +kernel

theorem witness_CellPulses :
    (let s := st fun c => { c with nvc.queue := [{ page := 3 }] }; s.chip.pw.resetDue = 0 ∧ s.chip.nvc.cur = none ∧ s.chip.nvc.queue = [{ page := 3 }])
    ∧ (let x : NvCur := { epulses := 1 }; let s := st fun c => { c with nvc.cur := some x }; s.chip.nvc.cur = some x ∧ x.erasing = true ∧ x.epulses < 2)
    ∧ (let x : NvCur := { erasing := false, word := 30, n := 6 }; let s := st fun c => { c with nvc.cur := some x }; s.chip.nvc.cur = some x ∧ x.word < 31 ∧ x.n < 7)
    ∧ (let x : NvCur := { erasing := false, word := 31, n := 7 };
      x.word = 31 ∧ x.stage = 0 ∧ x.w.origin = .regs ∧ x.n = 7 ∧ freeSpare (st id).chip.nvc.remap = some 4 ∧ spareOf (st id).chip.nvc.remap x.w.page = none)
    ∧ ((0x3C : BitVec 22).toNat % 4 = 0 ∧ (0x38 : BitVec 22).toNat % 64 + 4 * (1 : Fin 16).val < 64 ∧ p0.priv = true ∧ (st id).chip.cellCond (0x38 + 4) = 0)
    ∧ (let s := st fun c => { c with nvc.cond := [(7, 2)] }; s.chip.nvc.cur = none ∧ s.chip.cellCond (0x38 : BitVec 22).toNat = 2)
    ∧ (let s := st fun c => { c with nvc.cur := some {} }; s.chip.bankBusy ((0x100 : BitVec 22).toNat / 256) = true)
    ∧ (let s := st fun c => c.put Img.OPEN 1; MayPriv s 31 p0 ∧ s.chip.f Img.OPEN = 1 ∧ s.chip.b Power.SEALED = false ∧ bits (2 : Word).toNat 1 0 ≠ 3 ∧ s.chip.keyState 2 = 0)
    ∧ bits (3 : Word).toNat 1 0 = 3 := by decide +kernel

/-- The personality: STATE `g`, start-up order `ord`, region 7 at position 17 in STATE `r`. -/
def inC (g ord r : Nat) (f : Chip → Chip := id) : State :=
  st fun c => f ((((((c.put Gcfg.STATE g).put Gcfg.STARTUP_ORDER ord).put (Gcfg.REGIONr_EN 7) 1).put (Gcfg.REGIONr_FIRST 7) 17).put (Gcfg.REGIONr_LAST 7) 17).put
    (Gcfg.REGIONr_STATE 7) r)

theorem witness_ConfigurationCommandsActOnTheArray :
    (let s := inC 1 0x6C 0; Between s ∧ MayPriv s 10 p0 ∧ s.chip.f Gcfg.STATE ≤ 1 ∧ isOrder (s.chip.f Gcfg.STARTUP_ORDER) = true
      ∧ orderFlags (s.chip.f Gcfg.STARTUP_ORDER) = 0)
    ∧ (let s := inC 3 0x6C 1;
      s.chip.f Gcfg.STATE = 3 ∧ s.chip.f (Gcfg.REGIONr_EN 7) = 1 ∧ s.chip.f (Gcfg.REGIONr_STATE 7) = 1 ∧ s.chip.inRegion 7 (posOf 17) = true
        ∧ s.chip.inRegion 7 (if (23 : Nat) < 12 then 8 else 17) = true)
    ∧ (let s := inC 2 0 0; s.chip.f Gcfg.STATE = 2 ∧ isOrder (s.chip.f Gcfg.STARTUP_ORDER) = false)
    ∧ (let s := inC 3 0x6C 0; s.chip.f (Gcfg.REGIONr_STATE 7) = 0 ∧ s.chip.inRegion 7 18 = false ∧ s.chip.pl.holds = [] ∧ s.chip.gl.wcfg = none
      ∧ ∀ r : Fin 8, s.chip.f (Gcfg.REGIONr_EN r) = 0 ∨ s.chip.f (Gcfg.REGIONr_STATE r) ≠ 1 ∨ s.chip.inRegion r (posOf 0) = false)
    ∧ (let s := inC 3 0x6C 1 fun c => { c.put Gcfg.FAR (17 * 2048) with gl.wcfg := some (List.replicate 46 1) }; s.chip.gl.wcfg = some (List.replicate 46 1)
      ∧ (List.replicate 46 (1 : Word)).length < 47 ∧ (List.replicate 47 (1 : Word)).length = 47 ∧ s.chip.f Gcfg.FAR / 2048 % 32 = 17)
    ∧ (let s := inC 0 0 0 fun c => { c.put Gcfg.FAR (18 * 2048 + 2032) with gl.rcfg := some 47 }; s.chip.gl.rcfg = some 47 ∧ s.chip.f Gcfg.FAR / 2048 ≤ 18)
    ∧ (let s := inC 3 0 1 fun c => (c.put Gcfg.PL_ADDR_MEM 0).put Gcfg.PL_ADDR_WORD 4095;
      s.chip.f Gcfg.PL_ADDR_MEM < 24 ∧ 2 ≤ s.chip.f Gcfg.STATE ∧ s.chip.inRegion 7 (if s.chip.f Gcfg.PL_ADDR_MEM < 12 then 8 else 17) = false) := by decide +kernel

/-- The array starts up, with a change. -/
def inStart (f : Chip → Chip := id) : State := inC 2 0x6C 0 f

theorem witness_StartUpScrubberAndRegions :
    (let s := inStart fun c => { c with gl.step := 1 };
      Between s ∧ s.chip.pw.mode ≠ .wake ∧ s.chip.f Gcfg.STATE = 2 ∧ s.chip.gl.checking = false ∧ 1 ≤ s.chip.gl.step ∧ stepNow s = 0 ∧ s.chip.locked = false)
    ∧ (let s := inStart fun c => { c with gl.step := 3 }; stepNow s ≠ 0 ∧ s.chip.gl.step < 4)
    ∧ (let s := inStart fun c => { c with gl.step := 4 }; s.chip.gl.step = 4 ∧ stepNow s ≠ 0)
    ∧ (let s := inC 3 0x6C 2 fun c => { c with gl.regStep := [(7, 4)] }; mget 0 s.chip.gl.regStep 7 ≠ 0 ∧ mget 0 s.chip.gl.regStep 7 - 1 < 4)
    ∧ (let s := inC 3 0x6C 2 fun c => { c with gl.regCheck := [(7, true)] };
      s.chip.f (Gcfg.REGIONr_STATE 7) = 2 ∧ mget false s.chip.gl.regCheck 7 = true ∧ (s.chip.regionFrames 7).any (fun fr => !mget false s.chip.gl.written fr) = true)
    ∧ (let s := inC 3 0x6C 0 fun c => { c with gl.scrub := 2431, gl.sig := [(2431, c.frameCrc 2431 + 1)] };
      s.chip.gl.scrub = 2431 ∧ s.chip.f Power.STATE = 0 ∧ (∀ r : Fin 8, s.chip.f (Gcfg.REGIONr_EN r) = 0 ∨ s.chip.f (Gcfg.REGIONr_STATE r) ≠ 1)
        ∧ s.chip.gl.repairs = 0 ∧ s.chip.frameCrc 2431 = s.chip.signature 2431 ∧ s.chip.f Gcfg.SCRUB_CRIT_ACT = 0 ∧ mget false s.chip.gl.nvMark 2431 = false
        ∧ s.chip.marked 2431 95 = false)
    ∧ (let s := inC 3 0x6C 0 fun c => { c with gl.scrub := 0, gl.nvMark := [(0, true)], gl.frames := (List.range 48).map (fun i => (i, 0xFFFFFFFF)),
                                               gl.stencil := (List.range 12).map (fun i => (i, 255)) };
      mget false s.chip.gl.nvMark 0 = true ∧ s.chip.cellBad (slotBase (s.chip.b Nvc.ACTIVE_SLOT) + 0x100 + 192 * 0) 192 = false
        ∧ (∀ i : Fin 48, mget 0 s.chip.gl.frames (48 * 0 + i) = BitVec.ofNat 32 (s.chip.cellsAt (slotBase (s.chip.b Nvc.ACTIVE_SLOT) + 0x100 + 192 * 0 + 4 * i) 4))
        ∧ s.chip.marked 0 0 = true) := by decide +kernel

/-- The array's check is under way at START, with a change. -/
def inCheck (f : Chip → Chip := id) : State := inStart fun c => f { c with gl.step := 0, gl.checking := true }

theorem inCheck_frames (fr : Map Word) : (inCheck fun c => { c with gl.frames := fr }).chip.gl.frames = fr := rfl

theorem witness_FabricChecksEnd :
    (let s := inCheck fun c => { c with gl.frames := unusedFrames };
      s.chip.pw.mode ≠ .wake ∧ s.chip.f Gcfg.STATE = 2 ∧ s.chip.gl.checking = true ∧ s.chip.gl.step = 0 ∧ s.chip.f Gcfg.CTL_CRC_CHK = 0
        ∧ s.chip.fabric (fun _ => true) = none) :=
  ⟨by decide +kernel, by decide +kernel, by decide +kernel, by decide +kernel, by decide +kernel, fabric_unused (inCheck_frames _) _⟩

theorem witness_FabricCheckRefuses :
    (let s := inCheck;
      s.chip.pw.mode ≠ .wake ∧ s.chip.f Gcfg.STATE = 2 ∧ s.chip.gl.checking = true ∧ s.chip.gl.step = 0
        ∧ ∃ e, s.chip.fabric (fun _ => true) = some e) :=
  ⟨by decide +kernel, by decide +kernel, by decide +kernel, by decide +kernel, fabric_refused (col := 16) (by decide) rfl (by decide +kernel)⟩

/-- The array's check with the unused array and a check value. -/
def inCrc (v : Nat) (fr : Map Word := unusedFrames) : State :=
  inCheck fun c => { c.put Gcfg.CTL_CRC_CHK 1 |>.put Gcfg.CRC_EXP v with gl.frames := fr }

theorem inCrc_frames (v : Nat) (fr : Map Word) : (inCrc v fr).chip.gl.frames = fr := rfl

theorem arrayCrc_frames {c d : Chip} (h : c.gl.frames = d.gl.frames) : c.arrayCrc = d.arrayCrc := by
  unfold Chip.arrayCrc Chip.frameWords Chip.frameWord; rw [h]

theorem witness_FabricCheckFindsACrc :
    ∃ s : State, s.chip.pw.mode ≠ .wake ∧ s.chip.f Gcfg.STATE = 2 ∧ s.chip.gl.checking = true ∧ s.chip.gl.step = 0
        ∧ s.chip.fabric (fun _ => true) = none ∧ s.chip.f Gcfg.CTL_CRC_CHK = 1 ∧ s.chip.arrayCrc ≠ s.chip.f Gcfg.CRC_EXP := by
  have e0 : (inCrc 0).chip.f Gcfg.CRC_EXP = 0 := by decide +kernel
  have e1 : (inCrc 1).chip.f Gcfg.CRC_EXP = 1 := by decide +kernel
  by_cases h : (inCrc 0).chip.arrayCrc = 0
  · refine ⟨inCrc 1, by decide +kernel, by decide +kernel, by decide +kernel, by decide +kernel, fabric_unused (inCrc_frames 1 _) _, by decide +kernel, ?_⟩
    rw [e1, arrayCrc_frames ((inCrc_frames 1 _).trans (inCrc_frames 0 _).symm), h]; decide
  · exact ⟨inCrc 0, by decide +kernel, by decide +kernel, by decide +kernel, by decide +kernel, fabric_unused (inCrc_frames 0 _) _, by decide +kernel, by rw [e0]; exact h⟩

/-- Region 7 is checked: every frame written, the array unused. -/
def inRegionCheck (fr : Map Word := unusedFrames) : State := inC 3 0x6C 2 fun c =>
  { c with gl.regCheck := [(7, true)], gl.written := (List.range 128).map (fun i => (2176 + i, true)), gl.frames := fr }

theorem inRegionCheck_frames (fr : Map Word) : (inRegionCheck fr).chip.gl.frames = fr := rfl

theorem witness_RegionCheckPasses :
    (let s := inRegionCheck;
      s.chip.pw.mode ≠ .wake ∧ s.chip.f (Gcfg.REGIONr_STATE 7) = 2 ∧ mget false s.chip.gl.regCheck 7 = true
        ∧ (s.chip.regionFrames 7).any (fun fr => !mget false s.chip.gl.written fr) = false
        ∧ crc32 (wordBytes (mget [] s.chip.gl.regWords 7)) = s.chip.f (Gcfg.REGIONr_CRC_EXP 7)
        ∧ s.chip.fabric (fun col => decide (col < 18) && s.chip.inRegion 7 (posOf col)) = none) :=
  ⟨by decide +kernel, by decide +kernel, by decide +kernel, by decide +kernel, by decide +kernel, fabric_unused (inRegionCheck_frames _) _⟩

/-- The part wakes, at a step, with a change. -/
def inW (k : Nat) (f : Chip → Chip := id) : State := st fun c => f { c with pw.mode := .wake, pw.step := k }

/-- The smallest image that passes checks 1–6 and 11: eight sections of no bytes. CRC-32 of header and table from Python's zlib. -/
def image0 : List Byte :=
  toBytes 4 0x485A4F58 ++ toBytes 2 1 ++ toBytes 2 64 ++ toBytes 4 256 ++ toBytes 4 0x07240A02 ++ toBytes 4 5 ++ toBytes 4 0 ++ toBytes 2 8 ++ toBytes 2 0
    ++ toBytes 4 64 ++ toBytes 4 0xABCD ++ List.replicate 24 0 ++ toBytes 4 0x277483EA
    ++ [2, 3, 4, 5, 6, 7, 8, 9].flatMap (fun t => toBytes 4 t ++ toBytes 4 256 ++ toBytes 8 0) ++ toBytes 4 0x07534026 ++ List.replicate 60 0

/-- An image whose RAILS record names no register. -/
def imageBad : List Byte :=
  List.replicate 24 0 ++ toBytes 2 1 ++ List.replicate 38 0 ++ toBytes 4 4 ++ toBytes 4 80 ++ toBytes 4 12 ++ toBytes 4 0 ++ List.replicate 12 255

theorem witness_WakesRunTheirSteps :
    (Between State.reset ∧ State.reset.chip.pw.mode = .reset ∧ (st id).chip.pw.mode ≠ .reset)
    ∧ (failOf .vddg = some (2, 3) ∧ (inW 2).chip.atStep 2 = true ∧ (inW 2).chip.pw.vddh = true ∧ (inW 2).chip.pw.attempts < 3)
    ∧ (let s := inW 4 fun c => { c with pw.attempts := 3 }; failOf .pllPwm = some (4, 6) ∧ s.chip.atStep 4 = true ∧ 3 ≤ s.chip.pw.attempts)
    ∧ ((inW 3).chip.atStep 3 = true ∧ (inW 3).chip.pw.oscOk = false ∧ (inW 3 fun c => { c with pw.oscOk := true }).chip.pw.oscOk = true)
    ∧ (let s := inW 1 fun c => { c with pw.failed := true }; s.chip.pw.mode = .wake ∧ s.chip.pw.failed = true)
    ∧ ((inW 0).chip.atStep 0 = true ∧ (inW 1).chip.atStep 1 = true ∧ (inW 2 fun c => { c with pw.vddh := false }).chip.pw.vddh = false)
    ∧ (let s := inW 5; s.chip.atStep 5 = true ∧ s.chip.fenced 31 = false ∧ s.chip.nvc.cells = [] ∧ s.chip.arrayKept = false)
    ∧ (let s := inW 5 fun c => (c.put Power.WAKE_REASON 3).put Gcfg.STATE 3; s.chip.arrayKept = true ∧ s.chip.nvc.cells = [])
    ∧ (let s := inW 6; s.chip.atStep 6 = true ∧ s.chip.pw.keepGlaze = false ∧ s.chip.f Gcfg.STATE = 0
        ∧ (inW 6 fun c => { c with pw.keepGlaze := true }).chip.pw.keepGlaze = true)
    ∧ (let s := inW 6 fun c => (c.put Gcfg.STATE 1).put Gcfg.STARTUP_ORDER 0x6C; s.chip.f Gcfg.STATE = 1 ∧ isOrder (s.chip.f Gcfg.STARTUP_ORDER) = true)
    ∧ (let s := inW 6 fun c => { (c.put Gcfg.STATE 2).put Gcfg.STARTUP_ORDER 0x1B with gl.step := 4 };
      s.chip.f Gcfg.STATE = 2 ∧ s.chip.gl.checking = false ∧ s.chip.gl.step = 4 ∧ stepNow s = 0 ∧ s.chip.locked = false) := by decide +kernel

theorem witness_LastStepsOfAWake :
    (let s := inW 7; s.chip.atStep 7 = true ∧ s.chip.pw.reread = false ∧ shapeCheck [] (s.chip.f Id.DEV_ID) = some (1, none) ∧ s.chip.keysEmpty = true
      ∧ shapeCheck image0 (s.chip.f Id.DEV_ID) = none ∧ crcCheck image0 = none)
    ∧ (let s := inW 8; s.chip.atStep 8 = true ∧ recordCheck s.chip.pw.img = none)
    ∧ (let s := inW 8 fun c => { c with pw.img := imageBad, pw.reread := true }; recordCheck s.chip.pw.img = some (12, some 0) ∧ s.chip.pw.reread = true)
    ∧ (let s := inW 9; s.chip.atStep 9 = true ∧ s.chip.tw.negotiating = false ∧ s.chip.f Dip.PREF = 0 ∧ s.chip.pw.attempts = 0)
    ∧ (let s := inW 9 fun c => { (c.put Dip.PREF 2).put Dip.OWN_IN 1 with pw.linkHold := true };
      s.chip.f Dip.PREF ≠ 0 ∧ s.chip.pw.linkHold = true ∧ s.chip.f Dip.OWN_IN = 1)
    ∧ (let s := inW 9 fun c => c.put Dip.PREF 2; s.chip.f Dip.PREF ≠ 0 ∧ s.chip.f Dip.OWN_IN = 0 ∧ s.chip.linkUp = false ∧ s.chip.tw.lastHb = none)
    ∧ ((inW 10).chip.atStep 10 = true ∧ (inW 10).chip.f Plane.LOAD_ERR_CODE = 0) := by decide +kernel

/-- The part stands in a mode, with a change. -/
def inM (m : PMode) (f : Chip → Chip := id) : State := st fun c => f { c with pw.mode := m }

theorem witness_ResetsAndSuppliesActOnThePart :
    (let s := inM .run; Between s ∧ s.chip.pw.mode ≠ .reset ∧ s.chip.pw.mode ≠ .dormant ∧ s.chip.f Power.STATE = 0 ∧ s.chip.nvc.cur = none
      ∧ s.chip.pw.resetDue = 0 ∧ MayPriv s 31 p0 ∧ s.chip.fenced 31 = false ∧ t1.priv = false)
    ∧ (inM .run fun c => { c with nvc.cur := some {} }).chip.nvc.cur.isSome = true
    ∧ (let s := inM .dormant; s.chip.pw.mode = .dormant ∧ s.chip.nvc.cur = none ∧ s.chip.pw.resetDue = 0 ∧ s.chip.responder = true)
    ∧ (let s := inM .deep; s.chip.pw.mode = .deep ∧ s.chip.pw.sawLow = false ∧ s.chip.pw.vddh = true ∧ s.chip.responder = true)
    ∧ (let s := inM .deep fun c => { c with pw.sawLow := true }; s.chip.pw.mode = .deep ∧ s.chip.pw.sawLow = true)
    ∧ ((inM .deepPersist).chip.pw.mode = .deepPersist)
    ∧ ((inW 2).chip.pw.mode = .wake ∧ (inW 2).chip.pw.step ≤ 2 ∧ (inW 2).chip.pw.vddhLost = false ∧ (inW 4).chip.responder = true)
    ∧ (3 ≤ (inW 10).chip.pw.step ∧ (inW 10).chip.pw.step ≤ 10)
    ∧ (inW 2 fun c => { c with pw.vddhLost := true }).chip.pw.vddhLost = true := by decide +kernel

theorem witness_PowerStatesChangeOnCommand :
    (let s := inM .run;
      Between s ∧ MayPriv s 31 p0 ∧ s.chip.f Dip.ROLE ≠ 3 ∧ s.chip.pw.mode = .run ∧ (∀ r : Fin 8, s.chip.f (Gcfg.REGIONr_STATE r) = 0)
        ∧ s.chip.f Power.STATE = 0 ∧ s.chip.f Plane.STATE = 0 ∧ s.chip.linkUp = false ∧ s.chip.f Power.STATE ≠ 1)
    ∧ (inM .run fun c => c.put Dip.ROLE 3).chip.f Dip.ROLE = 3
    ∧ (let s := inM .run fun c => c.put Dip.LINK 2; s.chip.f Dip.ROLE = 2 ∧ s.chip.linkUp = true)
    ∧ (let s := inM .run fun c => c.put Power.STATE 1; s.chip.f Power.STATE = 1 ∧ s.chip.f Power.STATE ≠ 0 ∧ s.chip.pw.planeWas ≠ 1)
    ∧ (let s := inM .run fun c => { c.put Power.STATE 1 with pw.planeWas := 1 }; s.chip.pw.planeWas = 1)
    ∧ (let s := inM .run fun c => c.put (Gcfg.REGIONr_STATE 7) 1; s.chip.f (Gcfg.REGIONr_STATE 7) ≠ 0)
    ∧ (inM .run fun c => c.put Plane.STATE 1).chip.f Plane.STATE = 1
    ∧ (inM .deepRamp).chip.pw.mode = .deepRamp
    ∧ (let s := inM .deepPersist; s.chip.pw.mode = .deepPersist ∧ s.chip.skb.page = none ∧ s.chip.nvc.cur = none ∧ s.chip.nvc.queue = [])
    ∧ (inM .deepPersist fun c => { c with skb.page := some 12 }).chip.skb.page.isSome = true := by decide +kernel

theorem witness_TapInstructionsDecideTheBalls : Between (st id) ∧ (st id).chip.pw.vio33Low = false ∧ (st id).chip.tap.l = .idcode := by decide +kernel

theorem witness_PowerOnResetReturnsRegisters :
    Between (st id) ∧ (st id).chip.f Power.STATE ≠ 1 ∧ (mkeys (st id).chip.regs).Pairwise (· < ·) ∧ (st id).chip.image = [] := by decide +kernel
/-! ### Statements without much to meet -/

theorem witness_SamplesAreHeld : Between (st id) ∧ (95 : Fin 96).val < (List.replicate 96 (4095 : BitVec 12)).length := by decide +kernel

theorem witness_EaselWordsSpellTheirInstructions :
    easelTile (.tbli 24 13 2 9 0 1 0 4) = some 24 ∧ decodeEasel 24 0x2DA24824 = some (.tbli 24 13 2 9 0 1 0 4) := by decide +kernel

/-! ### Ill-formed commands, one for each check of `Instr.wellFormed` -/

theorem test_ill_formed_lengths :
    (Instr.memoryAccess 1 0 p0 false 15 []).wellFormed = false ∧ (Instr.memoryAccess 1 0 p0 true 15 (List.replicate 17 0)).wellFormed = false
    ∧ (Instr.gmemWindowAccess 0 0 p0 false 15 []).wellFormed = false
    ∧ (Instr.gmemWindowAccess 0 0 p0 true 15 (List.replicate 17 0)).wellFormed = false
    ∧ (Instr.imonSample (List.replicate 95 0)).wellFormed = false ∧ (Instr.mfrMsgSend { port := 0 } 0 (List.replicate 255 0)).wellFormed = false
    ∧ (Instr.forwardCommand { port := 0 } 0xD2 (List.replicate 256 0)).wellFormed = false
    ∧ (Instr.takeoverQualified (List.replicate 15 0)).wellFormed = false := by decide +kernel

theorem test_ill_formed_frames_and_keys :
    (Instr.latticeFrameReceive [] [] 0).wellFormed = false
    ∧ (Instr.latticeFrameReceive (List.replicate 9 ⟨1, 0⟩) (List.replicate 8 ⟨1, 0⟩) 0).wellFormed = false
    ∧ (Instr.latticeFrameReceive [⟨2, 0⟩] [⟨1, 0⟩, ⟨1, 0⟩] 0).wellFormed = false
    ∧ (Instr.latticeFrameReceive [⟨2, 0⟩, ⟨1, 0⟩] [] 0).wellFormed = false
    ∧ (Instr.stateFrameReceive 0 (some 0) (.data 0 0 (List.replicate 15 0))).wellFormed = false
    ∧ (Instr.scrubVisit [(3, 1), (3, 2)]).wellFormed = false ∧ (Instr.samplePreload .l [(3, true), (3, false)]).wellFormed = false := by
  decide +kernel

theorem test_well_formed :
    (Instr.memoryAccess 1 0 p0 true 15 (List.replicate 16 0)).wellFormed = true ∧ (Instr.imonSample (List.replicate 96 0)).wellFormed = true
    ∧ (Instr.scrubVisit [(3, 1), (4, 2)]).wellFormed = true := by decide +kernel

/-! ### Instruction words of the spec's examples (chapters 08 and 09, bench notes) -/

theorem test_easel_words :
    decodeEasel 0 0x08621FFF = some (.andi 0 3 2 0x1FFF) ∧ decodeEasel 0 0x00861802 = some (.sub 0 4 6 3)
    ∧ decodeEasel 0 0x20A43806 = some (.mulq15R 0 5 4 7) ∧ decodeEasel 0 0x24044000 = some (.macq15 0 0 0 4 8)
    ∧ decodeEasel 0 0x01656000 = some (.add 0 11 5 12) ∧ decodeEasel 24 0x2DA24824 = some (.tbli 24 13 2 9 0 1 0 4)
    ∧ decodeEasel 0 0xB4400000 = some (.slotrx 0 2 0 0 0 0) ∧ decodeEasel 0 0xB0100001 = some (.slottx 0 0 16 0 0 1)
    ∧ decodeEasel 0 0xB0160001 = some (.slottx 0 0 22 0 0 1) ∧ decodeEasel 0 0xBC000000 = some (.glzwr 0 0 0 0 0)
    ∧ decodeEasel 0 0xB9C0000A = some (.glzrd 0 14 0 0 1 2) ∧ decodeEasel 24 0xD0050000 = some (.ltrd 24 0 0 5 0)
    ∧ decodeEasel 24 0xD8C70000 = some (.ltwait 24 6 7 0 0) ∧ decodeEasel 24 0xE0830002 = some (.lkacq 24 4 3 0 2) := by decide +kernel

/-! ### Worked examples (bench notes of each chapter) -/

/-- The value that a register of the tile will hold. -/
def result (t r : Nat) (s : State) : Option Nat :=
  (s.chip.tile t).pend.findSome? (fun e => match e.what with | .reg d v => if d = r then some v else none | _ => none)

theorem test_mulq_rounds :
    answers (.mulq15R 0 5 4 7) (inE fun x => (x.setReg 4 0x0A35).setReg 7 0x6000) (fun s => result 0 5 s = some 1960)
    ∧ answers (.mulq15 0 5 4 7) (inE fun x => (x.setReg 4 0x0A35).setReg 7 0x6000) (fun s => result 0 5 s = some 1959) := by decide +kernel

theorem test_tbli_interpolates :
    answers (.tbli 24 13 2 9 0 1 0 4)
      (inP (fun x => (x.setReg 2 0x4A50).setReg 9 0x2000) (fun c => c.storeBytes (dmemAddr 24 0x2008) [0xE0, 0x2E, 0xC8, 0x32]))
      (fun s => result 24 13 s = some 12645) := by decide +kernel

theorem test_trip_threshold_and_current :
    (let c := (((run0.put (Sense.IOFS 0) 2048).put (Sense.IGAIN 0) 15360).put (Sense.IPH_TRIP 0) 720).put (Sense.IPH_MAX 0) 800;
      c.tripCode 0 = 2816 ∧ c.iph 0 2816 = 720) := by decide +kernel

/-- Twelve rails with the shares of the example, phase r on rail r. -/
def sharing : Chip :=
  (List.range 12).foldl (fun c r => ((((c.put (Rail.EN r) 1).put (Rail.BWEIGHT r) 4976).put (Rail.SHARE r) (if r < 2 then 64 else if r < 4 then 48
    else 8)).put (Phase.RAIL r) r).put (Phase.STATE r) 2) ((run0.put Board.BUDGET 3520).put Board.BUDGET_MAX 3648)

theorem test_clamp_share : sharing.allocate.f (Rail.CLAMP 0) = 10302 := by decide +kernel

theorem test_telemetry_formats :
    ((run0.put (Rail.IRAIL 0) 6240).telemetry 1 0 0x8C).1 = [0x0C, 0xFB] ∧ ((run0.put (Rail.VSENSE 0) 3276).telemetry 1 0 0x8B).1 = [0x1B, 0x0D] := by
  decide +kernel

theorem test_persisted_code : skbCode 5000000 = 0x6189 ∧ skbDecode 0x6189 = 4999168 := by decide +kernel

theorem test_crumb_block : crumbBlock [100, -37, 250, 131, -5, 0, 64, 127] = 0x402000FE427DEE321 := by decide +kernel

theorem test_trace_page_header : tracePage 0 [] 7 + 1 * 2 ^ 3 = 0x1C8 := by decide

theorem test_routes : followRoute 1 (routeCodes 0x3692) = some 18 ∧ followRoute 18 (routeCodes 0x1324) = some 1 ∧ routeCheck 1 18 0x3692 18 = none := by
  decide +kernel

theorem test_idcodes : idcode .l = 0xA72405A7 ∧ idcode .m = 0xA72415A7 := by decide

theorem test_glaze_late_record :
    (run0.schedWords 10 { kind := 4, peer := 7, chan := 2, detA := 1 })[0]? = some 0x01078A04 := by decide +kernel

theorem test_heartbeat_word :
    (let c := (((run0.put Dip.ROLE 3).put Dip.ROLE_EPOCH 2).put Dip.PREF 2).put Dip.CEPOCH 0x123;
      ({ c with tw.lastHb := some c.beat } : Chip).heartbeatWord % 2 ^ 32 = 0x01230623) := by decide +kernel

theorem test_ring_headers :
    (let c := run0.put (Tenant.NBUF 1) 8;
      (c.ringBuf 1 0 1 0x21 true false (List.replicate 60 0)).bytesAt (nodeBase 17) 4 = 0x0121013C ∧ (c.ringBuf 1 1 1 0x21 false false (List.replicate 60 0)).bytesAt (nodeBase 17 + 64) 4 = 0x0121003C
        ∧ (c.ringBuf 1 2 1 0x21 false true (List.replicate 30 0)).bytesAt (nodeBase 17 + 128) 4 = 0x0121021E) := by decide +kernel

/-- RAIL1 with VOUT_MAX 0.950 V, and what its VSET is after a write. -/
def vsetAfter (off : BitVec 25) (q : Sender) : Option Nat :=
  match exec (.registerWrite 18 off q 15 0 1640) (st fun c => c.put (Rail.VOUT_MAX 1) 1900) with
  | .next t => some (t.chip.f (Rail.VSET 1))
  | _ => none

theorem test_one_vset_several_writers : vsetAfter 0x1000044 t1 = some 0 ∧ vsetAfter 0x1000044 p0 = some 1640 ∧ vsetAfter 0x1000046 p0 = some 0 := by
  decide +kernel
end Sys2Proof.Tests
end

/-! DQX and the trace memory: what DQX's commands do and leave unchanged (R330–R333), and the statement O35. -/

section

namespace Sys2Proof.Machine

open Reg

/-! ### Little-endian bytes (R7) -/

theorem length_toBytes (k n : Nat) : (toBytes k n).length = k := by simp [toBytes]

theorem toBytes_succ (k n : Nat) : toBytes (k + 1) n = BitVec.ofNat 8 n :: toBytes k (n / 256) := by
  simp only [toBytes, List.range_succ_eq_map, List.map_cons, List.map_map, Nat.mul_zero, Nat.pow_zero, Nat.div_one, List.cons.injEq, true_and]
  refine List.map_congr_left fun i _ => ?_
  rw [Function.comp_apply, Nat.div_div_eq_div_mul, Nat.succ_eq_add_one, Nat.mul_succ, Nat.pow_add, Nat.mul_comm]

/-- The little-endian value of a number's `k` low bytes is the number's low `8 * k` bits. -/
theorem ofBytes_toBytes (k n : Nat) : ofBytes (toBytes k n) = n % 2 ^ (8 * k) := by
  induction k generalizing n with
  | zero => simp [toBytes, ofBytes, Nat.mod_one]
  | succ k ih =>
    rw [toBytes_succ, ofBytes, ih, BitVec.toNat_ofNat, Nat.mul_succ, Nat.add_comm (8 * k), Nat.pow_add]
    exact (Nat.mod_mul (x := n)).symm

/-! ### Stores in the trace memory -/

/-- A store in the trace memory changes nothing else. -/
theorem setX_eq (c : Chip) (a : Nat) (bs : List Byte) : c.setX a bs = { c with xmem := (c.setX a bs).xmem } := by
  induction bs generalizing c a with
  | nil => rfl
  | cons b bs ih => rw [Chip.setX, ih]

theorem setX_append (c : Chip) (a : Nat) (bs ds : List Byte) : c.setX a (bs ++ ds) = (c.setX a bs).setX (a + bs.length) ds := by
  induction bs generalizing c a with
  | nil => rfl
  | cons b bs ih => rw [List.cons_append, Chip.setX, ih, Chip.setX, List.length_cons, Nat.add_right_comm, Nat.add_assoc]

/-- Bytes of the trace memory outside the stored ones are as before. -/
theorem xmem_setX_out (c : Chip) (a : Nat) (bs : List Byte) (b : Nat) (h : b < a ∨ a + bs.length ≤ b) :
    mget 0 (c.setX a bs).xmem b = mget 0 c.xmem b := by
  induction bs generalizing c a with
  | nil => rfl
  | cons x bs ih =>
    rw [List.length_cons] at h
    rw [Chip.setX, ih _ _ (by omega)]
    exact mget_mset_ne 0 0 c.xmem a x (by omega)

/-- The bytes of a store in the trace memory are read back. -/
theorem map_xmem_setX (c : Chip) (a : Nat) (bs : List Byte) : (List.range bs.length).map (fun i => mget 0 (c.setX a bs).xmem (a + i)) = bs := by
  induction bs generalizing c a with
  | nil => rfl
  | cons x bs ih =>
    rw [List.length_cons, List.range_succ_eq_map, List.map_cons, List.map_map, Chip.setX, List.cons.injEq]
    constructor
    · rw [Nat.add_zero, xmem_setX_out _ _ _ _ (by omega)]
      exact mget_mset_same 0 c.xmem a x
    · refine Eq.trans (List.map_congr_left fun i _ => ?_) (ih { c with xmem := mset 0 c.xmem a x } (a + 1))
      rw [Function.comp_apply, Nat.succ_eq_add_one, Nat.add_right_comm, Nat.add_assoc]

/-- A store above a word of the trace memory leaves the word. -/
theorem xword_setX_above (c : Chip) (a b : Nat) (bs : List Byte) (h : b + 8 ≤ a) : (c.setX a bs).xword b = c.xword b := by
  refine congrArg ofBytes (List.map_congr_left fun i hi => xmem_setX_out c a bs _ (.inl ?_))
  have := List.mem_range.mp hi
  omega

theorem xword_setX_toBytes (c : Chip) (a n : Nat) : (c.setX a (toBytes 8 n)).xword a = n % 2 ^ 64 := by
  have h := map_xmem_setX c a (toBytes 8 n)
  rw [length_toBytes] at h
  rw [Chip.xword, h, ofBytes_toBytes]

/-- The words of a store of doublewords are read back (R331). -/
theorem xword_setX_words (c : Chip) (a : Nat) (ws : List Nat) (i : Nat) (hi : i < ws.length) :
    (c.setX a (ws.flatMap (toBytes 8))).xword (a + 8 * i) = ws[i] % 2 ^ 64 := by
  induction ws generalizing c a i with
  | nil => simp at hi
  | cons w ws ih =>
    rw [List.flatMap_cons, setX_append, length_toBytes]
    cases i with
    | zero =>
      simp only [Nat.mul_zero, Nat.add_zero, List.getElem_cons_zero]
      rw [xword_setX_above _ _ _ _ (Nat.le_refl _), xword_setX_toBytes]
    | succ i =>
      rw [Nat.mul_succ, Nat.add_comm (8 * i), ← Nat.add_assoc, ih _ _ i (by simpa using hi), List.getElem_cons_succ]

theorem length_flatMap_toBytes (ws : List Nat) : (ws.flatMap (toBytes 8)).length = 8 * ws.length := by
  induction ws with
  | nil => rfl
  | cons w ws ih => rw [List.flatMap_cons, List.length_append, length_toBytes, ih, List.length_cons, Nat.mul_succ, Nat.add_comm]

/-! ### The queue pairs -/

@[simp] theorem dq_setDq (c : Chip) (t : Nat) (h : DqH) : (c.setDq t h).dq t = h := by simp [Chip.dq, Chip.setDq]

@[simp] theorem xmem_setDq (c : Chip) (t : Nat) (h : DqH) : (c.setDq t h).xmem = c.xmem := rfl

@[simp] theorem xmem_hwSet (c : Chip) (x : Fld) (v : Nat) : (c.hwSet x v).xmem = c.xmem := rfl

@[simp] theorem dq_hwSet (c : Chip) (x : Fld) (v t : Nat) : (c.hwSet x v).dq t = c.dq t := rfl

/-- IN_CNT follows the inbound queue, which holds at most 16 entries (R334). -/
theorem inCnt_setDq (c : Chip) (t : Nat) (h : DqH) (hl : h.inq.length ≤ 16) : (c.setDq t h).f (Dq.IN_CNT (tileNode t)) = h.inq.length := by
  have hin : (Dq.IN_CNT (tileNode t)).ok := ⟨by simp [Dq.IN_CNT], by simp [Dq.IN_CNT]⟩
  have hout : (Dq.OUT_FREE (tileNode t)).ok := ⟨by simp [Dq.OUT_FREE], by simp [Dq.OUT_FREE]⟩
  rw [Chip.setDq, f_put_other _ _ _ _ hout (by simp [Dq.IN_CNT, Dq.OUT_FREE]), f_put_lt _ _ _ hin]
  simp only [Dq.IN_CNT]
  omega

theorem cmdErr_hwSet (c : Chip) (n : Nat) : (c.hwSet (Dq.CMD_ERR n) 1).f (Dq.CMD_ERR n) = 1 :=
  f_put_lt c (Dq.CMD_ERR n) 1 ⟨by simp [Dq.CMD_ERR], by simp [Dq.CMD_ERR]⟩ (by simp [Dq.CMD_ERR])

/-- Storing a queue pair writes no other word than the tile's DQ block's. -/
theorem f_setDq_ne (c : Chip) (t : Nat) (h : DqH) (y : Fld) (hy : y.addr ≠ Dq.base (tileNode t)) : (c.setDq t h).f y = c.f y := by
  rw [Chip.setDq, f_put_ne _ _ _ _ hy, f_put_ne _ _ _ _ hy]
  rfl

/-- The window of a tile lies at node 48's words 0x1000000 to 0x100017C, a DQ block at its node's 0x1000800 (R334, R335). -/
theorem dqxWindow_ne_dq {t : Nat} (ht : t < 24) (n : Nat) : Dqx.base t ≠ Dq.base n ∧ Dqx.base t + 4 ≠ Dq.base n := by
  simp only [Dqx.base, Dq.base, nodeBase]
  omega

/-! ### What DQX can change -/

/-- `d` is `c` but for registers, the plane and the trace memory. -/
def Chip.DqxOnly (c d : Chip) : Prop := d = { c with regs := d.regs, hwBits := d.hwBits, pl := d.pl, xmem := d.xmem }

theorem dqxOnly_refl (c : Chip) : c.DqxOnly c := rfl

theorem Chip.DqxOnly.trans {c d e : Chip} (h : c.DqxOnly d) (g : d.DqxOnly e) : c.DqxOnly e := by
  rw [Chip.DqxOnly] at *
  rw [g, h]

theorem Chip.DqxOnly.lockActs {c d : Chip} (h : c.DqxOnly d) : d.lockActs = c.lockActs := by rw [h]

theorem dqxOnly_setDq (c : Chip) (t : Nat) (h : DqH) : c.DqxOnly (c.setDq t h) := rfl

theorem dqxOnly_pl (c : Chip) (p : Plane) : c.DqxOnly { c with pl := p } := rfl

theorem dqxOnly_hwSet (c : Chip) (x : Fld) (v : Nat) : c.DqxOnly (c.hwSet x v) := rfl

theorem dqxOnly_setX (c : Chip) (a : Nat) (bs : List Byte) : c.DqxOnly (c.setX a bs) := by
  rw [setX_eq]
  rfl

/-- DQX took nothing from and put nothing in a memory, when the trace memory is as before. -/
theorem Chip.DqxOnly.sameMemory {s t : State} (h : s.chip.DqxOnly t.chip) (hx : t.chip.xmem = s.chip.xmem) : Slice0.SameMemory s t :=
  ⟨by rw [h], hx, by rw [h], by rw [h]⟩

/-! ### The command at the front of the buffer -/

/-- The `k` doublewords from `a` lie in tile `t`'s window (R331); WINLOG acts within 3–31 (R983). -/
def Chip.inDqxWindow (c : Chip) (t a k : Nat) : Bool :=
  decide (c.f (Dqx.WINBASE t) ≤ a) && decide (a + 8 * k ≤ c.f (Dqx.WINBASE t) + 2 ^ clampN 3 31 (c.f (Dqx.WINLOG t)))

/-- R331: DQX refuses the command `e` of tile `t`. -/
def Chip.dqxRefuses (c : Chip) (t e : Nat) : Bool :=
  decide (bits e 63 62 < 2) || bits e 31 0 % 8 != 0 || !c.inDqxWindow t (bits e 31 0) (bits e 58 56 + 1)

/-- The command at the front can be performed when no READ data wait and, of a WRITE, all data have come. -/
theorem due_of_cons {h : DqH} {e : Nat} {rest : List Nat} (hb : h.buf = e :: rest) (hr : h.rdata = [])
    (hw : bits e 63 62 = 3 → bits e 58 56 + 1 ≤ rest.length) : h.due = true := by
  simp only [DqH.due, hb, hr, List.isEmpty_nil, Bool.true_and, Bool.not_eq_true', Bool.and_eq_false_imp, beq_iff_eq, decide_eq_false_iff_not,
    Nat.not_lt]
  exact hw

/-- The three ends of a command: refused with its data, a WRITE, a READ. -/
theorem dqxPerform_cons {c : Chip} {t e : Nat} {rest : List Nat} (hb : (c.dq t).buf = e :: rest) : c.dqxPerform t =
    if c.dqxRefuses t e then
      (c.setDq t { c.dq t with buf := if bits e 63 62 = 3 then rest.drop (bits e 58 56 + 1) else rest }).hwSet (Dq.CMD_ERR (tileNode t)) 1
    else if bits e 63 62 = 3 then
      (c.setX (bits e 31 0) ((rest.take (bits e 58 56 + 1)).flatMap (toBytes 8))).setDq t { c.dq t with buf := rest.drop (bits e 58 56 + 1) }
    else c.setDq t { c.dq t with
      buf := rest, rdata := (List.range (bits e 58 56 + 1)).map (fun i => c.xword (bits e 31 0 + 8 * i)) } := by
  have ha : bits e 31 0 = e % 2 ^ 32 := by simp [bits]
  have hbad : c.dqxRefuses t e = (bits e 63 62 < 2 || e % 2 ^ 32 % 8 != 0 || e % 2 ^ 32 < c.f (Dqx.WINBASE t) ||
      c.f (Dqx.WINBASE t) + 2 ^ clampN 3 31 (c.f (Dqx.WINLOG t)) < e % 2 ^ 32 + 8 * (bits e 58 56 + 1)) := by
    simp only [Chip.dqxRefuses, Chip.inDqxWindow, ha, Bool.not_and, ← decide_not, Nat.not_le, Bool.or_assoc]
  rw [hbad, ha]
  simp only [Chip.dqxPerform, hb]
  split
  · rfl
  · by_cases h3 : bits e 63 62 = 3 <;> simp only [h3, if_true, if_false]

theorem dqxOnly_dqxPerform (c : Chip) (t : Nat) : c.DqxOnly (c.dqxPerform t) := by
  cases hb : (c.dq t).buf with
  | nil => simp only [Chip.dqxPerform, hb]; exact dqxOnly_refl c
  | cons e rest =>
    rw [dqxPerform_cons hb]
    split
    · exact (dqxOnly_setDq c t _).trans (dqxOnly_hwSet _ _ _)
    · split
      · exact (dqxOnly_setX c _ _).trans (dqxOnly_setDq _ t _)
      · exact dqxOnly_setDq c t _

/-! ### DQX_COMMAND -/

/-- DQX takes tile `t`'s outbound entries in its turn (R330, R333). -/
def Chip.dqxTake (c : Chip) (t : Nat) : Chip := { c.setDq t (c.dq t).taken with pl.dqCmd := t }

@[simp] theorem dq_dqxTake (c : Chip) (t : Nat) : (c.dqxTake t).dq t = (c.dq t).taken := dq_setDq c t _

@[simp] theorem xmem_dqxTake (c : Chip) (t : Nat) : (c.dqxTake t).xmem = c.xmem := rfl

@[simp] theorem xword_dqxTake (c : Chip) (t a : Nat) : (c.dqxTake t).xword a = c.xword a := rfl

theorem dqxOnly_dqxTake (c : Chip) (t : Nat) : c.DqxOnly (c.dqxTake t) := (dqxOnly_setDq c t _).trans (dqxOnly_pl _ _)

/-- Taking entries does not move the tile's window. -/
theorem dqxRefuses_dqxTake (c : Chip) {t : Nat} (ht : t < 24) (e : Nat) : (c.dqxTake t).dqxRefuses t e = c.dqxRefuses t e := by
  obtain ⟨hbase, hlog⟩ := dqxWindow_ne_dq ht (tileNode t)
  have h1 : (c.dqxTake t).f (Dqx.WINBASE t) = c.f (Dqx.WINBASE t) := f_setDq_ne c t _ _ hbase
  have h2 : (c.dqxTake t).f (Dqx.WINLOG t) = c.f (Dqx.WINLOG t) := f_setDq_ne c t _ _ hlog
  simp only [Chip.dqxRefuses, Chip.inDqxWindow, h1, h2]

/-- In its turn a tile's entries are taken, and then the command at the front is performed when it is due. -/
theorem dqxCommand_eq (c : Chip) (t : Nat) : c.dqxCommand t =
    if c.fenced 48 || c.dqTurn c.pl.dqCmd DqH.works != some t then c
    else if (c.dq t).taken.due then (c.dqxTake t).dqxPerform t else c.dqxTake t := by
  rw [← dq_dqxTake]
  rfl

theorem dqxOnly_dqxCommand (c : Chip) (t : Nat) : c.DqxOnly (c.dqxCommand t) := by
  rw [dqxCommand_eq]
  split
  · exact dqxOnly_refl c
  · split
    · exact (dqxOnly_dqxTake c t).trans (dqxOnly_dqxPerform _ t)
    · exact dqxOnly_dqxTake c t

section
variable {c : Chip} {t : Nat} (hf : c.fenced 48 = false) (hturn : c.dqTurn c.pl.dqCmd DqH.works = some t)
include hf hturn

theorem dqxCommand_of_turn : c.dqxCommand t = if (c.dq t).taken.due then (c.dqxTake t).dqxPerform t else c.dqxTake t := by
  rw [dqxCommand_eq, if_neg (by simp [hf, hturn])]

/-- In its turn a tile's command that is due ends in one of three ways, judged by the window as the command found it. -/
theorem dqxCommand_of_due (ht : t < 24) {e : Nat} {rest : List Nat} (hb : (c.dq t).taken.buf = e :: rest) (hr : (c.dq t).taken.rdata = [])
    (hw : bits e 63 62 = 3 → bits e 58 56 + 1 ≤ rest.length) : c.dqxCommand t =
    if c.dqxRefuses t e then
      ((c.dqxTake t).setDq t { (c.dq t).taken with buf := if bits e 63 62 = 3 then rest.drop (bits e 58 56 + 1) else rest }).hwSet
        (Dq.CMD_ERR (tileNode t)) 1
    else if bits e 63 62 = 3 then
      ((c.dqxTake t).setX (bits e 31 0) ((rest.take (bits e 58 56 + 1)).flatMap (toBytes 8))).setDq t
        { (c.dq t).taken with buf := rest.drop (bits e 58 56 + 1) }
    else (c.dqxTake t).setDq t { (c.dq t).taken with
      buf := rest, rdata := (List.range (bits e 58 56 + 1)).map (fun i => c.xword (bits e 31 0 + 8 * i)) } := by
  have hb' : ((c.dqxTake t).dq t).buf = e :: rest := by rw [dq_dqxTake, hb]
  rw [dqxCommand_of_turn hf hturn, if_pos (due_of_cons hb hr hw), dqxPerform_cons hb', dqxRefuses_dqxTake c ht, dq_dqxTake]
  simp only [xword_dqxTake]

end

/-! ### DQX_READ_DATA -/

theorem dqxData_of_turn {c : Chip} {t v : Nat} {rest : List Nat} (hf : c.fenced 48 = false) (hturn : c.dqTurn c.pl.dqDat DqH.places = some t)
    (hr : (c.dq t).rdata = v :: rest) : c.dqxData t =
    { c.setDq t { c.dq t with inq := (c.dq t).inq ++ [v], rdata := rest, newAt := c.clock, newN := c.dqNew t + 1 } with pl.dqDat := t } := by
  simp [Chip.dqxData, hf, hturn, hr]

theorem dqxOnly_dqxData (c : Chip) (t : Nat) : c.DqxOnly (c.dqxData t) := by
  simp only [Chip.dqxData]
  split
  · exact dqxOnly_refl c
  · split
    · exact dqxOnly_refl c
    · exact (dqxOnly_setDq c t _).trans (dqxOnly_pl _ _)

/-- A tile in turn answers to what the turn is for. -/
theorem ready_of_dqTurn {c : Chip} {p t : Nat} {ready : DqH → Bool} (h : c.dqTurn p ready = some t) : ready (c.dq t) = true :=
  List.find?_some (p := fun t => ready (c.dq t)) h

theorem length_inq_of_places {h : DqH} (hp : h.places = true) : h.inq.length < 16 := by
  simp only [DqH.places, Bool.and_eq_true, decide_eq_true_eq] at hp
  exact hp.2

end Sys2Proof.Machine

namespace Sys2Proof.Slice0

open Sys2Proof.Machine Sys2Proof.Machine.Reg

/-- DQX_COMMAND asks nothing of LOCK. -/
theorem ends_dqxCommand {s : State} (e : Fin 24) (hq : Between s) {P : State → Prop} (h : P { s with chip := s.chip.dqxCommand e }) :
    Ends (.dqxCommand e) s P :=
  ⟨_, runC_quiet s (fun c => c.dqxCommand e) ((dqxOnly_dqxCommand s.chip e).lockActs.trans hq), h⟩

@[inherit_doc ends_dqxCommand] theorem ends_dqxReadData {s : State} (e : Fin 24) (hq : Between s) {P : State → Prop}
    (h : P { s with chip := s.chip.dqxData e }) : Ends (.dqxReadData e) s P :=
  ⟨_, runC_quiet s (fun c => c.dqxData e) ((dqxOnly_dqxData s.chip e).lockActs.trans hq), h⟩

/-- DQX_COMMAND leaves every memory, when the trace memory is as before. -/
theorem sameMemory_dqxCommand (s : State) (e : Fin 24) (hx : (s.chip.dqxCommand e).xmem = s.chip.xmem) :
    SameMemory s { s with chip := s.chip.dqxCommand e } :=
  (dqxOnly_dqxCommand s.chip e).sameMemory hx

section
variable {s : State} {e : Fin 24} (hq : Between s) (hf : s.chip.fenced 48 = false)
include hq hf

/-- A tile's turn that performs no command only takes its entries. -/
theorem dqxCommand_takes (hturn : s.chip.dqTurn s.chip.pl.dqCmd DqH.works = some e.val) (hd : (s.chip.dq e).taken.due = false) :
    Ends (.dqxCommand e) s fun t => t.chip.dq e = (s.chip.dq e).taken ∧ t.chip.pl.dqCmd = e ∧ SameMemory s t := by
  have hc : s.chip.dqxCommand e = s.chip.dqxTake e := by simp [dqxCommand_of_turn hf hturn, hd]
  exact ends_dqxCommand e hq ⟨by rw [hc, dq_dqxTake], by rw [hc]; rfl, sameMemory_dqxCommand s e (by rw [hc, xmem_dqxTake])⟩

/-- DQX_READ_DATA appends one word to the inbound queue and counts it. -/
theorem dqxReadData_places {v : Nat} {rest : List Nat} (hturn : s.chip.dqTurn s.chip.pl.dqDat DqH.places = some e.val)
    (hr : (s.chip.dq e).rdata = v :: rest) :
    Ends (.dqxReadData e) s fun t => (t.chip.dq e).rdata = rest ∧ (t.chip.dq e).inq = (s.chip.dq e).inq ++ [v]
      ∧ t.chip.f (Dq.IN_CNT (tileNode e)) = (s.chip.dq e).inq.length + 1 ∧ SameMemory s t := by
  have hc := dqxData_of_turn hf hturn hr
  have hd : (s.chip.dqxData e).dq e =
      { s.chip.dq e with inq := (s.chip.dq e).inq ++ [v], rdata := rest, newAt := s.chip.clock, newN := s.chip.dqNew e + 1 } := by
    rw [hc]; exact dq_setDq _ _ _
  have hl := length_inq_of_places (ready_of_dqTurn hturn)
  refine ends_dqxReadData e hq ⟨by rw [hd], by rw [hd], ?_, (dqxOnly_dqxData s.chip e).sameMemory (by rw [hc]; rfl)⟩
  rw [hc]
  refine (inCnt_setDq s.chip e _ ?_).trans ?_
  · rw [List.length_append, List.length_singleton]; exact hl
  · rw [List.length_append, List.length_singleton]

variable (hturn : s.chip.dqTurn s.chip.pl.dqCmd DqH.works = some e.val) {c : Nat} {rest : List Nat}
  (hb : (s.chip.dq e).taken.buf = c :: rest) (hr : (s.chip.dq e).taken.rdata = [])
include hturn hb hr

/-- A READ latches its words for the inbound queue (R330, R332). -/
theorem dqxCommand_reads (h2 : bits c 63 62 = 2) (hok : s.chip.dqxRefuses e c = false) :
    Ends (.dqxCommand e) s fun t => t.chip.dq e = { (s.chip.dq e).taken with
        buf := rest, rdata := (List.range (bits c 58 56 + 1)).map (fun i => s.chip.xword (bits c 31 0 + 8 * i)) } ∧ SameMemory s t := by
  have h3 : bits c 63 62 ≠ 3 := by omega
  have hc := dqxCommand_of_due hf hturn e.isLt hb hr (absurd · h3)
  rw [hok, if_neg Bool.false_ne_true, if_neg h3] at hc
  exact ends_dqxCommand e hq ⟨by rw [hc, dq_setDq], sameMemory_dqxCommand s e (by rw [hc, xmem_setDq, xmem_dqxTake])⟩

/-- A WRITE stores its entries as doublewords, and no other byte (R330). -/
theorem dqxCommand_writes (h3 : bits c 63 62 = 3) (hw : bits c 58 56 + 1 ≤ rest.length) (hok : s.chip.dqxRefuses e c = false) :
    Ends (.dqxCommand e) s fun t => t.chip.dq e = { (s.chip.dq e).taken with buf := rest.drop (bits c 58 56 + 1) }
      ∧ (∀ i : Fin 8, i.val < bits c 58 56 + 1 → t.chip.xword (bits c 31 0 + 8 * i) = (rest[i.val]?.getD 0) % 2 ^ 64)
      ∧ (∀ b, (b < bits c 31 0 ∨ bits c 31 0 + 8 * (bits c 58 56 + 1) ≤ b) → mget 0 t.chip.xmem b = mget 0 s.chip.xmem b)
      ∧ (Map.wf (0 : Byte) s.chip.xmem = true → Map.wf (0 : Byte) t.chip.xmem = true) := by
  have hc := dqxCommand_of_due hf hturn e.isLt hb hr fun _ => hw
  rw [hok, if_neg Bool.false_ne_true, if_pos h3] at hc
  generalize bits c 31 0 = a at *
  generalize bits c 58 56 + 1 = k at *
  have hlen : (rest.take k).length = k := List.length_take_of_le hw
  refine ends_dqxCommand e hq ⟨by rw [hc, dq_setDq], fun i hi => ?_, fun b hout => ?_, fun hwf => ?_⟩
  · have hin : i.val < (rest.take k).length := by rw [hlen]; exact hi
    have hget : (rest.take k)[i.val] = rest[i.val]?.getD 0 := by
      rw [List.getElem_take, List.getElem?_eq_getElem (Nat.lt_of_lt_of_le hi hw), Option.getD_some]
    rw [hc, ← hget]
    exact xword_setX_words (s.chip.dqxTake e) a (rest.take k) i hin
  · rw [hc]
    refine xmem_setX_out (s.chip.dqxTake e) a _ b ?_
    rw [length_flatMap_toBytes, hlen]
    exact hout
  · rw [hc]
    exact setX_wf (s.chip.dqxTake e) a _ hwf

/-- A refused command is discarded with its data, and CMD_ERR is set (R331). -/
theorem dqxCommand_refused (hw : bits c 63 62 = 3 → bits c 58 56 + 1 ≤ rest.length) (hbad : s.chip.dqxRefuses e c = true) :
    Ends (.dqxCommand e) s fun t =>
      t.chip.dq e = { (s.chip.dq e).taken with buf := if bits c 63 62 = 3 then rest.drop (bits c 58 56 + 1) else rest }
      ∧ t.chip.f (Dq.CMD_ERR (tileNode e)) = 1 ∧ SameMemory s t := by
  have hc := dqxCommand_of_due hf hturn e.isLt hb hr hw
  rw [if_pos hbad] at hc
  exact ends_dqxCommand e hq ⟨by rw [hc, dq_hwSet, dq_setDq], by rw [hc, cmdErr_hwSet], sameMemory_dqxCommand s e (by rw [hc, xmem_hwSet, xmem_setDq, xmem_dqxTake])⟩

end

/-- Settles O35: one lemma per end of a tile's turn. Where a command is accepted or refused is `Chip.dqxRefuses`. -/
theorem dqxMovesDoublewords : Obligations.DqxMovesDoublewords := by
  rintro s e hq hf h rfl
  refine ⟨dqxCommand_takes hq hf, ?_, fun v rest hturn hr => dqxReadData_places hq hf hturn hr⟩
  rintro c rest hturn hb hr k rfl a rfl inWindow hwin
  have hwin' : inWindow = s.chip.inDqxWindow e (bits c 31 0) (bits c 58 56 + 1) := hwin
  clear hwin
  subst hwin'
  have hok : 2 ≤ bits c 63 62 → bits c 31 0 % 8 = 0 → s.chip.inDqxWindow e (bits c 31 0) (bits c 58 56 + 1) = true →
      s.chip.dqxRefuses e c = false := fun hop ha hw => by simp [Chip.dqxRefuses, ha, hw]; omega
  have hbad : bits c 31 0 % 8 ≠ 0 ∨ s.chip.inDqxWindow e (bits c 31 0) (bits c 58 56 + 1) = false → s.chip.dqxRefuses e c = true := by
    rintro (h | h) <;> simp [Chip.dqxRefuses, h]
  refine ⟨fun h2 ha hw => ?_, fun h3 ha hw hk => ?_, fun hop => ?_, fun ⟨h3, h, hk⟩ => ?_⟩
  · exact dqxCommand_reads hq hf hturn hb hr h2 (hok (Nat.le_of_eq h2.symm) ha hw)
  · exact dqxCommand_writes hq hf hturn hb hr h3 hk (hok (by omega) ha hw)
  · have hne : bits c 63 62 ≠ 3 := by omega
    have href : s.chip.dqxRefuses e c = true := by
      rcases hop with hlt | ⟨_, h⟩
      · simp [Chip.dqxRefuses, hlt]
      · exact hbad h
    simpa only [if_neg hne] using dqxCommand_refused hq hf hturn hb hr (fun h => absurd h hne) href
  · simpa only [if_pos h3] using dqxCommand_refused hq hf hturn hb hr (fun _ => hk) (hbad h)

end Sys2Proof.Slice0
end

/-! Easel tiles: what the issue of an instruction leaves (R379–R390, R746), how its results land (R379, R446), and the statements O15 and O17. -/

section

namespace Sys2Proof.Machine

open Reg
open Chip (Reports)
open Slice0 (IssueRegs)

/-! ### The counters of an issue (R746, R747) -/

theorem reports_hwSet {A : Nat → Prop} (c : Chip) (x : Fld) (v : Nat) (hx : A x.addr) : Reports A c (c.hwSet x v) :=
  ⟨fun _ ha => reg_put_ne c x v (fun e => ha (e ▸ hx)), rfl⟩

theorem reports_cntAdd (c : Chip) (n j k : Nat) (hj : j < 4) : Reports (IssueRegs n) c (c.cntAdd n j k) := by
  have hlo : IssueRegs n (niBase n + 0x604 + 16 * j) := .inr (by omega)
  have hhi : IssueRegs n (niBase n + 0x608 + 16 * j) := .inr (by omega)
  have hovf : IssueRegs n (niBase n + 0x600 + 16 * j) := .inr (by omega)
  have hset : Reports (IssueRegs n) c (c.setCnt n j ((c.cnt n j + k) % 2 ^ 48)) := (reports_put c _ _ hlo).trans (reports_put _ _ _ hhi)
  simp only [Chip.cntAdd]
  split
  · exact Chip.Reports.refl _ c
  · split
    · exact hset
    · split
      · exact (hset.trans (reports_hwSet _ _ _ hovf)).trans ((reports_post _ _ _ _ _).mono fun _ => .inl)
      · exact hset.trans (reports_hwSet _ _ _ hovf)

theorem reports_cntHit (c : Chip) (n sel k : Nat) : Reports (IssueRegs n) c (c.cntHit n sel k) := by
  refine Chip.Reports.forN (fun j d hj => ?_) c
  split
  · exact reports_cntAdd d n j k hj
  · exact Chip.Reports.refl _ d

/-! ### A tile's record written twice -/

theorem mdel_mdel {α : Type} (k : Nat) (m : Map α) : mdel k (mdel k m) = mdel k m := mdel_unlisted k _ (mdel_notMem k m)

theorem mdel_mins {α : Type} (k : Nat) (v : α) (m : Map α) : mdel k (mins k v m) = mdel k m := by
  induction m with
  | nil => simp [mins, mdel]
  | cons e m ih =>
    simp only [mins]
    split
    · simp [mdel]
    · simp only [mdel, ih]

/-- Of two writes to one key the second stands. -/
theorem mset_mset {α : Type} [DecidableEq α] (d : α) (m : Map α) (k : Nat) (v w : α) : mset d (mset d m k v) k w = mset d m k w := by
  have h : mdel k (mset d m k v) = mdel k m := by
    unfold mset
    split
    · exact mdel_mdel k m
    · rw [mdel_mins, mdel_mdel]
  rw [mset, h]
  rfl

@[simp] theorem setTile_setTile (c : Chip) (t : Nat) (x y : Tile) : (c.setTile t x).setTile t y = c.setTile t y := by
  simp [Chip.setTile, mset_mset]

theorem Chip.Reports.setTile {A : Nat → Prop} {c d : Chip} (h : Reports A c d) (t : Nat) (x : Tile) : Reports A (c.setTile t x) (d.setTile t x) := by
  refine ⟨h.reg, ?_⟩
  have htl := h.tl
  have hrest := h.rest
  simp only [Chip.setTile, htl]
  rw [hrest]

/-! ### An issue with nothing under way -/

/-- `d` is `c` with tile `t` as `x`, but for what the counters of the tile's node report. -/
def Chip.AsIssued (c d : Chip) (t : Nat) (x : Tile) : Prop := Reports (IssueRegs (tileNode t)) (c.setTile t x) d

section
variable {c d : Chip} {t : Nat} {x : Tile} (h : c.AsIssued d t x)
include h

theorem Chip.AsIssued.tile_same : d.tile t = x := (Chip.Reports.tile h t).trans (tile_setTile c t x)
theorem Chip.AsIssued.tile_ne {k : Nat} (hk : k ≠ t) : d.tile k = c.tile k := (Chip.Reports.tile h k).trans (tile_setTile_ne c x hk)
theorem Chip.AsIssued.byte (a : Nat) : d.byte a = c.byte a := by rw [Chip.byte, Chip.Reports.mem h]; rfl
theorem Chip.AsIssued.eccAt (a : Nat) : d.eccAt a = c.eccAt a := by rw [Chip.eccAt, Chip.Reports.ecc h]; rfl

end

/-- The tile with an instruction's results under way (R379, R381). -/
def Tile.underWay (x : Tile) (now : Nat) (fx : Fx) : Tile :=
  { x with
    pend := x.pend ++ (fx.writes.filter (fun w => w.1 != 0)).map (fun w => { land := w.2.2, what := .reg w.1 w.2.1 }) ++ fx.lands
    nextIssue := now + fx.cost
    wait := .none }

/-- The tile after an instruction retires: its results are under way, and the PC moves (R390, R421). -/
def Tile.retired (x : Tile) (now : Nat) (fx : Fx) : Tile :=
  match fx.push, fx.jump with
  | some (n, e), _ => { (x.underWay now fx).pushLevel n e with pc := (x.pc + 4) % 65536 }
  | none, some a => { x.underWay now fx with pc := a % 65536 }
  | none, none => { (x.underWay now fx).advance.1 with pc := (x.underWay now fx).advance.2 }

theorem retire_eq (c : Chip) (t now : Nat) (fx : Fx) :
    c.retire t now fx = fx.after ((c.setTile t ((c.tile t).retired now fx)).cntHit (tileNode t) 13 1) := rfl

/-- `y` is `x` but for the PC and the hardware loops. -/
def Tile.FlowOnly (x y : Tile) : Prop :=
  y = { x with pc := y.pc, ldepth := y.ldepth, lc0 := y.lc0, ls0 := y.ls0, le0 := y.le0, lc1 := y.lc1, ls1 := y.ls1, le1 := y.le1,
               deferred := y.deferred }

theorem Tile.FlowOnly.trans {x y z : Tile} (h : x.FlowOnly y) (g : y.FlowOnly z) : x.FlowOnly z := by
  rw [Tile.FlowOnly] at *
  rw [g, h]

theorem flowOnly_pc (x : Tile) (a : Nat) : x.FlowOnly { x with pc := a } := rfl

theorem flowOnly_deferred (x : Tile) (b : Bool) : x.FlowOnly { x with deferred := b } := rfl

theorem flowOnly_setLc (x : Tile) (k v : Nat) : x.FlowOnly (x.setLc k v) := by
  unfold Tile.setLc
  split <;> rfl

theorem flowOnly_backEdge (x : Tile) (k next : Nat) : x.FlowOnly (x.backEdge k next).1 := by
  unfold Tile.backEdge
  split
  · exact flowOnly_setLc x k _
  · split <;> rfl

theorem flowOnly_advance (x : Tile) : x.FlowOnly x.advance.1 := by
  simp only [Tile.advance]
  split
  · rfl
  · split
    · split
      · exact (flowOnly_backEdge x _ _).trans (Tile.FlowOnly.trans (flowOnly_deferred _ _) (flowOnly_backEdge _ 0 _))
      · exact flowOnly_backEdge x _ _
    · rfl

theorem flowOnly_pushLevel (x : Tile) (n e : Nat) : x.FlowOnly (x.pushLevel n e) := by
  simp only [Tile.pushLevel]
  split <;> rfl

/-- Retiring puts the results under way, and moves the PC. -/
theorem retired_flowOnly (x : Tile) (now : Nat) (fx : Fx) : (x.underWay now fx).FlowOnly (x.retired now fx) := by
  unfold Tile.retired
  split
  · exact (flowOnly_pushLevel _ _ _).trans (flowOnly_pc _ _)
  · exact flowOnly_pc _ _
  · exact (flowOnly_advance _).trans (flowOnly_pc _ _)

theorem retired_sat (x : Tile) (now : Nat) (fx : Fx) : (x.retired now fx).sat = x.sat := by rw [retired_flowOnly x now fx]; rfl

theorem retired_pend (x : Tile) (now : Nat) (fx : Fx) : (x.retired now fx).pend = (x.underWay now fx).pend := by rw [retired_flowOnly x now fx]

theorem retired_reg (x : Tile) (now : Nat) (fx : Fx) (n : Nat) : (x.retired now fx).reg n = x.reg n := by rw [retired_flowOnly x now fx]; rfl

theorem retired_pc {x : Tile} {now : Nat} {fx : Fx} (hpush : fx.push = none) (hjump : fx.jump = none) (hl : x.ldepth = 0) :
    (x.retired now fx).pc = (x.pc + 4) % 65536 := by
  simp [Tile.retired, Tile.underWay, hpush, hjump, Tile.advance, hl]

/-- A fold whose every round keeps its start ends there. -/
theorem foldl_keeps_start {α β : Type} {f : α → β → α} {a : α} (h : ∀ b, f a b = a) (l : List β) : l.foldl f a = a := by
  induction l with
  | nil => rfl
  | cons b l ih => rw [List.foldl_cons, h, ih]

section
variable {x : Tile} (hp : x.pend = []) (hg : x.glz = [])
include hp hg

theorem landing_quiet (n : Nat) : x.landing n = none := by simp [Tile.landing, hp, hg]

theorem hazard_quiet (o : Op) (now : Nat) : x.hazard o now = none := by
  simp only [Tile.hazard, landing_quiet hp hg, Bool.and_false]
  rw [List.find?_eq_none.mpr (by simp), List.find?_eq_none.mpr (by simp)]

/-- With nothing under way a P tile does not wait (R385). -/
theorem readyAt_quiet (o : Op) (b : Nat) : x.readyAt o b = b := by
  simp only [Tile.readyAt, landing_quiet hp hg, Option.getD_none, Nat.max_zero, ite_self]
  rw [foldl_keeps_start fun _ => rfl, foldl_keeps_start fun _ => rfl]

end

theorem settle_quiet {c : Chip} {t : Nat} (hp : (c.tile t).pend = []) (L : Nat) : c.settle t L = c.setTile t (c.tile t) := by
  simp only [Chip.settle, hp, List.filter_nil, List.foldl_nil]
  rw [← hp]

/-- A word that is legal in every mode (R386, R393). -/
structure Op.Legal (o : Op) : Prop where
  illegal : o.illegal = false := by rfl
  sched : o.sched = true := by rfl
  super : o.super = true := by rfl
  usr : o.usr = true := by rfl

/-- What an instruction does that meets no exception and does not wait. -/
structure Fx.Runs (y : Fx) : Prop where
  exc : y.exc = [] := by rfl
  noSlot : y.noSlot = false := by rfl
  ninth : y.ninth = none := by rfl
  wait : y.wait = .none := by rfl

/-- An instruction that runs, issued in its turn with nothing under way, retires; its operand reads find the part as it was (R379–R398). -/
theorem issue_runs {c : Chip} {t now : Nat} {o : Op} {fx : Chip → Nat → Fx} {y : Fx}
    (hcan : c.canIssue t = true) (hp : (c.tile t).pend = []) (hg : (c.tile t).glz = []) (hf : c.fetchExc t = [])
    (he : c.eccAt (imemAddr t (c.tile t).pc) = 0) (ho : o.Legal) (hy : y.Runs)
    (hnow : now = if isP t then max c.clock (c.tile t).nextIssue else c.pl.abs)
    (hfx : ∀ d, c.AsIssued d t (c.tile t) → fx d now = y) :
    ∃ e, c.AsIssued e t ((c.tile t).retired now y) ∧ c.issue t o fx = y.after e := by
  obtain ⟨hi, hsc, hsu, hus⟩ := ho
  obtain ⟨hexc, hslot, hninth, hwait⟩ := hy
  generalize hb : (if isP t then c.cntHit (tileNode t) 14 0 else c) = b
  have hcb : Reports (IssueRegs (tileNode t)) c b := by
    subst hb
    split
    · exact reports_cntHit c _ _ _
    · exact Chip.Reports.refl _ c
  have hread : c.AsIssued (b.setTile t (c.tile t)) t (c.tile t) := hcb.setTile t _
  have hset : b.settle t now = b.setTile t (c.tile t) := by
    rw [settle_quiet (by rw [hcb.tile, hp]), hcb.tile]
  have hfetch : (b.setTile t (c.tile t)).fetchExc t = [] := by
    rw [← hf]
    simp only [Chip.fetchExc, hread.tile_same, hread.eccAt]
  have hret : c.issue t o fx = (b.setTile t (c.tile t)).retire t now y := by
    have hbase : (if isP t then (c.tile t).readyAt o (max c.clock (c.tile t).nextIssue) else c.pl.abs) = now := by
      rw [readyAt_quiet hp hg, hnow]
    have hb' : (if isP t then c.cntHit (tileNode t) 14 (now - max c.clock (c.tile t).nextIssue) else c) = b := by
      rw [← hb, hnow]
      split <;> simp
    simp [Chip.issue, hcan, hbase, hb', hset, hread.tile_same, hread.eccAt, he, hfetch, hfx _ hread, hazard_quiet hp hg, hi, hsc, hsu, hus, hexc,
      hslot, hninth, hwait, lowestExc]
  refine ⟨_, ?_, by rw [hret, retire_eq]⟩
  rw [hread.tile_same, setTile_setTile]
  exact (hcb.setTile t _).trans (reports_cntHit _ _ _ _)

/-! ### Numbers and bit vectors (R19) -/

/-- Bits of a register: 32 of g0–g31, 64 of an accumulator (R376). -/
abbrev regBits (n : Nat) : Nat := if n < 32 then 32 else 64

theorem low_eq_ofInt (w : Nat) (i : Int) : low w i = (BitVec.ofInt w i).toNat := (BitVec.toNat_ofInt i).symm

theorem low_natCast (w n : Nat) : low w (n : Int) = n % 2 ^ w := by
  rw [low_eq_ofInt, BitVec.ofInt_natCast, BitVec.toNat_ofNat]

theorem low_lt (w : Nat) (i : Int) : low w i < 2 ^ w := by
  rw [low_eq_ofInt]
  exact (BitVec.ofInt w i).isLt

theorem low_toInt {w : Nat} (x : BitVec w) : low w x.toInt = x.toNat := by rw [low_eq_ofInt, BitVec.ofInt_toInt]

theorem regLow_lt (rd : Nat) (v : Int) : regLow rd v < 2 ^ regBits rd := low_lt _ v

theorem low_toNat {w : Nat} (x : BitVec w) : low w (x.toNat : Int) = x.toNat := by rw [low_natCast, Nat.mod_eq_of_lt x.isLt]

theorem sgn_eq_toInt (w : Nat) (hw : 0 < w) (n : Nat) : sgn w n = (BitVec.ofNat w n).toInt := by
  obtain ⟨k, rfl⟩ := Nat.exists_eq_succ_of_ne_zero (Nat.ne_of_gt hw)
  rw [sgn, BitVec.toInt_eq_toNat_cond, BitVec.toNat_ofNat, Nat.succ_sub_one, Nat.pow_succ']
  generalize n % (2 * 2 ^ k) = m
  by_cases h : m < 2 ^ k
  · rw [if_pos h, if_pos (by omega)]
  · rw [if_neg h, if_neg (by omega)]

/-- A number of `w` bits taken as two's complement and widened. -/
theorem low_sgn {w : Nat} (v : Nat) (hw : 0 < w) (hv : w ≤ v) (n : Nat) : low v (sgn w n) = ((BitVec.ofNat w n).signExtend v).toNat := by
  rw [sgn_eq_toInt w hw, ← BitVec.toInt_signExtend_of_le hv, low_toInt]

section
variable {w : Nat} (a b : BitVec w)

theorem low_add : low w (a.toInt + b.toInt) = (a + b).toNat := by
  rw [low_eq_ofInt, BitVec.ofInt_add, BitVec.ofInt_toInt, BitVec.ofInt_toInt]

theorem low_sub : low w (a.toInt - b.toInt) = (a - b).toNat := by
  rw [low_eq_ofInt, Int.sub_eq_add_neg, BitVec.ofInt_add, BitVec.ofInt_neg, BitVec.ofInt_toInt, BitVec.ofInt_toInt, ← BitVec.sub_eq_add_neg]

theorem low_shiftLeft (k : Nat) : low w (a.toNat * 2 ^ k : Nat) = (a <<< k).toNat := by
  rw [low_natCast, BitVec.toNat_shiftLeft, Nat.shiftLeft_eq]

theorem low_ushiftRight (k : Nat) : low w (a.toNat / 2 ^ k : Nat) = (a >>> k).toNat := by
  rw [← Nat.shiftRight_eq_div_pow, ← BitVec.toNat_ushiftRight, low_toNat]

theorem low_sshiftRight (k : Nat) : low w (a.toInt / 2 ^ k) = (a.sshiftRight k).toNat := by
  rw [← low_toInt, BitVec.toInt_sshiftRight, Int.shiftRight_eq_div_pow, Int.natCast_pow]
  rfl

end

/-- R434: CLZ counts to the highest set bit, and 32 zeros of 0. -/
theorem clz_eq (n : Nat) (hn : n < 2 ^ 32) : clz n = if n = 0 then 32 else 31 - n.log2 := by
  by_cases h0 : n = 0
  · rw [if_pos h0, clz, List.findIdx_eq_length_of_false, List.length_range]
    intro i _
    simp [h0, bit]
  · have hlog : n.log2 < 32 := (Nat.log2_lt h0).mpr hn
    rw [if_neg h0, clz, List.findIdx_eq (by rw [List.length_range]; omega)]
    simp only [List.getElem_range, bit, beq_iff_eq, beq_eq_false_iff_ne]
    constructor
    · have hi : 31 - (31 - n.log2) = n.log2 := by omega
      have hq : n / 2 ^ n.log2 = 1 :=
        Nat.div_eq_of_lt_le (by simpa using Nat.log2_self_le h0) (by simpa [Nat.pow_succ, Nat.mul_comm] using (Nat.lt_log2_self (n := n)))
      rw [hi, hq]
    · intro j hj
      have hlt : n < 2 ^ (31 - j) := (Nat.log2_lt h0).mp (by omega)
      simp [Nat.div_eq_of_lt hlt]

/-! ### What lands together (R379, R446) -/

theorem insertPend_last (p : Pend) (l : List Pend) (h : ∀ q ∈ l, ¬ insertPend.pendKey p < insertPend.pendKey q) : insertPend p l = l ++ [p] := by
  induction l with
  | nil => rfl
  | cons q l ih =>
    rw [insertPend, if_neg (h q (by simp)), ih fun r hr => h r (by simp [hr])]
    rfl

/-- Results of one key land in the order in which they were issued. -/
theorem foldl_insertPend {k : Nat} (l acc : List Pend) (hl : ∀ p ∈ l, insertPend.pendKey p = k) (ha : ∀ q ∈ acc, insertPend.pendKey q = k) :
    l.foldl (fun l p => insertPend p l) acc = acc ++ l := by
  induction l generalizing acc with
  | nil => simp
  | cons p l ih =>
    have hp := hl p (by simp)
    rw [List.foldl_cons, insertPend_last p acc fun q hq => by rw [hp, ha q hq]; exact Nat.lt_irrefl k, ih _ (fun r hr => hl r (by simp [hr])) ?_]
    · simp
    · intro q hq
      rcases List.mem_append.mp hq with hq | hq
      · exact ha q hq
      · rw [List.mem_singleton.mp hq, hp]

/-- The result is no MTS and lands at beat `l`. -/
def Pend.LandsAt (l : Nat) (p : Pend) : Prop := p.land = l ∧ insertPend.pendKey p = 2 * l + 1

theorem landsAt_reg (l n v : Nat) : Pend.LandsAt l { land := l, what := .reg n v } := ⟨rfl, rfl⟩
theorem landsAt_sat (l : Nat) : Pend.LandsAt l { land := l, what := .sat } := ⟨rfl, rfl⟩
theorem landsAt_store (l a : Nat) (bs : List Byte) : Pend.LandsAt l { land := l, what := .store a bs } := ⟨rfl, rfl⟩

/-- When all that is under way lands at one beat, it lands whole from that beat on, and nothing lands before. -/
theorem settle_together {c : Chip} {t l : Nat} (h : ∀ p ∈ (c.tile t).pend, p.LandsAt l) (L : Nat) :
    c.settle t L = if l ≤ L then (c.tile t).pend.foldl (fun c p => c.landOne t p) (c.setTile t { c.tile t with pend := [] })
      else c.setTile t (c.tile t) := by
  by_cases hL : l ≤ L
  · have hdue : (c.tile t).pend.filter (fun p => decide (p.land ≤ L)) = (c.tile t).pend :=
      List.filter_eq_self.mpr fun p hp => by simp [(h p hp).1, hL]
    have hrest : (c.tile t).pend.filter (fun p => !decide (p.land ≤ L)) = [] :=
      List.filter_eq_nil_iff.mpr fun p hp => by simp [(h p hp).1, hL]
    rw [Chip.settle, hdue, hrest, foldl_insertPend _ [] (fun p hp => (h p hp).2) (by simp), if_pos hL]
    rfl
  · have hdue : (c.tile t).pend.filter (fun p => decide (p.land ≤ L)) = [] :=
      List.filter_eq_nil_iff.mpr fun p hp => by simp [(h p hp).1, hL]
    have hrest : (c.tile t).pend.filter (fun p => !decide (p.land ≤ L)) = (c.tile t).pend :=
      List.filter_eq_self.mpr fun p hp => by simp [(h p hp).1, hL]
    rw [Chip.settle, hdue, hrest, if_neg hL]
    rfl

theorem Tile.reg_setReg (x : Tile) (n v m : Nat) : (x.setReg n v).reg m = if m = n ∧ n ≠ 0 then v % 2 ^ regBits n else x.reg m := by
  by_cases hn : n = 0
  · simp [Tile.setReg, hn]
  · by_cases hm : m = n
    · subst hm
      simp [Tile.setReg, Tile.reg, hn]
    · simp [Tile.setReg, Tile.reg, hn, hm, mget_mset_ne _ _ _ _ _ hm]

@[simp] theorem tile_landOne_reg (c : Chip) (t l n v : Nat) : (c.landOne t { land := l, what := .reg n v }).tile t = (c.tile t).setReg n v :=
  tile_setTile c t _

@[simp] theorem tile_landOne_sat (c : Chip) (t l : Nat) : (c.landOne t { land := l, what := .sat }).tile t = { c.tile t with sat := true } :=
  tile_setTile c t _

/-- What an instruction leaves under way that computes `v` for `rd`, and saturates where `sat`. -/
def resultPend (rd v l : Nat) (sat : Bool) : List Pend :=
  (if rd = 0 then [] else [{ land := l, what := .reg rd v }]) ++ (if sat then [{ land := l, what := .sat }] else [])

theorem landsAt_resultPend {rd v l : Nat} {sat : Bool} : ∀ p ∈ resultPend rd v l sat, p.LandsAt l := by
  intro p hp
  rcases List.mem_append.mp hp with hp | hp
  · split at hp
    · simp at hp
    · rw [List.mem_singleton.mp hp]
      exact landsAt_reg l rd v
  · split at hp
    · rw [List.mem_singleton.mp hp]
      exact landsAt_sat l
    · simp at hp

theorem sat_setReg (x : Tile) (n v : Nat) : (x.setReg n v).sat = x.sat := by
  unfold Tile.setReg
  split <;> rfl

theorem tile_foldl_resultPend (c : Chip) (t rd v l : Nat) (sat : Bool) :
    ((resultPend rd v l sat).foldl (fun c p => c.landOne t p) c).tile t = { (c.tile t).setReg rd v with sat := (c.tile t).sat || sat } := by
  have hreg : ((if rd = 0 then [] else [{ land := l, what := .reg rd v }]).foldl (fun c p => c.landOne t p) c).tile t = (c.tile t).setReg rd v := by
    by_cases hrd : rd = 0
    · simp [hrd, Tile.setReg]
    · simp [hrd]
  rw [resultPend, List.foldl_append, ← sat_setReg _ rd v, ← hreg]
  cases sat with
  | false => simp
  | true => simp

/-- The register and the flag land together at beat `l`, and not before. -/
theorem tile_settle_resultPend {c : Chip} {t rd v l : Nat} {sat : Bool} (h : (c.tile t).pend = resultPend rd v l sat) (L : Nat) :
    ((c.settle t L).tile t).reg = (if l ≤ L then ((c.tile t).setReg rd v).reg else (c.tile t).reg)
    ∧ ((c.settle t L).tile t).sat = ((c.tile t).sat || (sat && decide (l ≤ L))) := by
  rw [settle_together (l := l) (h ▸ landsAt_resultPend), h]
  by_cases hL : l ≤ L
  · rw [if_pos hL, if_pos hL, tile_foldl_resultPend, tile_setTile]
    refine ⟨funext fun n => ?_, by simp [hL]⟩
    exact (Tile.reg_setReg { c.tile t with pend := [] } rd v n).trans (Tile.reg_setReg (c.tile t) rd v n).symm
  · simp [hL]

end Sys2Proof.Machine

namespace Sys2Proof.Slice0

open Sys2Proof.Machine Sys2Proof.Machine.Reg

/-! ### An instruction that a ready tile issues -/

theorem pend_of_ready {s : State} {t : Fin 28} (h : Ready s t) : (s.chip.tile t).pend = [] :=
  have ⟨_, _, hp, _⟩ := h
  hp

/-- A ready tile issues an instruction that meets no exception and does not wait; `after` leaves the part as it is. -/
theorem ends_issue {i : Instr} {s : State} {t : Fin 28} {o : Op} {fx : Chip → Nat → Fx} {y : Fx}
    (hi : exec i s = s.runC (fun c => c.issue t o fx)) (h : Ready s t) (ho : o.Legal) (hy : y.Runs)
    (hfx : ∀ d, s.chip.AsIssued d t (s.chip.tile t) → fx d (issuesAt s t) = y)
    (hafter : ∀ d x, s.chip.AsIssued d t x → y.after d = d) :
    Ends i s fun u => s.chip.AsIssued u.chip t ((s.chip.tile t).retired (issuesAt s t) y) := by
  obtain ⟨hb, hcan, hp, hg, hf, he⟩ := h
  obtain ⟨e, hiss, heq⟩ := issue_runs hcan hp hg hf he ho hy rfl hfx
  rw [hafter e _ hiss] at heq
  refine ⟨{ s with chip := e }, ?_, hiss⟩
  rw [hi, runC_quiet, heq]
  rw [heq, Chip.Reports.lockActs hiss]
  exact hb

/-- Tile `t` has issued an instruction that leaves `ps` under way, and goes on to the next word. -/
structure UnderWay (s u : State) (t : Fin 28) (ps : List Pend) : Prop where
  pend : (u.chip.tile t).pend = ps
  reg : (u.chip.tile t).reg = (s.chip.tile t).reg
  sat : (u.chip.tile t).sat = (s.chip.tile t).sat
  byte : u.chip.byte = s.chip.byte
  goesOn : GoesOn s u t
  frame : TileFrame s u t

theorem underWay_of_issued {s u : State} {t : Fin 28} {now : Nat} {y : Fx} (hpush : y.push = none) (hjump : y.jump = none)
    (h : s.chip.AsIssued u.chip t ((s.chip.tile t).retired now y)) : UnderWay s u t ((s.chip.tile t).underWay now y).pend where
  pend := by rw [h.tile_same, retired_pend]
  reg := by
    funext n
    rw [h.tile_same, retired_reg]
  sat := by rw [h.tile_same, retired_sat]
  byte := funext h.byte
  goesOn hl := by rw [h.tile_same, retired_pc hpush hjump hl]
  frame := ⟨fun _ hk => h.tile_ne hk, ⟨h.mem, h.xmem, by rw [h.gl]; rfl, by rw [h.nvc]; rfl⟩, h.reg⟩

/-- An instruction with a result leaves it under way, and nothing else. -/
theorem computes_of_issue {i : Instr} {s : State} {t : Fin 28} {o : Op} {fx : Chip → Nat → Fx} {rd lat v : Nat} {sat : Bool} {after : Chip → Chip}
    (hi : exec i s = s.runC (fun c => c.issue t o fx)) (h : Ready s t) (ho : o.Legal) (hv : v < 2 ^ regBits rd)
    (hfx : ∀ d, s.chip.AsIssued d t (s.chip.tile t) → fx d (issuesAt s t) =
      { writes := [(rd, v, issuesAt s t + lat)], lands := if sat then [{ land := issuesAt s t + lat, what := .sat }] else [], after := after })
    (hafter : ∀ d x, s.chip.AsIssued d t x → after d = d) : Computes i s t rd lat v sat := by
  have hp : (s.chip.tile t).pend = [] := pend_of_ready h
  obtain ⟨u, hu, hiss⟩ := ends_issue hi h ho {} hfx hafter
  obtain ⟨hpend, hreg, hsat, -, hgoes, hframe⟩ := underWay_of_issued rfl rfl hiss
  have hres : (u.chip.tile t).pend = resultPend rd v (issuesAt s t + lat) sat := by
    rw [hpend]
    by_cases hrd : rd = 0 <;> simp [Tile.underWay, resultPend, hp, hrd]
  refine ⟨u, hu, fun L n => ?_, fun L => ?_, hgoes, hframe⟩
  · rw [(tile_settle_resultPend hres L).1, ← hreg]
    by_cases hL : issuesAt s t + lat ≤ L
    · rw [if_pos hL, Tile.reg_setReg, Nat.mod_eq_of_lt hv]
      simp [hL]
    · simp [hL]
  · rw [(tile_settle_resultPend hres L).2, hsat]

/-- R379, R428, R429: the common form of the instructions that compute one register or accumulator. -/
theorem computes_of_compute {i : Instr} {s : State} {t : Fin 28} {w : Word} {reads : List Nat} {rd lat : Nat} {f : Tile → Int × Bool}
    (hi : exec i s = s.runC (fun c => c.compute t w false reads rd lat f)) (h : Ready s t) :
    Computes i s t rd lat (regLow rd (f (s.chip.tile t)).1) (f (s.chip.tile t)).2 :=
  computes_of_issue (after := id) hi h {} (regLow_lt _ _) (fun d hd => by simp only [hd.tile_same]) fun _ _ _ => rfl

/-! ### Operands and results as bit vectors (R19, R376) -/

section
variable (s : State) (t : Fin 28) (n : BitVec 5)

theorem reg_lt : (s.chip.tile t).reg n.toNat < 2 ^ 32 := by
  unfold Tile.reg
  split
  · exact Nat.two_pow_pos 32
  · rw [if_pos n.isLt]
    exact Nat.mod_lt _ (Nat.two_pow_pos 32)

theorem ux_eq : (s.chip.tile t).ux n = (gReg s t n).toNat := by
  rw [gReg, BitVec.toNat_ofNat, Nat.mod_eq_of_lt (reg_lt s t n)]
  rfl

theorem sx_eq : (s.chip.tile t).sx n = (gReg s t n).toInt := sgn_eq_toInt 32 (by decide) _

end

theorem satTo_eq (n : Nat) (v : Int) : satTo n v = (satI n v, satI n v != v) := by
  have h : clampI (-(2 : Int) ^ (n - 1)) ((2 : Int) ^ (n - 1) - 1) v = satI n v := by
    have hpos : (0 : Int) < 2 ^ (n - 1) := Int.pow_pos (by decide)
    simp only [clampI, satI]
    omega
  rw [satTo, h]

theorem usatTo_eq (n : Nat) (v : Int) : usatTo n v = (usatI n v, usatI n v != v) := by
  have h : clampI 0 ((2 : Int) ^ n - 1) v = usatI n v := by
    have hpos : (0 : Int) < 2 ^ n := Int.pow_pos (by decide)
    simp only [clampI, usatI]
    omega
  rw [usatTo, h]

theorem satI_of_mem {n : Nat} {v : Int} (hl : -2 ^ (n - 1) ≤ v) (hu : v < 2 ^ (n - 1)) : satI n v = v := by
  simp only [satI]
  omega

/-- ABS saturates the most negative number alone (R434). -/
theorem abs_eq_satTo {x : Int} (hx : x < 2 ^ 31) : (if x < 0 then satTo 32 (-x) else plain x) = satTo 32 x.natAbs := by
  by_cases h : x < 0
  · rw [if_pos h, Int.ofNat_natAbs_of_nonpos (by omega)]
  · rw [if_neg h, Int.natAbs_of_nonneg (by omega), satTo_eq, satI_of_mem (show -2 ^ 31 ≤ x by omega) hx]
    simp [plain]

/-- A value that is not negative is kept whole where it fits. -/
theorem low_usatI {n w : Nat} (h : n ≤ w) (v : Int) : low w (usatI n v) = (usatI n v).toNat := by
  have hle : usatI n v ≤ 2 ^ n - 1 := Int.max_le.mpr ⟨Int.sub_nonneg_of_le (Int.pow_pos (by decide)), Int.min_le_left _ _⟩
  have hpow : (2 : Int) ^ n ≤ ((2 ^ w : Nat) : Int) := by
    rw [show (2 : Int) ^ n = ((2 ^ n : Nat) : Int) from (Int.natCast_pow 2 n).symm]
    exact Int.ofNat_le.mpr (Nat.pow_le_pow_right (by decide) h)
  have hnonneg : 0 ≤ usatI n v := Int.le_max_left _ _
  rw [low, Int.emod_eq_of_lt hnonneg (Int.lt_of_lt_of_le (Int.lt_of_le_sub_one hle) hpow)]

section
variable {i : Instr} {s : State} {t : Fin 28} {w : Word} {reads : List Nat} {rd : BitVec 5} {lat : Nat} {f : Tile → Int × Bool}
  (h : Ready s t) (hi : exec i s = s.runC (fun c => c.compute t w false reads rd.toNat lat f))
include h hi

/-- An instruction with a general register as its destination computes the low 32 bits of its function of the tile. -/
theorem computes_general {v : Nat} {sat : Bool} (hv : low 32 (f (s.chip.tile t)).1 = v) (hs : (f (s.chip.tile t)).2 = sat) :
    Computes i s t rd.toNat lat v sat := by
  subst hv hs
  have hc := computes_of_compute hi h
  rwa [regLow, if_pos rd.isLt] at hc

theorem saturates_general {n : Nat} {v : Int} (hf : f (s.chip.tile t) = satTo n v) : Saturates i s t rd lat n v :=
  computes_general h hi (by rw [hf, satTo_eq, low_eq_ofInt]) (by rw [hf, satTo_eq])

end

/-- R434, R435: each row computes its function of the operands' bit vectors. -/
theorem aluResultsOfTwoRegisters : AluResultsOfTwoRegisters := by
  rintro s t rd rs1 rs2 h a rfl b rfl
  refine ⟨?add, ?addS, ?sub, ?subS, ?and, ?or, ?xor, ?sll, ?srl, ?sra, ?slt, ?sltu, ?min, ?max, ?minU, ?maxU⟩
  case add => exact computes_general h rfl (by rw [plain, sx_eq, sx_eq, low_add]) rfl
  case addS => exact saturates_general h rfl (by rw [sx_eq, sx_eq])
  case sub => exact computes_general h rfl (by rw [plain, sx_eq, sx_eq, low_sub]) rfl
  case subS => exact saturates_general h rfl (by rw [sx_eq, sx_eq])
  case and => exact computes_general h rfl (by rw [plain, ux_eq, ux_eq, ← BitVec.toNat_and, low_toNat]) rfl
  case or => exact computes_general h rfl (by rw [plain, ux_eq, ux_eq, ← BitVec.toNat_or, low_toNat]) rfl
  case xor => exact computes_general h rfl (by rw [plain, ux_eq, ux_eq, ← BitVec.toNat_xor, low_toNat]) rfl
  case sll => exact computes_general h rfl (by rw [plain, ux_eq, ux_eq, low_shiftLeft]) rfl
  case srl => exact computes_general h rfl (by rw [plain, ux_eq, ux_eq, low_ushiftRight]) rfl
  case sra => exact computes_general h rfl (by rw [plain, sx_eq, ux_eq, low_sshiftRight]) rfl
  case slt => exact computes_general h rfl (by rw [sx_eq, sx_eq]; split <;> rfl) rfl
  case sltu => exact computes_general h rfl (by rw [ux_eq, ux_eq]; split <;> rfl) rfl
  case min => exact computes_general h rfl (by rw [sx_eq, sx_eq]; split <;> exact low_toInt _) rfl
  case max => exact computes_general h rfl (by rw [sx_eq, sx_eq]; split <;> exact low_toInt _) rfl
  case minU =>
    refine computes_general h rfl ?_ rfl
    rw [ux_eq, ux_eq]
    split <;> rw [plain, low_toNat] <;> omega
  case maxU =>
    refine computes_general h rfl ?_ rfl
    rw [ux_eq, ux_eq]
    split <;> rw [plain, low_toNat] <;> omega

@[inherit_doc aluResultsOfTwoRegisters] theorem aluResultsOfOneRegister : AluResultsOfOneRegister := by
  rintro s t rd rs1 k imm h a rfl
  have himm : (imm.setWidth 32).toNat = imm.toNat := BitVec.toNat_setWidth_of_le (by decide)
  refine ⟨?slli, ?srli, ?srai, ?abs, ?clz, ?sat, ?satU, ?addi, ?andi, ?ori, ?xori, ?lui⟩
  case slli => exact computes_general h rfl (by rw [plain, ux_eq, low_shiftLeft]) rfl
  case srli => exact computes_general h rfl (by rw [plain, ux_eq, low_ushiftRight]) rfl
  case srai => exact computes_general h rfl (by rw [plain, sx_eq, low_sshiftRight]) rfl
  case abs => exact saturates_general h rfl (by rw [sx_eq]; exact abs_eq_satTo (by have := (gReg s t rs1).toInt_lt; omega))
  case clz =>
    refine computes_general h rfl ?_ rfl
    rw [plain, ux_eq, clz_eq _ (gReg s t rs1).isLt, low_natCast, Nat.mod_eq_of_lt (by split <;> omega)]
    simp [BitVec.toNat_eq]
  case sat => exact saturates_general h rfl (by rw [sx_eq])
  case satU => exact computes_general h rfl (by rw [usatTo_eq, sx_eq, low_usatI k.isLt]) (by rw [usatTo_eq, sx_eq])
  case addi => exact computes_general h rfl (by rw [plain, sx_eq, ← BitVec.toInt_signExtend_of_le (x := imm) (v := 32) (by decide), low_add]) rfl
  case andi => exact computes_general h rfl (by rw [plain, ux_eq, ← himm, ← BitVec.toNat_and, low_toNat]) rfl
  case ori => exact computes_general h rfl (by rw [plain, ux_eq, ← himm, ← BitVec.toNat_or, low_toNat]) rfl
  case xori => exact computes_general h rfl (by rw [plain, ux_eq, ← himm, ← BitVec.toNat_xor, low_toNat]) rfl
  case lui => exact computes_general h rfl (by rw [plain, low_natCast, Nat.mod_eq_of_lt (by omega)]) rfl

/-- Settles O15: R433–R435, R376, R379, by the value of each row. -/
theorem aluResults : Obligations.AluResults := ⟨aluResultsOfTwoRegisters, aluResultsOfOneRegister⟩

end Sys2Proof.Slice0

namespace Sys2Proof.Machine

/-! ### DMEM as a tile with nothing under way reads and stores it (R7, R443–R447) -/

theorem ofBytes_concat (l : List Byte) (b : Byte) : ofBytes (l ++ [b]) = ofBytes l + b.toNat * 256 ^ l.length := by
  induction l with
  | nil => simp [ofBytes]
  | cons a l ih =>
    rw [List.cons_append, ofBytes, ih, ofBytes, List.length_cons, Nat.pow_succ, Nat.mul_add, Nat.mul_comm 256 (b.toNat * _), Nat.mul_assoc, Nat.add_assoc]

theorem ofBytes_lt (l : List Byte) : ofBytes l < 256 ^ l.length := by
  induction l with
  | nil => simp [ofBytes]
  | cons b l ih =>
    have hb := b.isLt
    rw [ofBytes, List.length_cons, Nat.pow_succ]
    omega

theorem bytesAt_lt (c : Chip) (a n : Nat) : c.bytesAt a n < 256 ^ n := by
  have h := ofBytes_lt ((List.range n).map (fun i => c.byte (a + i)))
  rwa [List.length_map, List.length_range] at h

theorem sumN_bytes (n : Nat) (g : Nat → Byte) : sumN n (fun i => (g i).toNat * 256 ^ i) = ofBytes ((List.range n).map g) := by
  induction n with
  | zero => rfl
  | succ n ih =>
    rw [List.range_succ, List.map_append, List.map_singleton, ofBytes_concat, ← ih, List.length_map, List.length_range]
    simp [sumN, List.range_succ]

theorem bytesAt_one (c : Chip) (a : Nat) : c.bytesAt a 1 = (c.byte a).toNat := by simp [Chip.bytesAt, ofBytes]

theorem dmem_quiet {c : Chip} {t : Nat} (hp : (c.tile t).pend = []) (a n : Nat) : c.dmem t a n = c.bytesAt (dmemAddr t a) n := by
  simp only [Chip.dmem, Chip.dmemByte, hp, List.foldl_nil, Option.getD_none, Chip.bytesAt, dmemAddr, ← Nat.add_assoc]
  exact sumN_bytes n fun i => c.byte (nodeBase (tileNode t) + 0x100000 + a + i)

/-- A good word reads good, whatever of the tile's stores is on its way. -/
theorem dmemEcc_good {c : Chip} {t a : Nat} (h : c.eccAt (dmemAddr t a) = 0) : c.dmemEcc t a = 0 := by
  unfold Chip.dmemEcc
  rw [h, ite_self]

@[simp] theorem tile_setBytes (c : Chip) (a : Nat) (bs : List Byte) (t : Nat) : (c.setBytes a bs).tile t = c.tile t := by
  induction bs generalizing c a with
  | nil => rfl
  | cons b bs ih =>
    rw [Chip.setBytes, ih]
    rfl

/-- A store takes the low bytes of a number to its bytes, lowest first, and to no other. -/
theorem byte_setBytes_toBytes (c : Chip) (a n v b : Nat) : (c.setBytes a (toBytes n v)).byte b =
    if a ≤ b ∧ b < a + n then BitVec.ofNat 8 (v / 256 ^ (b - a)) else c.byte b := by
  by_cases h : a ≤ b ∧ b < a + n
  · obtain ⟨i, rfl⟩ := Nat.exists_eq_add_of_le h.1
    rw [if_pos h, byte_setBytes_in _ _ _ i (by rw [length_toBytes]; omega), Nat.add_sub_cancel_left]
    simp [toBytes, Nat.pow_mul]
  · rw [if_neg h, byte_setBytes_out _ _ _ _ (by rw [length_toBytes]; omega)]

/-- What a store of `n` bytes leaves under way. -/
def storePend (a n v l : Nat) : List Pend := [{ land := l, what := .store a (toBytes n v) }]

section
variable {c : Chip} {t l a n v : Nat} (h : (c.tile t).pend = storePend a n v l)
include h

theorem settle_store (L : Nat) : c.settle t L =
    if l ≤ L then ((c.setTile t { c.tile t with pend := [] }).setBytes (dmemAddr t a) (toBytes n v)).setEcc (dmemAddr t a) 0
    else c.setTile t (c.tile t) := by
  rw [settle_together (l := l) (by rw [h]; simpa [storePend] using landsAt_store l a (toBytes n v)), h]
  rfl

theorem byte_settle_store (L b : Nat) : (c.settle t L).byte b =
    if l ≤ L ∧ dmemAddr t a ≤ b ∧ b < dmemAddr t a + n then BitVec.ofNat 8 (v / 256 ^ (b - dmemAddr t a)) else c.byte b := by
  rw [settle_store h L]
  by_cases hL : l ≤ L
  · simp only [hL, if_true, true_and]
    exact byte_setBytes_toBytes _ _ n v b
  · simp only [hL, if_false, false_and]
    rfl

theorem reg_settle_store (L : Nat) : ((c.settle t L).tile t).reg = (c.tile t).reg := by
  rw [settle_store h L]
  split
  · rw [Chip.setEcc_tile, tile_setBytes, tile_setTile]
    rfl
  · rw [tile_setTile]

end

end Sys2Proof.Machine

namespace Sys2Proof.Slice0

open Sys2Proof.Machine Sys2Proof.Machine.Reg

/-! ### Loads and stores -/

theorem ea_eq (s : State) (t : Fin 28) (rs1 : BitVec 5) (imm : BitVec 16) : (s.chip.tile t).ea rs1 imm = loadAddr s t rs1 imm := by
  rw [Tile.ea, loadAddr, ux_eq, low_eq_ofInt, BitVec.ofInt_add, BitVec.ofInt_natCast, BitVec.ofNat_toNat, BitVec.setWidth_eq,
    ← BitVec.toInt_signExtend_of_le (x := imm) (v := 32) (by decide), BitVec.ofInt_toInt]

section
variable {s : State} {t : Fin 28} {d : Chip} (h : s.chip.AsIssued d t (s.chip.tile t))
include h

theorem prot_asIssued (space a k : Nat) : d.prot t space a k = s.chip.prot t space a k := by
  simp only [Chip.prot, h.tile_same]

theorem bytesAt_asIssued (a n : Nat) : d.bytesAt a n = s.chip.bytesAt a n := by
  simp only [Chip.bytesAt, h.byte]

/-- The conditions of `Readable` are those of a read that meets no exception. -/
theorem readExc_asIssued {a n : Nat} (hr : Readable s t a n) : d.readExc t a n = [] := by
  obtain ⟨hal, hin, hprot, hecc⟩ := hr
  have hgood : d.dmemEcc t a = 0 := dmemEcc_good (by rw [h.eccAt, hecc])
  simp [Chip.readExc, hal, hin, prot_asIssued h, hprot, hgood]

end

section
variable {i j : Instr} {s : State} {t : Fin 28} {rs1 : BitVec 5} {imm : BitVec 16} {n : Nat} (h : Ready s t)
include h

/-- A load lands the number that its bytes are, or the value that its row makes of it (R443, R444). -/
theorem computes_load {rd : BitVec 5} {signed : Bool} {v : Nat} (hi : exec i s = s.load t j rd rs1 imm n signed)
    (hr : Readable s t (loadAddr s t rs1 imm) n) (hlt : v < 2 ^ 32)
    (hv : (if signed then low 32 (sgn (8 * n) (s.chip.bytesAt (dmemAddr t (loadAddr s t rs1 imm)) n))
      else s.chip.bytesAt (dmemAddr t (loadAddr s t rs1 imm)) n) = v) : Computes i s t rd.toNat 2 v false := by
  have hp : (s.chip.tile t).pend = [] := pend_of_ready h
  subst hv
  refine computes_of_issue (after := fun c => if c.dmemEcc t (loadAddr s t rs1 imm) = 1 then c.eccCount t false else c) hi h {}
    (by rw [regBits, if_pos rd.isLt]; exact hlt) (fun d hd => ?_) (fun d x hd => ?_)
  · have hmem : d.dmem t (loadAddr s t rs1 imm) n = s.chip.bytesAt (dmemAddr t (loadAddr s t rs1 imm)) n := by
      rw [dmem_quiet (by rw [hd.tile_same, hp]), bytesAt_asIssued hd]
    simp only [hd.tile_same, ea_eq, hmem, readExc_asIssued hd hr]
    rfl
  · obtain ⟨-, -, -, hecc⟩ := hr
    simp [dmemEcc_good (show d.eccAt (dmemAddr t (loadAddr s t rs1 imm)) = 0 by rw [hd.eccAt, hecc])]

/-- A store's bytes land, and nothing else (R445, R446). -/
theorem stores_of_store {rt : BitVec 5} (hi : exec i s = s.store t j rt rs1 imm n) (hw : Writable s t (loadAddr s t rs1 imm) n) :
    Stores i s t rt rs1 imm n := by
  have hp : (s.chip.tile t).pend = [] := pend_of_ready h
  obtain ⟨hal, hin, hprot, hecc⟩ := hw
  obtain ⟨u, hu, hiss⟩ := ends_issue (y := { lands := storePend (loadAddr s t rs1 imm) n (gReg s t rt).toNat (issuesAt s t + 2) }) hi h {} {}
    (fun d hd => by
      have hgood : d.dmemEcc t (loadAddr s t rs1 imm) = 0 := dmemEcc_good (by rw [hd.eccAt, hecc])
      have huncorr : ¬ (n ≠ 4 ∧ d.dmemEcc t (loadAddr s t rs1 imm) = 2) := by omega
      have hcorr : (n != 4 && d.dmemEcc t (loadAddr s t rs1 imm) == 1) = false := by rw [hgood]; exact Bool.and_false _
      simp only [hd.tile_same, ea_eq, ux_eq, if_pos hal, if_pos hin, prot_asIssued hd, if_pos hprot, if_neg huncorr, hcorr]
      rfl)
    fun _ _ _ => rfl
  obtain ⟨hpend, hreg, -, hbyte, hgoes, hframe⟩ := underWay_of_issued rfl rfl hiss
  have hstore : (u.chip.tile t).pend = storePend (loadAddr s t rs1 imm) n (gReg s t rt).toNat (issuesAt s t + 2) := by
    rw [hpend]
    simp [Tile.underWay, hp]
  exact ⟨u, hu, fun L a => by rw [byte_settle_store hstore, hbyte], fun L k => by rw [reg_settle_store hstore, hreg], hgoes, hframe⟩

end

theorem loadsLandTheirBytes : LoadsLandTheirBytes := by
  rintro s t rd rs1 imm h a rfl
  refine ⟨fun hr => ?ldw, fun hr => ⟨?ldhu, ?ldh⟩, fun hr => ⟨?ldbu, ?ldb⟩⟩
  case ldw => exact computes_load h rfl hr (bytesAt_lt _ _ _) rfl
  case ldhu => exact computes_load h rfl hr (Nat.lt_trans (bytesAt_lt _ _ _) (by decide)) rfl
  case ldh => exact computes_load h rfl hr (BitVec.isLt _) (low_sgn 32 (by decide) (by decide) _)
  case ldbu => exact computes_load h rfl hr (by omega) (bytesAt_one _ _)
  case ldb =>
    refine computes_load h rfl hr (BitVec.isLt _) ?_
    rw [bytesAt_one, if_pos rfl, low_sgn 32 (by decide) (by decide), BitVec.ofNat_toNat, BitVec.setWidth_eq]

theorem storesLandTheirBytes : StoresLandTheirBytes := by
  rintro s t rt rs1 imm h a rfl
  exact ⟨stores_of_store h rfl, stores_of_store h rfl, stores_of_store h rfl⟩

/-- Settles O17: each load by the number that its bytes are, the stores by one lemma for every width. -/
theorem loadsAndStoresMoveBytes : Obligations.LoadsAndStoresMoveBytes := ⟨loadsLandTheirBytes, storesLandTheirBytes⟩

end Sys2Proof.Slice0
end

/-! The flow of an Easel tile: where the PC and the hardware loops stand after an instruction (R390, R458–R463), and the statement O19. -/

section

namespace Sys2Proof.Machine

/-! ### The PC and the hardware loops after an instruction (R390, R421) -/

theorem retired_nextIssue (x : Tile) (now : Nat) (y : Fx) : (x.retired now y).nextIssue = now + y.cost := by
  rw [retired_flowOnly x now y]
  rfl

section
variable (x : Tile) (now : Nat) {y : Fx}

theorem retired_of_push {n e : Nat} (h : y.push = some (n, e)) :
    x.retired now y = { (x.underWay now y).pushLevel n e with pc := (x.pc + 4) % 65536 } := by
  simp only [Tile.retired, h]

theorem retired_of_jump {a : Nat} (hpush : y.push = none) (hjump : y.jump = some a) :
    x.retired now y = { x.underWay now y with pc := a % 65536 } := by
  simp only [Tile.retired, hpush, hjump]

theorem retired_of_advance (hpush : y.push = none) (hjump : y.jump = none) :
    x.retired now y = { (x.underWay now y).advance.1 with pc := (x.underWay now y).advance.2 } := by
  simp only [Tile.retired, hpush, hjump]

end

theorem pushLevel_first {x : Tile} (hd : x.ldepth = 0) (n e : Nat) :
    x.pushLevel n e = { x with lc0 := n, ls0 := (x.pc + 4) % 65536, le0 := e, ldepth := 1 } := by
  simp only [Tile.pushLevel, if_pos hd]

section
variable {x : Tile} (hd : x.ldepth = 1) (hpc : x.pc = x.le0)
include hd hpc

/-- At the end of its only level a tile takes the level's back-edge. -/
theorem advance_at_end : x.advance = x.backEdge 0 ((x.pc + 4) % 65536) := by
  simp [Tile.advance, hd, Tile.le, hpc]

theorem advance_repeats (hlc : 1 < x.lc0) : x.advance = ({ x with lc0 := x.lc0 - 1 }, x.ls0) := by
  rw [advance_at_end hd hpc, Tile.backEdge, if_pos (show 1 < x.lc 0 from hlc)]
  rfl

theorem advance_pops (hlc : x.lc0 = 1) : x.advance = ({ x with ldepth := 0 }, (x.pc + 4) % 65536) := by
  have hlc' : x.lc 0 = 1 := hlc
  rw [advance_at_end hd hpc, Tile.backEdge, hlc', if_neg (Nat.lt_irrefl 1), if_pos rfl]

end

end Sys2Proof.Machine

namespace Sys2Proof.Slice0

open Sys2Proof.Machine Sys2Proof.Machine.Reg

/-! ### What an issued instruction leaves -/

section
variable {s u : State} {t : Fin 28}

theorem tileFrame_of_issued {x : Tile} (h : s.chip.AsIssued u.chip t x) : TileFrame s u t :=
  ⟨fun _ hk => h.tile_ne hk, ⟨h.mem, h.xmem, by rw [h.gl]; rfl, by rw [h.nvc]; rfl⟩, h.reg⟩

variable {y : Fx} (h : s.chip.AsIssued u.chip t ((s.chip.tile t).retired (issuesAt s t) y))
include h

theorem reg_of_issued (n : Nat) : (u.chip.tile t).reg n = (s.chip.tile t).reg n := by rw [h.tile_same, retired_reg]

theorem nextIssue_of_issued : (u.chip.tile t).nextIssue = issuesAt s t + y.cost := by rw [h.tile_same, retired_nextIssue]

theorem jumps_of_issued {a : Int} (hpush : y.push = none) (hjump : y.jump = some (low 32 a)) (hcost : y.cost = 2) : Jumps s u t a := by
  refine ⟨?_, by rw [nextIssue_of_issued h, hcost]⟩
  rw [h.tile_same, retired_of_jump _ _ hpush hjump, low_eq_ofInt]

/-- The one result of an instruction lands at its beat. -/
theorem lands_of_issued {rd lat v : Nat} (hp : (s.chip.tile t).pend = []) (hv : v < 2 ^ regBits rd)
    (hwrites : y.writes = [(rd, v, issuesAt s t + lat)]) (hlands : y.lands = []) : Lands s u t rd lat v := by
  have hres : (u.chip.tile t).pend = resultPend rd v (issuesAt s t + lat) false := by
    rw [h.tile_same, retired_pend]
    by_cases hrd : rd = 0 <;> simp [Tile.underWay, resultPend, hp, hwrites, hlands, hrd]
  intro L n
  rw [(tile_settle_resultPend hres L).1, ← reg_of_issued h n]
  by_cases hL : issuesAt s t + lat ≤ L
  · rw [if_pos hL, Tile.reg_setReg, Nat.mod_eq_of_lt hv]
    simp [hL]
  · simp [hL]

end

/-- An instruction of the computing form neither jumps nor opens a level. -/
theorem ends_compute {i : Instr} {s : State} {t : Fin 28} {w : Word} {reads : List Nat} {rd lat : Nat} {f : Tile → Int × Bool}
    (hi : exec i s = s.runC (fun c => c.compute t w false reads rd lat f)) (h : Ready s t) :
    Ends i s fun u => ∃ y : Fx, y.push = none ∧ y.jump = none
      ∧ s.chip.AsIssued u.chip t ((s.chip.tile t).retired (issuesAt s t) y) := by
  obtain ⟨u, hu, hiss⟩ := ends_issue
    (y := { writes := [(rd, regLow rd (f (s.chip.tile t)).1, issuesAt s t + lat)],
            lands := if (f (s.chip.tile t)).2 then [{ land := issuesAt s t + lat, what := .sat }] else [] })
    hi h {} {} (fun d hd => by simp only [hd.tile_same]) fun _ _ _ => rfl
  exact ⟨u, hu, _, rfl, rfl, hiss⟩

/-! ### Branches (R458, R459) -/

/-- R461: a target inside the IMEM, at a word, meets no exception. -/
theorem jumpExc_of_target {t : Fin 28} {a : Int} (h : Target t a) : jumpExc t a = [] := by
  obtain ⟨hal, hlo, hhi⟩ := h
  rw [jumpExc, if_pos hal, if_pos ⟨hlo, hhi⟩]
  rfl

/-- R459: a branch whose condition on the tile is `P` branches on `P`. Its uses name `cond`, which unification finds only slowly. -/
theorem branches_of_branch {i j : Instr} {s : State} {t : Fin 28} {rs2 rs1 : BitVec 5} {imm : BitVec 16} {cond : Tile → Bool} {P : Prop}
    (h : Ready s t) (hi : exec i s = s.branch t j rs2 rs1 imm cond) (hc : cond (s.chip.tile t) = true ↔ P) : Branches i s t imm P := by
  constructor
  · intro hP htarget
    obtain ⟨u, hu, hiss⟩ := ends_issue (y := { jump := some (low 32 ((s.chip.tile t).relative imm)), cost := 2 }) hi h {} {}
      (fun d hd => by simp only [hd.tile_same, if_pos (hc.mpr hP), Tile.relative, jumpExc_of_target htarget]) fun _ _ _ => rfl
    exact ⟨u, hu, jumps_of_issued hiss rfl rfl rfl, reg_of_issued hiss, tileFrame_of_issued hiss⟩
  · intro hP
    obtain ⟨u, hu, hiss⟩ := ends_issue (y := {}) hi h {} {}
      (fun d hd => by simp only [hd.tile_same, if_neg (fun hct => hP (hc.mp hct))]) fun _ _ _ => rfl
    obtain ⟨-, -, -, -, hgoes, hframe⟩ := underWay_of_issued rfl rfl hiss
    exact ⟨u, hu, hgoes, nextIssue_of_issued hiss, reg_of_issued hiss, hframe⟩

/-- R458: each row's condition on the tile is its comparison of the operands' bit vectors. -/
theorem branchesCompareTheirRegisters : BranchesCompareTheirRegisters := by
  rintro s t rs2 rs1 imm h a rfl b rfl
  refine ⟨?beq, ?bne, ?blt, ?bge, ?bltu, ?bgeu⟩
  case beq => exact branches_of_branch (cond := fun x => x.ux rs1 == x.ux rs2) h rfl (by rw [beq_iff_eq, ux_eq, ux_eq, BitVec.toNat_inj])
  case bne => exact branches_of_branch (cond := fun x => x.ux rs1 != x.ux rs2) h rfl (by rw [bne_iff_ne, ux_eq, ux_eq, ne_eq, BitVec.toNat_inj])
  case blt => exact branches_of_branch (cond := fun x => decide (x.sx rs1 < x.sx rs2)) h rfl (by rw [decide_eq_true_iff, sx_eq, sx_eq])
  case bge => exact branches_of_branch (cond := fun x => decide (x.sx rs2 ≤ x.sx rs1)) h rfl (by rw [decide_eq_true_iff, sx_eq, sx_eq])
  case bltu => exact branches_of_branch (cond := fun x => decide (x.ux rs1 < x.ux rs2)) h rfl (by rw [decide_eq_true_iff, ux_eq, ux_eq])
  case bgeu => exact branches_of_branch (cond := fun x => decide (x.ux rs2 ≤ x.ux rs1)) h rfl (by rw [decide_eq_true_iff, ux_eq, ux_eq])

/-! ### Jumps and LOOP (R460–R463) -/

section
variable {s : State} {t : Fin 28} (h : Ready s t)
include h

/-- R460: an instruction that does as `jumpLink` says jumps, and its link register takes the next address. -/
theorem ends_jumpLink {i : Instr} {o : Op} {fx : Chip → Nat → Fx} {rd : BitVec 5} {a : Int} (ho : o.Legal) (htarget : Target t a)
    (hi : exec i s = s.runC (fun c => c.issue t o fx))
    (hfx : ∀ d, s.chip.AsIssued d t (s.chip.tile t) → fx d (issuesAt s t) = jumpLink t (s.chip.tile t) rd (issuesAt s t) a) :
    Ends i s fun u => Jumps s u t a ∧ Lands s u t rd.toNat 1 (((s.chip.tile t).pc + 4) % 2 ^ 32) ∧ TileFrame s u t := by
  obtain ⟨u, hu, hiss⟩ := ends_issue hi h ho { exc := jumpExc_of_target htarget } hfx fun _ _ _ => rfl
  have hv : ((s.chip.tile t).pc + 4) % 2 ^ 32 < 2 ^ regBits rd.toNat := by
    rw [regBits, if_pos rd.isLt]
    exact Nat.mod_lt _ (Nat.two_pow_pos 32)
  exact ⟨u, hu, jumps_of_issued hiss rfl rfl rfl, lands_of_issued hiss (pend_of_ready h) hv rfl rfl, tileFrame_of_issued hiss⟩

section
variable {rs1 : BitVec 5} {imm : BitVec 16} (himm : imm ≠ 0) (hend : (s.chip.tile t).pc + 4 * imm.toNat < imemSize t)
include himm hend

/-- R462: a LOOP with its end inside the IMEM and a level free meets no exception. -/
theorem ends_loop (hd : (s.chip.tile t).ldepth < 2) : Ends (.loop t 0 rs1 imm) s fun u =>
    s.chip.AsIssued u.chip t ((s.chip.tile t).retired (issuesAt s t)
      (if (gReg s t rs1).toNat = 0 then { jump := some ((s.chip.tile t).pc + 4 * imm.toNat + 4), cost := 2 }
       else { push := some ((gReg s t rs1).toNat, (s.chip.tile t).pc + 4 * imm.toNat) })) := by
  refine ends_issue rfl h { illegal := by simpa using himm } ?_ (fun d hdt => ?_) fun _ _ _ => ?_
  · split <;> exact {}
  · simp only [hdt.tile_same, ux_eq, if_neg (Nat.not_le.mpr hend), if_neg (Nat.not_le.mpr hd), List.append_nil]
  · split <;> rfl

theorem ends_loop_opens (hd : (s.chip.tile t).ldepth = 0) (hn : (gReg s t rs1).toNat ≠ 0) : Ends (.loop t 0 rs1 imm) s fun u =>
    (u.chip.tile t).ldepth = 1 ∧ (u.chip.tile t).lc0 = (gReg s t rs1).toNat ∧ (u.chip.tile t).ls0 = ((s.chip.tile t).pc + 4) % 65536
      ∧ (u.chip.tile t).le0 = (s.chip.tile t).pc + 4 * imm.toNat ∧ (u.chip.tile t).pc = ((s.chip.tile t).pc + 4) % 65536
      ∧ TileFrame s u t := by
  obtain ⟨u, hu, hiss⟩ := ends_loop h (rs1 := rs1) himm hend (by omega)
  rw [if_neg hn] at hiss
  have htile := hiss.tile_same
  rw [retired_of_push _ _ rfl, pushLevel_first (x := Tile.underWay _ _ _) hd] at htile
  exact ⟨u, hu, congrArg Tile.ldepth htile, congrArg Tile.lc0 htile, congrArg Tile.ls0 htile, congrArg Tile.le0 htile,
    congrArg Tile.pc htile, tileFrame_of_issued hiss⟩

theorem ends_loop_skips (hd : (s.chip.tile t).ldepth < 2) (hn : gReg s t rs1 = 0) : Ends (.loop t 0 rs1 imm) s fun u =>
    Jumps s u t ((s.chip.tile t).pc + 4 * imm.toNat + 4) ∧ (u.chip.tile t).ldepth = (s.chip.tile t).ldepth ∧ TileFrame s u t := by
  obtain ⟨u, hu, hiss⟩ := ends_loop h (rs1 := rs1) himm hend hd
  rw [if_pos (by rw [hn]; rfl)] at hiss
  have hlow : (s.chip.tile t).pc + 4 * imm.toNat + 4 = low 32 (((s.chip.tile t).pc : Int) + 4 * imm.toNat + 4) := by
    have hsize : imemSize t ≤ 65536 := by
      unfold imemSize
      split <;> decide
    refine (Nat.mod_eq_of_lt ?_).symm.trans (low_natCast 32 _).symm
    omega
  refine ⟨u, hu, jumps_of_issued hiss rfl (congrArg some hlow) rfl, ?_, tileFrame_of_issued hiss⟩
  rw [hiss.tile_same, retired_of_jump _ _ rfl rfl]
  rfl

end

/-! ### The end of a level (R390) -/

section
variable {i : Instr} {w : Word} {reads : List Nat} {rd lat : Nat} {f : Tile → Int × Bool}
  (hi : exec i s = s.runC (fun c => c.compute t w false reads rd lat f))
  (hd : (s.chip.tile t).ldepth = 1) (hpc : (s.chip.tile t).pc = (s.chip.tile t).le0)
include hi hd hpc

theorem ends_compute_repeats (hlc : 1 < (s.chip.tile t).lc0) : Ends i s fun u =>
    (u.chip.tile t).pc = (s.chip.tile t).ls0 ∧ (u.chip.tile t).lc0 = (s.chip.tile t).lc0 - 1 ∧ (u.chip.tile t).ldepth = 1 := by
  obtain ⟨u, hu, y, hpush, hjump, hiss⟩ := ends_compute hi h
  have htile := hiss.tile_same
  rw [retired_of_advance _ _ hpush hjump, advance_repeats (x := Tile.underWay _ _ _) hd hpc hlc] at htile
  exact ⟨u, hu, congrArg Tile.pc htile, congrArg Tile.lc0 htile, (congrArg Tile.ldepth htile).trans hd⟩

theorem ends_compute_pops (hlc : (s.chip.tile t).lc0 = 1) : Ends i s fun u =>
    (u.chip.tile t).pc = ((s.chip.tile t).pc + 4) % 65536 ∧ (u.chip.tile t).ldepth = 0 := by
  obtain ⟨u, hu, y, hpush, hjump, hiss⟩ := ends_compute hi h
  have htile := hiss.tile_same
  rw [retired_of_advance _ _ hpush hjump, advance_pops (x := Tile.underWay _ _ _) hd hpc hlc] at htile
  exact ⟨u, hu, congrArg Tile.pc htile, congrArg Tile.ldepth htile⟩

end

end

theorem jumpsAndLoopsMoveThePc : JumpsAndLoopsMoveThePc := by
  intro s t rd rs1 imm h
  refine ⟨fun ht => ?jal, fun ht => ?jalr, ?opens, ?skips, ?repeats, ?pops⟩
  case jal => exact ends_jumpLink h {} ht rfl fun d hd => by simp only [hd.tile_same, Tile.relative]
  case jalr => exact ends_jumpLink h {} ht rfl fun d hd => by simp only [hd.tile_same, ea_eq]
  case opens => exact ends_loop_opens h
  case skips => exact ends_loop_skips h
  case repeats => exact ends_compute_repeats h rfl
  case pops => exact ends_compute_pops h rfl

/-- Settles O19: the branches by one lemma over their condition, the jumps by their link, LOOP and the end of a level by the tile retired. -/
theorem branchesJumpsAndLoopsMoveThePc : Obligations.BranchesJumpsAndLoopsMoveThePc :=
  ⟨branchesCompareTheirRegisters, jumpsAndLoopsMoveThePc⟩

end Sys2Proof.Slice0
end
